-- ==== Sys2Proof/Word.lean ====
section
/-! DEFINITION. The plain words of the station: octets, octets with their parity bit, and timers. -/

namespace Sys2Proof

/-- One octet of eight data bits; bit 0 is the least significant bit (spec/00_scope.md 0.14). -/
abbrev Byte := BitVec 8

/-- One octet as it stands on a line: bits 0 to 7 are the data bits and bit 8 is the parity bit (R1, R128). -/
abbrev WireOctet := BitVec 9

/-- A timer: `none` while it is stopped, `some n` while it runs with `n` ms left. -/
abbrev Timer := Option Nat

end Sys2Proof
end

