-- ==== Sys2Proof/Syntax.lean ====
section
/-! DEFINITION. The commands of the station: one constructor of `Instr` for each row of spec/opcode_table.json. -/

namespace Sys2Proof

/-- The five debounced command lines of section 8.4. -/
inductive Line where
  | start | stop | freset | estop | runIso
  deriving DecidableEq, Repr

/-- The six derate conditions, in the order of R108. -/
inductive Derate where
  | coolantWarm | coolantHigh | coolantVeryHigh | intakeWarm | intakeHigh | intakeVeryHigh
  deriving DecidableEq, Repr

/-- The two values whose reaching by the dwell clock is an event of R116: the down dwell of 1 s, and the up dwell of
the completed notch. -/
inductive DwellMark where
  | down | up
  deriving DecidableEq, Repr

/-- The commands. The table gives no operands; those below are what the rules need of the outside world at the event
(log entry 1). -/
inductive Instr where
  /-- POWER_ON_RESET (R19). -/
  | powerOnReset
  /-- RESET_RELEASE (R167): the levels of strap lines P0 to P2, C0 to C1 and F0 to F1, lowest-numbered strap as bit 0. -/
  | resetRelease (p : BitVec 3) (c f : BitVec 2)
  /-- WINDOW_TIMER_EXPIRY (R3): the µs for which octets already on the pair keep it busy as the new window begins, 0 where
  it is quiet (R1). -/
  | windowTimerExpiry (busyUs : Nat)
  /-- LISTENING_END (R13). -/
  | listeningEnd
  /-- DEFERRED_SEND (R8). -/
  | deferredSend
  /-- DEFERRAL_TIMEOUT (R8). -/
  | deferralTimeout
  /-- COLLISION (R2). -/
  | collision
  /-- CHECK_RECORD_SENT (R15). -/
  | checkRecordSent
  /-- LINE_CHECK_END (R15). -/
  | lineCheckEnd
  /-- RECORD_TAKEN (R10): the octets of the record as heard, parity bits included. -/
  | recordTaken (octets : List WireOctet)
  /-- PHANTOM_HOLD_EXPIRY (R64): the position whose hold runs out. -/
  | phantomHoldExpiry (p : Fin 8)
  /-- LINE_LEVEL_CHANGE (R154): the line and its new level. -/
  | lineLevelChange (line : Line) (asserted : Bool)
  /-- LINE_STABILITY_EXPIRY (R154): the line whose stability timer expires. -/
  | lineStabilityExpiry (line : Line)
  /-- DEMAND_CODE_CHANGE (R103): the new code ABCD, with A as bit 3 and D as bit 0. -/
  | demandCodeChange (code : BitVec 4)
  /-- DEMAND_STABILITY_EXPIRY (R103). -/
  | demandStabilityExpiry
  /-- DISAGREEMENT_TIMER_EXPIRY (R106). -/
  | disagreementTimerExpiry
  /-- DERATE_APPLY_TIMER_EXPIRY (R108). -/
  | derateApplyTimerExpiry (c : Derate)
  /-- DERATE_RELEASE_TIMER_EXPIRY (R108). -/
  | derateReleaseTimerExpiry (c : Derate)
  /-- DWELL_CLOCK_REACHED (R116). -/
  | dwellClockReached (mark : DwellMark)
  /-- ABANDON_HOLD_EXPIRY (R119). -/
  | abandonHoldExpiry
  /-- DEVIATION_WATCH_EXPIRY (R121). -/
  | deviationWatchExpiry
  /-- PRELUBE_TICK (R82). -/
  | prelubeTick
  /-- PRELUBE_TIMER_EXPIRY (R83). -/
  | prelubeTimerExpiry
  /-- TURN_CHECK_EXPIRY (R85). -/
  | turnCheckExpiry
  /-- CRANK_TIMER_EXPIRY (R85). -/
  | crankTimerExpiry
  /-- FIRING_HOLD_EXPIRY (R84). -/
  | firingHoldExpiry
  /-- REST_TIMER_EXPIRY (R87). -/
  | restTimerExpiry
  /-- FIRING_TIMER_EXPIRY (R88). -/
  | firingTimerExpiry
  /-- WARM_UP_TIMER_EXPIRY (R89). -/
  | warmUpTimerExpiry
  /-- AUTOSTOP_IDLE_TIMER_EXPIRY (R91). -/
  | autostopIdleTimerExpiry
  /-- COOLDOWN_TIMER_EXPIRY (R92). -/
  | cooldownTimerExpiry
  /-- SENDING_END (R133). -/
  | sendingEnd
  /-- REPLY_TAKEN (R135): the octets of the reply as heard, parity bits included. -/
  | replyTaken (octets : List WireOctet)
  /-- REPLY_TIMEOUT (R133). -/
  | replyTimeout
  /-- POLL_TIMER_EXPIRY (R143). -/
  | pollTimerExpiry
  /-- SPEED_PULSE (R146): the µs that have passed since the last counted pulse. -/
  | speedPulse (sinceCounted : Nat)
  /-- GATE_END (R147). -/
  | gateEnd
  /-- SILENCE_TIMER_EXPIRY (R148). -/
  | silenceTimerExpiry
  /-- BATTERY_SAMPLE (R150): the voltage on the battery sense input in mV. -/
  | batterySample (milliVolts : Nat)
  /-- SAG_EVENT (R151): the sample that brings the sag count to 31. -/
  | sagEvent
  /-- SAG_RECOVERY (R152): the sample that brings the recovery count to 31. -/
  | sagRecovery
  /-- CRANK_FAIL_HOLD_EXPIRY (R161). -/
  | crankFailHoldExpiry
  /-- CONFIG_TIMER_EXPIRY (R167). -/
  | configTimerExpiry
  /-- PORT_POINTER_SET (R171): the target address of the transaction and the first octet written. -/
  | portPointerSet (addr : BitVec 7) (value : Byte)
  /-- OVERRIDE_WRITE (R168): the target address and the data octet. -/
  | overrideWrite (addr : BitVec 7) (value : Byte)
  /-- COMMIT_WRITE (R167): the target address; the data octet is 0x5A. -/
  | commitWrite (addr : BitVec 7)
  /-- WRITE_REFUSED (R172): the target address and the data octet. -/
  | writeRefused (addr : BitVec 7) (value : Byte)
  /-- COHERENT_ENTRY_READ (R173): the target address. -/
  | coherentEntryRead (addr : BitVec 7)
  /-- COUNTER_LATCH_READ (R174): the target address. -/
  | counterLatchRead (addr : BitVec 7)
  /-- PORT_OCTET_READ (R171): the target address. -/
  | portOctetRead (addr : BitVec 7)
  deriving DecidableEq, Repr

end Sys2Proof
end

