-- ==== Sys2Proof/Decode.lean ====
section
/-! DEFINITION. The decoder over the rows of spec/opcode_table.json that give bits. No row of the table gives any, so every
word spells no command (log entry 29). -/

namespace Sys2Proof

/-- The command that a word of `nbits` bits spells by the table's bits: none, for every word. -/
def decodeTableWord (_nbits _w : Nat) : Option Instr := none

end Sys2Proof
end

