-- ==== Sys2Proof/Config.lean ====
section
/-! DEFINITION. The free values: what the spec leaves open and the station nevertheless settles. None has a body, so no proof
can see a value, and a claim about the model holds whatever they are. -/

namespace Sys2Proof

/-- Whether, at the n-th ESTOP assertion that meets a pending SEQUENCE or NOTCH request, the Engine-Room Channel takes
the assertion before the Start Sequencer does. R139 allows both orders (log entry 8). -/
opaque Config.inhibitFirst : Nat → Bool

/-- Whether a time of so many ms, no whole number of tenths of a second, is shown rounded up. Section 11.5 does not say
how CONFIG time left and the dwell clock are rounded to 0.1 s (log entry 17). -/
opaque Config.tenthsUp : Nat → Bool

/-- The source position held by a relay entry that R170 made OFF because this octet, its source, is above 7 (log
entry 18). -/
opaque Config.offSource : Byte → Fin 8

/-- The battery sample, in steps of 0.25 V below 48.0 V, that the n-th command SAG_EVENT stands for: R151 gives it no more than
that it is below 48.0 V (log entry 34). -/
opaque Config.sagSample : Nat → Fin 192

/-- The battery sample, in steps of 0.25 V above 48.0 V, that the n-th command SAG_RECOVERY stands for: R152 gives it no more
than that it is at or above 48.0 V (log entry 34). -/
opaque Config.recoverySample : Nat → Fin 320

/-- The µs for which octets on the pair keep it busy as the window begins that the n-th command LISTENING_END stands for: R13 names
the boundary alone (log entry 34). -/
opaque Config.listeningBusy : Nat → Nat

end Sys2Proof
end

