-- ==== Sys2Proof/Machine/State.lean ====
section
/-! DEFINITION. The state of the station as plain data, block by block (spec/00_scope.md 0.5), and its value after power-on
reset. Values the spec defines as functions of other state (the views, the cap, the outputs) are functions in Views.lean and
Flags.lean, not fields (log entry 9). -/

namespace Sys2Proof.Machine

/-! ## Names -/

/-- The six link states (section 1.6). -/
inductive LinkState where
  | config | listening | checking | joined | alone | silenced
  deriving DecidableEq, Repr

/-- The eleven engine states (R73). -/
inductive EngineState where
  | stopped | claiming | prelube | cranking | crankRest | firing | idleWarm | running | cooldown | shutdown | lockedOut
  deriving DecidableEq, Repr

/-- Why the engine is stopping or stopped (R73). -/
inductive StopReason where
  | manual | auto
  deriving DecidableEq, Repr

/-- The causes of a failed attempt (R73, R161). -/
inductive Cause where
  | noTurn | noFire | sag | starterFail | fireLost
  deriving DecidableEq, Repr

/-- The five engine-room devices (R126). -/
inductive Device where
  | governor | starter | prelube | load | sensors
  deriving DecidableEq, Repr

/-- The orders of the table of R126; each belongs to one device. -/
inductive Order where
  | setSpeed | fuelOff | engage | disengage | run | stop | status | setLoad | unload | read
  deriving DecidableEq, Repr

/-- The twenty fault kinds (section 9.1). -/
inductive FaultKind where
  | duplicatePosition | crankLockout | starterStuck | overspeed | oilLow | prelubeFail | stall | crankFail | startRefused
  | demandInvalid | demandDisagree | coolantHot | speedDeviation | batterySag | emergencyStop
  | deviceFailed (d : Device)
  deriving DecidableEq, Repr

/-- The five exception codes (R127). -/
inductive ExcCode where
  | deviceBusy | orderInvalid | argumentRange | actuatorFault | stuck
  deriving DecidableEq, Repr

/-- The states of a table entry (R35). -/
inductive EntryState where
  | absent | live | stale | lost
  deriving DecidableEq, Repr

/-- The source of an entry's data (R34): none while ABSENT, the unit itself, or a relaying position. -/
inductive Source where
  | none
  | direct
  | relayed (via : Fin 8)
  deriving DecidableEq, Repr

/-- The modes of a relay entry (R28). -/
inductive RelayMode where
  | off | latest | snapshot
  deriving DecidableEq, Repr

/-- The four users of the engine-room channel (R130). -/
inductive Client where
  | protect | sequence | notch | poll
  deriving DecidableEq, Repr

/-- The block that posted a request: in the PROTECT slot it may be either of two (R131). -/
inductive Producer where
  | ssq | nsp | erc
  deriving DecidableEq, Repr

/-! ## Groups of like things -/

/-- One value for each consist position 0 to 7. -/
structure PerPosition (α : Type) where
  p0 : α
  p1 : α
  p2 : α
  p3 : α
  p4 : α
  p5 : α
  p6 : α
  p7 : α
  deriving DecidableEq, Repr

/-- One value for each engine-room device. -/
structure PerDevice (α : Type) where
  governor : α
  starter : α
  prelube : α
  load : α
  sensors : α
  deriving DecidableEq, Repr

/-- One value for each command line. -/
structure PerLine (α : Type) where
  start : α
  stop : α
  freset : α
  estop : α
  runIso : α
  deriving DecidableEq, Repr

/-- One value for each client of the channel. -/
structure PerClient (α : Type) where
  protect : α
  sequence : α
  notch : α
  poll : α
  deriving DecidableEq, Repr

/-- One value for each derate condition. -/
structure PerDerate (α : Type) where
  coolantWarm : α
  coolantHigh : α
  coolantVeryHigh : α
  intakeWarm : α
  intakeHigh : α
  intakeVeryHigh : α
  deriving DecidableEq, Repr

/-! ## Configuration (MPT, R158 and R170) -/

/-- The strap values sampled at reset release (R158). -/
structure Straps where
  position : Fin 8
  engineClass : Fin 4
  floor : Fin 4
  deriving DecidableEq, Repr

/-- One entry of the relay map (R28). -/
structure RelayEntry where
  source : Fin 8
  mode : RelayMode
  deriving DecidableEq, Repr

/-- The committed configuration (R170). -/
structure Committed where
  position : Fin 8
  engineClass : Fin 4
  floor : Fin 4
  tag : BitVec 16
  relayA : RelayEntry
  relayB : RelayEntry
  autostop : Bool
  checkCount : Byte
  injectedCount : Byte
  deriving DecidableEq, Repr

/-- The cause of the commit (R167). -/
inductive CommitCause where
  | write | expiry
  deriving DecidableEq, Repr

/-- The commit state (R167): cleared by power-on reset, OPEN from reset release, COMMITTED with its cause. -/
inductive CommitState where
  | cleared
  | opened
  | committed (cause : CommitCause)
  deriving DecidableEq, Repr

/-- The coherence buffer's content (R173). -/
structure Coherence where
  entry : Fin 8
  octets : List Byte
  deriving DecidableEq, Repr

/-- The counter latch's content: the offset it serves and the octet (R174). -/
structure Latch where
  offset : Byte
  octet : Byte
  deriving DecidableEq, Repr

/-- The Maintenance Port and Strap Sampler's state (chapter 10). -/
structure Mpt where
  straps : Option Straps
  buffer : Vector Byte 16
  overrideWritten : Bool
  configTimer : Timer
  commitState : CommitState
  accepted : Bool
  rejected : Bool
  committed : Option Committed
  pointer : Byte
  coherence : Option Coherence
  latch : Option Latch
  writeRefused : Nat
  deriving DecidableEq, Repr

/-! ## Consist link (CLC, chapters 1 and 2) -/

/-- The link counters (R18). -/
structure LinkCounters where
  recordsGood : Nat
  checkError : Nat
  collision : Nat
  windowMissed : Nat
  dupPositionSeen : Nat
  tagChange : Nat
  lineBitErrors : Nat
  checkRecordsSeen : Nat
  deriving DecidableEq, Repr

/-- What kind of record is being sent, with what its ending must know: the kind a NOTICE carries (R2, R26), and whether a
CHECK carries an injected error (R16). -/
inductive RecordKind where
  | status
  | notice (kind : FaultKind)
  | check (injected : Bool)
  deriving DecidableEq, Repr

/-- The record being sent: its octets in the order sent, each with its parity bit (R1), and the µs until its last octet has gone
out. -/
structure SentRecord where
  kind : RecordKind
  octets : List WireOctet
  leftUs : Nat
  deriving DecidableEq, Repr

/-- The sending side of the link: no record, a deferral waiting for quiet (R8), or a record on the pair (R2). -/
inductive Tx where
  | idle
  | deferring
  | sending (r : SentRecord)
  deriving DecidableEq, Repr

/-- The receiving side of the link (R2, R9). `ready`: the pair has been quiet since the station last sent, so octets that start
on it are a record. `suspended`: the station has sent, or reset has been released, and reception is taken up when the pair next
becomes quiet. By the station's own octets alone it becomes so in `ownUs` µs, and `quietUs` counts the µs that have passed since
(log entry 10). -/
inductive Reception where
  | ready
  | suspended (ownUs quietUs : Nat)
  deriving DecidableEq, Repr

/-- One snapshot copy (R31). -/
structure Snapshot where
  age : Nat
  engine : EngineState
  completed : Nat
  target : Nat
  demand : Option Nat
  derate : Nat
  claim : Option Nat
  deriving DecidableEq, Repr

/-- The Consist Link Controller's state (R19). The window timer counts µs into the window, and `none` is stopped; `busyUs` is
the µs until the pair becomes quiet if no further octet starts, 0 while it is quiet (R1). -/
structure Clc where
  linkState : LinkState
  windowIndex : Fin 8
  windowTimer : Option Nat
  cycleCount : Byte
  repeatMark : Bool
  listeningCount : Nat
  remainingCheck : Nat
  remainingInjected : Nat
  checkIndex : Nat
  injectDone : Bool
  busyUs : Nat
  tx : Tx
  reception : Reception
  snapA : Option Snapshot
  snapB : Option Snapshot
  counters : LinkCounters
  deriving DecidableEq, Repr

/-! ## Consist table (CTAB, R34) -/

/-- The four engine flags of a record or entry (R24). -/
structure UnitFlags where
  isolated : Bool
  cooldownAuto : Bool
  autoStopped : Bool
  sensorsFailed : Bool
  deriving DecidableEq, Repr

/-- One entry of the Consist Table (R34). A tag of `none` is unknown; a demand of `none` is INVALID. -/
structure Entry where
  state : EntryState
  tag : Option (BitVec 16)
  source : Source
  age : Nat
  engine : EngineState
  prev : Option EngineState
  completed : Nat
  target : Nat
  demand : Option Nat
  derate : Nat
  flags : UnitFlags
  claim : Option Nat
  lastFault : Option FaultKind
  checkErrors : Nat
  deriving DecidableEq, Repr

/-! ## Crank permit (CPA, section 4.6) -/

/-- The Crank Permit Arbiter's state: the own claim's age, the phantom holds' ms left, and PERMIT_CLASH. -/
structure Cpa where
  claim : Option Nat
  holds : PerPosition Timer
  permitClash : Nat
  deriving DecidableEq, Repr

/-! ## Start Sequencer (SSQ, R73 and R102) -/

/-- The Start Sequencer's state. -/
structure Ssq where
  engine : EngineState
  attempts : Nat
  stopReason : StopReason
  stopInProgress : Bool
  lastCause : Option Cause
  fuelOrder : Bool
  overspeedMark : Bool
  releasePending : Bool
  pumpHeld : Bool
  runAccepted : Bool
  prelube : Timer
  prelubeTick : Timer
  crank : Timer
  turnCheck : Timer
  firingHold : Timer
  rest : Timer
  firing : Timer
  warmUp : Timer
  cooldown : Timer
  autostopIdle : Timer
  idleElapsed : Bool
  seqList : List Order
  protList : List Order
  deriving DecidableEq, Repr

/-! ## Notch Stepper (NSP, R125) -/

/-- The direction of a step (R112). -/
inductive Direction where
  | up | down | retry
  deriving DecidableEq, Repr

/-- The phase of a step (R112). -/
inductive Phase where
  | first | second
  deriving DecidableEq, Repr

/-- A step in flight (R112). -/
structure Step where
  direction : Direction
  fromNotch : Nat
  toNotch : Nat
  phase : Phase
  restoring : Bool
  deriving DecidableEq, Repr

/-- One derate condition (R108). -/
structure DerateCond where
  applied : Bool
  applyTimer : Timer
  releaseTimer : Timer
  deriving DecidableEq, Repr

/-- A running deviation watch (R121). -/
structure Watch where
  notch : Nat
  left : Nat
  deriving DecidableEq, Repr

/-- The Notch Stepper's state. The dwell clock counts ms since it was started; `none` is stopped. -/
structure Nsp where
  reading : Option Nat
  demandTimer : Timer
  disagreeTimer : Timer
  derates : PerDerate DerateCond
  completed : Nat
  step : Option Step
  dwell : Option Nat
  abandonHold : Timer
  governorOwed : Bool
  watch : Option Watch
  urgentList : List Order
  deriving DecidableEq, Repr

/-! ## Engine-Room Channel (ERC, section 7.9) -/

/-- A request as its client posted it (R126): one order, one argument, and the block that posted it. -/
structure Request where
  order : Order
  arg : BitVec 16
  producer : Producer
  deriving DecidableEq, Repr

/-- A client slot (R130). -/
inductive Slot where
  | empty
  | pending (r : Request)
  | inFlight (r : Request)
  deriving DecidableEq, Repr

/-- The channel sequencer's states (section 7.4). -/
inductive Sequencer where
  | idle | sending | awaiting
  deriving DecidableEq, Repr

/-- The current transaction record (R132). -/
structure Transaction where
  client : Client
  request : Request
  tag : BitVec 4
  deriving DecidableEq, Repr

/-- One device's health record (R140); the health state follows the consecutive failures. -/
structure Health where
  consecutive : Nat
  total : Nat
  lastException : Option ExcCode
  deriving DecidableEq, Repr

/-- The standing of a device (R140). -/
inductive HealthState where
  | ok | suspect | failed
  deriving DecidableEq, Repr

/-- The states of the engine sensor record (R144). -/
inductive RecordState where
  | empty | valid | stale
  deriving DecidableEq, Repr

/-- The engine sensor record (R144); temperatures in °C, age in ms. -/
structure SensorRecord where
  coolant : Int
  intake : Int
  oilLow : Bool
  age : Nat
  state : RecordState
  deriving DecidableEq, Repr

/-- The reply line since reset release: it waits for 20 bit times of quiet, with the bit times that have passed since the release
for certain, until a quiet of the line is known (R129, R136, log entry 38). -/
inductive ReplyLine where
  | clear
  | waiting (bitTimes : Nat)
  deriving DecidableEq, Repr

/-- The Engine-Room Channel's state. -/
structure Erc where
  sequencer : Sequencer
  current : Option Transaction
  sinceSent : Nat
  replyLine : ReplyLine
  replyTimer : Timer
  slots : PerClient Slot
  tag : BitVec 4
  health : PerDevice Health
  sensor : SensorRecord
  pollTimer : Timer
  lateReply : Nat
  deriving DecidableEq, Repr

/-! ## Line Monitors (LMN, section 8.6) -/

/-- A line's debounced level (`none` is not taken; `true` is asserted, for RUN_ISO ISOLATE) and its stability timer (R154). -/
structure DebouncedLine where
  level : Option Bool
  timer : Timer
  deriving DecidableEq, Repr

/-- The Line Monitors' state. The latest sample counts steps of 0.25 V. -/
structure Lmn where
  pulseCounted : Bool
  gateTimer : Timer
  gateCount : Nat
  lastGate : Nat
  measured : Nat
  silenceTimer : Timer
  silence : Bool
  overspeedForce : Bool
  sampleTimer : Timer
  sample : Option Nat
  sagCount : Nat
  recoveryCount : Nat
  sagFlag : Bool
  lines : PerLine DebouncedLine
  deriving DecidableEq, Repr

/-! ## Fault Collector (FCL, section 9.7) -/

/-- The first-fault record's fields (R164). -/
structure FirstFault where
  kind : FaultKind
  engine : EngineState
  cycle : Byte
  deriving DecidableEq, Repr

/-- The Fault Collector's state. The active set is listed in the order of the fault codes, so equal sets are equal lists;
the notice-pending set is listed oldest first. -/
structure Fcl where
  active : List FaultKind
  notices : List FaultKind
  firstFault : Option FirstFault
  crankFailCause : Option Cause
  crankFailTimer : Timer
  deriving DecidableEq, Repr

/-! ## Pins and the whole station -/

/-- Levels on the input lines (`true` is asserted, for RUN_ISO ISOLATE), the code on the demand lines, the octet the port last
served, and whether the port acknowledged the last octet offered on it, data or address (R171, R172, log entry 37). -/
structure Pins where
  lines : PerLine Bool
  demandCode : BitVec 4
  portOut : Option Byte
  portAck : Bool
  deriving DecidableEq, Repr

/-- The station: its nine blocks, its pins, whether it is held in power-on reset, the counter behind the free values
(the model's own field, log entry 8), and the commands that wait. -/
structure State where
  clc : Clc
  table : PerPosition Entry
  cpa : Cpa
  ssq : Ssq
  nsp : Nsp
  erc : Erc
  lmn : Lmn
  fcl : Fcl
  mpt : Mpt
  pins : Pins
  inReset : Bool
  freeCount : Nat
  pending : List Instr
  deriving DecidableEq, Repr

/-- No command stops the station: by the rules every command has an effect, or none, in every state. -/
inductive Fault where
  deriving DecidableEq, Repr

/-- Reasons to refuse a command. -/
inductive Refusal where
  /-- Raised by an arm of `exec` whose command has no meaning yet; safe. No arm raises it. -/
  | notModelled (mnemonic : String)
  deriving DecidableEq, Repr

/-! ## Power-on reset -/

/-- An entry that holds no unit data, with its check-error count (R34). -/
def Entry.absentWith (checkErrors : Nat) : Entry :=
  { state := .absent, tag := none, source := .none, age := 0, engine := .stopped, prev := none, completed := 0, target := 0,
    demand := some 0, derate := 0, flags := ⟨false, false, false, false⟩, claim := none, lastFault := none, checkErrors }

/-- CLC after power-on reset (R19). -/
def Clc.reset : Clc :=
  { linkState := .config, windowIndex := 0, windowTimer := none, cycleCount := 0, repeatMark := false, listeningCount := 0,
    remainingCheck := 0, remainingInjected := 0, checkIndex := 0, injectDone := false, busyUs := 80, tx := .idle,
    reception := .suspended 80 0, snapA := none, snapB := none, counters := ⟨0, 0, 0, 0, 0, 0, 0, 0⟩ }

/-- CPA after power-on reset (section 4.6). -/
def Cpa.reset : Cpa :=
  { claim := none, holds := ⟨none, none, none, none, none, none, none, none⟩, permitClash := 0 }

/-- SSQ after power-on reset (R75, R102). -/
def Ssq.reset : Ssq :=
  { engine := .shutdown, attempts := 0, stopReason := .manual, stopInProgress := false, lastCause := none,
    fuelOrder := false, overspeedMark := false, releasePending := true, pumpHeld := false, runAccepted := false,
    prelube := none, prelubeTick := none, crank := none, turnCheck := none, firingHold := none, rest := none, firing := none,
    warmUp := none, cooldown := none, autostopIdle := none, idleElapsed := false,
    seqList := [.disengage, .stop, .fuelOff], protList := [] }

/-- A released derate condition with its timers stopped (R109). -/
def DerateCond.released : DerateCond := ⟨false, none, none⟩

/-- NSP after power-on reset (R125). -/
def Nsp.reset : Nsp :=
  { reading := none, demandTimer := none, disagreeTimer := none,
    derates := ⟨.released, .released, .released, .released, .released, .released⟩,
    completed := 0, step := none, dwell := none, abandonHold := none, governorOwed := false, watch := none,
    urgentList := [] }

/-- A health record after power-on reset or fault reset (R140, R142). -/
def Health.ok : Health := ⟨0, 0, none⟩

/-- ERC after power-on reset (section 7.9). -/
def Erc.reset : Erc :=
  { sequencer := .idle, current := none, sinceSent := 0, replyLine := .waiting 0, replyTimer := none,
    slots := ⟨.empty, .empty, .empty, .empty⟩, tag := 0, health := ⟨.ok, .ok, .ok, .ok, .ok⟩,
    sensor := ⟨0, 0, false, 65535, .empty⟩, pollTimer := none, lateReply := 0 }

/-- LMN after power-on reset (section 8.6). -/
def Lmn.reset : Lmn :=
  { pulseCounted := false, gateTimer := none, gateCount := 0, lastGate := 0, measured := 0, silenceTimer := none,
    silence := true, overspeedForce := false, sampleTimer := none, sample := none, sagCount := 0, recoveryCount := 0,
    sagFlag := false, lines := ⟨⟨none, none⟩, ⟨none, none⟩, ⟨none, none⟩, ⟨none, none⟩, ⟨none, none⟩⟩ }

/-- FCL after power-on reset (section 9.7). -/
def Fcl.reset : Fcl :=
  { active := [], notices := [], firstFault := none, crankFailCause := none, crankFailTimer := none }

/-- MPT after power-on reset (R167 to R174). -/
def Mpt.reset : Mpt :=
  { straps := none, buffer := Vector.replicate 16 0, overrideWritten := false, configTimer := none, commitState := .cleared,
    accepted := false, rejected := false, committed := none, pointer := 0, coherence := none, latch := none,
    writeRefused := 0 }

/-- The station held in power-on reset; levels on the pins not asserted (DESIGN CHOICE, log entries 6 and 7). -/
def State.reset : State :=
  { clc := .reset, table := ⟨.absentWith 0, .absentWith 0, .absentWith 0, .absentWith 0, .absentWith 0, .absentWith 0,
      .absentWith 0, .absentWith 0⟩, cpa := .reset, ssq := .reset, nsp := .reset, erc := .reset, lmn := .reset, fcl := .reset,
    mpt := .reset, pins := ⟨⟨false, false, false, false, false⟩, 0, none, false⟩, inReset := true, freeCount := 0, pending := [] }

end Sys2Proof.Machine
end

