-- ==== Sys2Proof/Machine/Flags.lean ====
section
/-! DEFINITION. The Fault Collector's shared operations (chapter 9), access to the groups of like things, and the output lines
FUEL_RUN and ALARM_LAMP as functions of the state. -/

namespace Sys2Proof.Machine

/-! ## Access to the groups -/

/-- The value of position `p`. -/
def PerPosition.get {α : Type} (t : PerPosition α) (p : Fin 8) : α :=
  match p with
  | 0 => t.p0
  | 1 => t.p1
  | 2 => t.p2
  | 3 => t.p3
  | 4 => t.p4
  | 5 => t.p5
  | 6 => t.p6
  | 7 => t.p7

/-- The group with the value of position `p` replaced. -/
def PerPosition.set {α : Type} (t : PerPosition α) (p : Fin 8) (v : α) : PerPosition α :=
  match p with
  | 0 => { t with p0 := v }
  | 1 => { t with p1 := v }
  | 2 => { t with p2 := v }
  | 3 => { t with p3 := v }
  | 4 => { t with p4 := v }
  | 5 => { t with p5 := v }
  | 6 => { t with p6 := v }
  | 7 => { t with p7 := v }

/-- The group made of one value for each position. -/
def PerPosition.build {α : Type} (f : Fin 8 → α) : PerPosition α :=
  ⟨f 0, f 1, f 2, f 3, f 4, f 5, f 6, f 7⟩

/-- The value of device `d`. -/
def PerDevice.get {α : Type} (t : PerDevice α) : Device → α
  | .governor => t.governor
  | .starter => t.starter
  | .prelube => t.prelube
  | .load => t.load
  | .sensors => t.sensors

/-- The group with the value of device `d` replaced. -/
def PerDevice.set {α : Type} (t : PerDevice α) (d : Device) (v : α) : PerDevice α :=
  match d with
  | .governor => { t with governor := v }
  | .starter => { t with starter := v }
  | .prelube => { t with prelube := v }
  | .load => { t with load := v }
  | .sensors => { t with sensors := v }

/-- The value of line `l`. -/
def PerLine.get {α : Type} (t : PerLine α) : Line → α
  | .start => t.start
  | .stop => t.stop
  | .freset => t.freset
  | .estop => t.estop
  | .runIso => t.runIso

/-- The group with the value of line `l` replaced. -/
def PerLine.set {α : Type} (t : PerLine α) (l : Line) (v : α) : PerLine α :=
  match l with
  | .start => { t with start := v }
  | .stop => { t with stop := v }
  | .freset => { t with freset := v }
  | .estop => { t with estop := v }
  | .runIso => { t with runIso := v }

/-- The value of client `c`. -/
def PerClient.get {α : Type} (t : PerClient α) : Client → α
  | .protect => t.protect
  | .sequence => t.sequence
  | .notch => t.notch
  | .poll => t.poll

/-- The group with the value of client `c` replaced. -/
def PerClient.set {α : Type} (t : PerClient α) (c : Client) (v : α) : PerClient α :=
  match c with
  | .protect => { t with protect := v }
  | .sequence => { t with sequence := v }
  | .notch => { t with notch := v }
  | .poll => { t with poll := v }

/-- The value of condition `c`. -/
def PerDerate.get {α : Type} (t : PerDerate α) : Derate → α
  | .coolantWarm => t.coolantWarm
  | .coolantHigh => t.coolantHigh
  | .coolantVeryHigh => t.coolantVeryHigh
  | .intakeWarm => t.intakeWarm
  | .intakeHigh => t.intakeHigh
  | .intakeVeryHigh => t.intakeVeryHigh

/-- The group with the value of condition `c` replaced. -/
def PerDerate.set {α : Type} (t : PerDerate α) (c : Derate) (v : α) : PerDerate α :=
  match c with
  | .coolantWarm => { t with coolantWarm := v }
  | .coolantHigh => { t with coolantHigh := v }
  | .coolantVeryHigh => { t with coolantVeryHigh := v }
  | .intakeWarm => { t with intakeWarm := v }
  | .intakeHigh => { t with intakeHigh := v }
  | .intakeVeryHigh => { t with intakeVeryHigh := v }

/-- A count that saturates at `top`. -/
def satAdd (top n k : Nat) : Nat := min top (n + k)

/-- One more on a 16-bit saturating count (section 0.14). -/
def sat16 (n : Nat) : Nat := satAdd 65535 n 1

/-! ## Fault kinds -/

/-- All kinds in the order of their codes (section 11.4). -/
def FaultKind.all : List FaultKind :=
  [.duplicatePosition, .crankLockout, .starterStuck, .overspeed, .oilLow, .prelubeFail, .stall, .crankFail, .startRefused,
   .demandInvalid, .demandDisagree, .coolantHot, .speedDeviation, .batterySag, .emergencyStop, .deviceFailed .governor,
   .deviceFailed .starter, .deviceFailed .prelube, .deviceFailed .load, .deviceFailed .sensors]

/-- The code of a kind (section 11.4). -/
def FaultKind.code : FaultKind → Nat
  | .duplicatePosition => 1
  | .crankLockout => 2
  | .starterStuck => 3
  | .overspeed => 4
  | .oilLow => 5
  | .prelubeFail => 6
  | .stall => 7
  | .crankFail => 8
  | .startRefused => 9
  | .demandInvalid => 10
  | .demandDisagree => 11
  | .coolantHot => 12
  | .speedDeviation => 13
  | .batterySag => 14
  | .emergencyStop => 15
  | .deviceFailed .governor => 16
  | .deviceFailed .starter => 17
  | .deviceFailed .prelube => 18
  | .deviceFailed .load => 19
  | .deviceFailed .sensors => 20

/-- The kind of a code; none for 0 and for 21 and above (R175). -/
def FaultKind.ofCode (n : Nat) : Option FaultKind :=
  FaultKind.all.find? (fun k => k.code == n)

/-- The four lockout kinds (R160). -/
def FaultKind.lockout : FaultKind → Bool
  | .crankLockout | .starterStuck | .overspeed | .oilLow => true
  | _ => false

/-- The seven latched kinds (R165). -/
def FaultKind.latched : FaultKind → Bool
  | .duplicatePosition | .prelubeFail | .stall => true
  | k => k.lockout

/-- The kinds a block's clear removes: neither latched nor the event kind (section 9.1, R159). -/
def FaultKind.selfClearing (k : FaultKind) : Bool :=
  !k.latched && decide (k ≠ .crankFail)

/-- The active fault set with one kind more, in the order of the codes. -/
def addKind (k : FaultKind) (ks : List FaultKind) : List FaultKind :=
  FaultKind.all.filter (fun x => decide (x = k) || ks.contains x)

/-- The active fault set without one kind. -/
def dropKind (k : FaultKind) (ks : List FaultKind) : List FaultKind :=
  ks.filter (fun x => decide (x ≠ k))

/-- Whether a kind is in the active fault set. -/
def State.faultActive (s : State) (k : FaultKind) : Bool := s.fcl.active.contains k

/-- A kind joins the notice-pending set at the back, or keeps its place (R163). -/
def joinNotices (k : FaultKind) (ks : List FaultKind) : List FaultKind :=
  if ks.contains k then ks else ks ++ [k]

/-- A raise (R159): a kind not in the set enters it, joins the notice-pending set, and fills an empty first-fault record
if it is latched, with the engine state and cycle count as they stand (R164). -/
def raiseFault (k : FaultKind) (s : State) : State :=
  if s.faultActive k then s
  else
    { s with fcl := { s.fcl with
        active := addKind k s.fcl.active
        notices := joinNotices k s.fcl.notices
        firstFault :=
          if k.latched && s.fcl.firstFault.isNone then some ⟨k, s.ssq.engine, s.clc.cycleCount⟩ else s.fcl.firstFault } }

/-- A block's clear (R159): it removes self-clearing kinds alone. -/
def clearFault (k : FaultKind) (s : State) : State :=
  if k.selfClearing then { s with fcl := { s.fcl with active := dropKind k s.fcl.active } } else s

/-- A raise of CRANK_FAIL with its cause (R161): the cause is replaced and the hold timer started at 5 s. -/
def raiseCrankFail (c : Cause) (s : State) : State :=
  let s := raiseFault .crankFail s
  { s with fcl := { s.fcl with crankFailCause := some c, crankFailTimer := some 5000 } }

/-- A NOTICE that collided hands its kind back as the oldest pending one (R2, R163). -/
def restoreNotice (k : FaultKind) (s : State) : State :=
  { s with fcl := { s.fcl with notices := k :: s.fcl.notices.filter (fun x => decide (x ≠ k)) } }

/-- Whether a lockout kind is active (R93). -/
def State.lockoutActive (s : State) : Bool := s.fcl.active.any FaultKind.lockout

/-- What a fault reset does in the Fault Collector (R166). -/
def faultResetFaults (s : State) : State :=
  { s with fcl := { s.fcl with
      active := s.fcl.active.filter (fun k =>
        !(k.lockout && s.lmn.silence) && decide (k ≠ .prelubeFail) && decide (k ≠ .stall))
      firstFault := none } }

/-! ## Output lines and lines as read -/

/-- ALARM_LAMP: lit exactly while the active fault set holds a latched kind (R165). -/
def State.alarmLamp (s : State) : Bool := s.fcl.active.any FaultKind.latched

/-- The debounced ESTOP level, read as not asserted while not taken (R156). -/
def State.estop (s : State) : Bool := s.lmn.lines.estop.level == some true

/-- FUEL_RUN (R79): asserted while the fuel order is set, ESTOP is not asserted, and the overspeed mark and force are
clear. -/
def State.fuelRun (s : State) : Bool :=
  s.ssq.fuelOrder && !s.estop && !s.ssq.overspeedMark && !s.lmn.overspeedForce

/-- RUN_ISO as read: ISOLATE while not taken (R157). -/
def State.isolated (s : State) : Bool := s.lmn.lines.runIso.level.getD true

end Sys2Proof.Machine
end

