-- ==== Sys2Proof/Machine/Operands.lean ====
section
/-! DEFINITION. The octets of the two links: parity and check octets, the decoding and tests of records and replies, the CHECK
payload, and the encodings of chapter 11. -/

namespace Sys2Proof.Machine

/-! ## Octets -/

/-- A number as an octet. -/
def byteOf (n : Nat) : Byte := BitVec.ofNat 8 n

/-- A Boolean as a bit of weight `w`. -/
def flagBit (b : Bool) (w : Nat) : Nat := if b then w else 0

/-- The field of `len` bits from bit `lo` on. -/
def field (b : Byte) (lo len : Nat) : Nat := b.toNat / 2 ^ lo % 2 ^ len

/-- How many of the low `n` bits are ones. -/
def onesBelow {w : Nat} (v : BitVec w) : Nat → Nat
  | 0 => 0
  | n + 1 => onesBelow v n + flagBit (v.getLsbD n) 1

/-- The nine bits together hold an odd number of ones (R1, R128). -/
def oddParity (w : WireOctet) : Bool := onesBelow w 9 % 2 == 1

/-- The data bits of an octet on a line. -/
def dataBits (w : WireOctet) : Byte := w.setWidth 8

/-- An octet with the parity bit that a sender gives it (R1). -/
def withParity (b : Byte) : WireOctet :=
  if onesBelow b 8 % 2 == 1 then b.setWidth 9 else b.setWidth 9 ||| 0x100

/-- The XOR of octets (R10, R128, R169). -/
def xorAll (bs : List Byte) : Byte := bs.foldl (· ^^^ ·) 0

/-- Octet `i` of a transmission; 0 past its end. -/
def octetAt (bs : List Byte) (i : Nat) : Byte := bs.getD i 0

/-- The low octet of a 16-bit value. -/
def lowOctet (n : Nat) : Byte := byteOf (n % 256)

/-- The high octet of a 16-bit value. -/
def highOctet (n : Nat) : Byte := byteOf (n / 256 % 256)

/-- The last octet equals the XOR of all the octets before it (R10, R135). -/
def checkOctetOk (bs : List Byte) : Bool :=
  match bs.getLast? with
  | none => false
  | some c => xorAll bs.dropLast == c

/-! ## Codes of chapter 11 -/

/-- The code of an engine state (section 5.1). -/
def EngineState.code : EngineState → Nat
  | .stopped => 0
  | .claiming => 1
  | .prelube => 2
  | .cranking => 3
  | .crankRest => 4
  | .firing => 5
  | .idleWarm => 6
  | .running => 7
  | .cooldown => 8
  | .shutdown => 9
  | .lockedOut => 10

/-- The engine state taken from a code: 11 to 15 are taken as LOCKED_OUT (R175). -/
def EngineState.ofCode : Nat → EngineState
  | 0 => .stopped
  | 1 => .claiming
  | 2 => .prelube
  | 3 => .cranking
  | 4 => .crankRest
  | 5 => .firing
  | 6 => .idleWarm
  | 7 => .running
  | 8 => .cooldown
  | 9 => .shutdown
  | _ => .lockedOut

/-- The code of a demand: its number, or 15 for INVALID (section 11.1). -/
def demandCodeOf : Option Nat → Nat
  | none => 15
  | some n => n

/-- The demand taken from a code: 9 to 15 are INVALID (R175). -/
def demandOfCode (n : Nat) : Option Nat := if n ≤ 8 then some n else none

/-- A notch or derate cap taken from a code: 9 to 15 are taken as 8 (R175). -/
def notchOfCode (n : Nat) : Nat := min n 8

/-- The link state code of a record (section 11.1). -/
def linkCode : LinkState → Nat
  | .joined => 1
  | .alone => 2
  | .checking => 3
  | _ => 0

/-- The flags octet (section 11.1). -/
def UnitFlags.bits (f : UnitFlags) : Nat :=
  flagBit f.isolated 1 + flagBit f.cooldownAuto 2 + flagBit f.autoStopped 4 + flagBit f.sensorsFailed 8

/-- The flags taken from a flags octet. -/
def UnitFlags.ofOctet (b : Byte) : UnitFlags := ⟨b.getLsbD 0, b.getLsbD 1, b.getLsbD 2, b.getLsbD 3⟩

/-! ## Records (R20, R21, section 11.1) -/

/-- The three opening marks. -/
inductive Mark where
  | status | notice | check
  deriving DecidableEq, Repr

/-- The octet of a mark. -/
def Mark.octet : Mark → Byte
  | .status => 0xA5
  | .notice => 0xA6
  | .check => 0xA9

/-- The mark an octet is, if it is one. -/
def Mark.ofOctet (b : Byte) : Option Mark :=
  if b = 0xA5 then some .status else if b = 0xA6 then some .notice else if b = 0xA9 then some .check else none

/-- A relayed summary (R29). -/
structure Summary where
  origin : Fin 8
  age : Nat
  engine : EngineState
  completed : Nat
  target : Nat
  demand : Option Nat
  derate : Nat
  claim : Option Nat
  deriving DecidableEq, Repr

/-- What a STATUS or NOTICE record says of its own unit, apart from the header (R20). -/
structure Contents where
  engine : EngineState
  completed : Nat
  target : Nat
  demand : Option Nat
  derate : Nat
  flags : UnitFlags
  claim : Option Nat
  deriving DecidableEq, Repr

/-- A record as a receiver takes it by the layouts of section 11.1. `fault` is the decoded fault code of a NOTICE. -/
structure Record where
  mark : Mark
  origin : Fin 8
  deferred : Bool
  tag : BitVec 16
  cycle : Byte
  contents : Contents
  fault : Option FaultKind
  summaries : List Summary
  payload : List Byte
  deriving DecidableEq, Repr

/-- The claim-present flag of a record. -/
def claimPresent (bs : List Byte) : Bool := (octetAt bs 1).getLsbD 6

/-- The relay count of a record. -/
def relayCount (bs : List Byte) : Nat := field (octetAt bs 5) 4 2

/-- The length test of R10. -/
def recordLengthOk (m : Mark) (bs : List Byte) : Bool :=
  let extra := flagBit (claimPresent bs) 1 + 6 * relayCount bs
  match m with
  | .status => decide (relayCount bs ≤ 2) && bs.length == 10 + extra
  | .notice => decide (relayCount bs ≤ 2) && bs.length == 11 + extra
  | .check => !claimPresent bs && relayCount bs == 0 && bs.length == 23

/-- The origin position named by an octet 1. -/
def originOf (b : Byte) : Fin 8 := Fin.ofNat 8 (field b 0 3)

/-- The summary in six octets (section 11.1). -/
def parseSummary (bs : List Byte) : Summary :=
  { origin := originOf (octetAt bs 0)
    age := field (octetAt bs 1) 0 6
    engine := EngineState.ofCode (field (octetAt bs 2) 0 4)
    completed := notchOfCode (field (octetAt bs 3) 0 4)
    target := notchOfCode (field (octetAt bs 3) 4 4)
    demand := demandOfCode (field (octetAt bs 4) 0 4)
    derate := notchOfCode (field (octetAt bs 4) 4 4)
    claim := if (octetAt bs 0).getLsbD 7 then some (octetAt bs 5).toNat else none }

/-- The first `n` summaries of a relay list. -/
def parseSummaries : Nat → List Byte → List Summary
  | 0, _ => []
  | n + 1, bs => parseSummary (bs.take 6) :: parseSummaries n (bs.drop 6)

/-- The fields of a record that passed the tests (R175). -/
def parseRecord (m : Mark) (bs : List Byte) : Record :=
  let faultAt := 9
  let claimAt := if m = .notice then 10 else 9
  let listAt := claimAt + flagBit (claimPresent bs) 1
  { mark := m
    origin := originOf (octetAt bs 1)
    deferred := (octetAt bs 1).getLsbD 3
    tag := octetAt bs 3 ++ octetAt bs 2
    cycle := octetAt bs 4
    contents :=
      { engine := EngineState.ofCode (field (octetAt bs 5) 0 4)
        completed := notchOfCode (field (octetAt bs 6) 0 4)
        target := notchOfCode (field (octetAt bs 6) 4 4)
        demand := demandOfCode (field (octetAt bs 7) 0 4)
        derate := notchOfCode (field (octetAt bs 7) 4 4)
        flags := UnitFlags.ofOctet (octetAt bs 8)
        claim := if claimPresent bs then some (octetAt bs claimAt).toNat else none }
    fault := if m = .notice then FaultKind.ofCode (octetAt bs faultAt).toNat else none
    summaries := parseSummaries (relayCount bs) (bs.drop listAt)
    payload := if m = .check then (bs.drop 6).take 16 else [] }

/-- The four tests of R10, and the record if all pass. -/
def acceptRecord (ws : List WireOctet) : Option Record :=
  let bs := ws.map dataBits
  if ws.all oddParity then
    match Mark.ofOctet (octetAt bs 0) with
    | none => none
    | some m => if !bs.isEmpty && recordLengthOk m bs && checkOctetOk bs then some (parseRecord m bs) else none
  else none

/-- The origin position of a record whose octet 1 arrived with correct parity (R10). -/
def legibleOrigin (ws : List WireOctet) : Option (Fin 8) :=
  match ws[1]? with
  | none => none
  | some w => if oddParity w then some (originOf (dataBits w)) else none

/-- Octets closed by their check octet. -/
def closed (bs : List Byte) : List Byte := bs ++ [xorAll bs]

/-- The six octets of a summary (section 11.1). -/
def Summary.octets (m : Summary) : List Byte :=
  [byteOf (m.origin.val + flagBit m.claim.isSome 128), byteOf m.age, byteOf m.engine.code, byteOf (m.completed + 16 * m.target),
   byteOf (demandCodeOf m.demand + 16 * m.derate), byteOf (m.claim.getD 0)]

/-- The header octet 1 of a record (section 11.1). -/
def headerOctet (origin : Fin 8) (deferred : Bool) (link : LinkState) (claim : Bool) : Byte :=
  byteOf (origin.val + flagBit deferred 8 + 16 * linkCode link + flagBit claim 64)

/-- The octets of a STATUS (no kind) or NOTICE (with its kind) record (R20, section 11.1). -/
def statusOctets (kind : Option FaultKind) (origin : Fin 8) (deferred : Bool) (link : LinkState) (tag : BitVec 16) (cycle : Byte)
    (c : Contents) (relays : List Summary) : List Byte :=
  closed ([(if kind.isSome then Mark.notice else Mark.status).octet, headerOctet origin deferred link c.claim.isSome,
      lowOctet tag.toNat, highOctet tag.toNat, cycle, byteOf (c.engine.code + 16 * relays.length),
      byteOf (c.completed + 16 * c.target), byteOf (demandCodeOf c.demand + 16 * c.derate), byteOf c.flags.bits]
    ++ (kind.map (fun k => byteOf k.code)).toList
    ++ (c.claim.map byteOf).toList
    ++ (relays.map Summary.octets).flatten)

/-! ## The CHECK payload (R16) -/

/-- The nine stages, stage i as bit i - 1, after seeding. -/
def seedStages (origin : Fin 8) (cycle : Byte) : BitVec 9 :=
  (cycle ^^^ byteOf (32 * origin.val)).setWidth 9 ||| 0x100

/-- One step: every stage takes the next lower one's content, and stage 1 takes stage 9 XOR stage 5. -/
def stepStages (v : BitVec 9) : BitVec 9 :=
  (v <<< 1) ||| (if v.getLsbD 8 != v.getLsbD 4 then 1 else 0)

/-- `n` output bits from bit `k` of an octet up, and the stages after them. -/
def payloadOctet : Nat → Nat → BitVec 9 → Byte × BitVec 9
  | 0, _, v => (0, v)
  | n + 1, w, v =>
    let (rest, v') := payloadOctet n (2 * w) (stepStages v)
    (byteOf (flagBit (v.getLsbD 8) w) ||| rest, v')

/-- `n` payload octets. -/
def payloadOctets : Nat → BitVec 9 → List Byte
  | 0, _ => []
  | n + 1, v =>
    let (b, v') := payloadOctet 8 1 v
    b :: payloadOctets n v'

/-- The payload of a CHECK record before any injected error. -/
def checkPayload (origin : Fin 8) (cycle : Byte) : List Byte := payloadOctets 16 (seedStages origin cycle)

/-- Bit 0 of payload octet (check index modulo 16) inverted. -/
def injectError (checkIndex : Nat) (bs : List Byte) : List Byte :=
  bs.set (checkIndex % 16) (octetAt bs (checkIndex % 16) ^^^ 1)

/-- The octets of a CHECK record (R21, section 11.1). -/
def checkOctets (origin : Fin 8) (deferred : Bool) (tag : BitVec 16) (cycle : Byte) (payload : List Byte) : List Byte :=
  closed ([Mark.check.octet, headerOctet origin deferred .checking false, lowOctet tag.toNat, highOctet tag.toNat, cycle, 0]
    ++ payload)

/-- How many bits of two payloads differ (R17). -/
def differingBits : List Byte → List Byte → Nat
  | a :: as, b :: bs => onesBelow (a ^^^ b) 8 + differingBits as bs
  | _, _ => 0

/-! ## Engine-room requests and replies (section 11.2) -/

/-- The address of a device (R126). -/
def Device.address : Device → Byte
  | .governor => 0b00011
  | .starter => 0b00101
  | .prelube => 0b00110
  | .load => 0b01001
  | .sensors => 0b01010

/-- The device an order belongs to (R126). -/
def Order.device : Order → Device
  | .setSpeed | .fuelOff => .governor
  | .engage | .disengage => .starter
  | .run | .stop | .status => .prelube
  | .setLoad | .unload => .load
  | .read => .sensors

/-- The order code (section 11.2). -/
def Order.code : Order → Nat
  | .setSpeed | .engage | .run | .setLoad | .read => 1
  | .fuelOff | .disengage | .stop | .unload => 2
  | .status => 3

/-- The number of a device in the status window (section 11.5). -/
def Device.number : Device → Nat
  | .governor => 0
  | .starter => 1
  | .prelube => 2
  | .load => 3
  | .sensors => 4

/-- The exception code's number (section 11.2). -/
def ExcCode.code : ExcCode → Nat
  | .deviceBusy => 1
  | .orderInvalid => 2
  | .argumentRange => 3
  | .actuatorFault => 4
  | .stuck => 5

/-- The exception code of a number: one of the five, or none (R127). -/
def ExcCode.ofCode : Nat → Option ExcCode
  | 1 => some .deviceBusy
  | 2 => some .orderInvalid
  | 3 => some .argumentRange
  | 4 => some .actuatorFault
  | 5 => some .stuck
  | _ => none

/-- The six octets of a request (R128, R176). -/
def Transaction.octets (t : Transaction) : List Byte :=
  closed [0x3C, t.request.order.device.address, byteOf (t.tag.toNat + 16 * t.request.order.code), lowOctet t.request.arg.toNat,
    highOctet t.request.arg.toNat]

/-- The ending of a transaction or refused request (chapter 7). -/
inductive Ending where
  | accept (d0 d1 d2 : Byte)
  | exception (code : ExcCode)
  | noReply
  | corrupt
  | misrouted
  | inhibited
  deriving DecidableEq, Repr

/-- Whether an ending is ACCEPT. -/
def Ending.accepted : Ending → Bool
  | .accept _ _ _ => true
  | _ => false

/-- The word a reply carries when it passes the check test of R135: its opening mark with its code. -/
def replyWord (ws : List WireOctet) : Option Ending :=
  let bs := ws.map dataBits
  if ws.all oddParity && bs.length == 8 && checkOctetOk bs then
    if octetAt bs 0 = 0xC3 then
      if octetAt bs 3 = 0 then some (.accept (octetAt bs 4) (octetAt bs 5) (octetAt bs 6)) else none
    else if octetAt bs 0 = 0xE7 then (ExcCode.ofCode (octetAt bs 3).toNat).map Ending.exception
    else none
  else none

/-- What becomes of a reply taken while AWAITING (R135): an ending, or `none` for a LATE_REPLY, which ends nothing. -/
def classifyReply (t : Transaction) (ws : List WireOctet) : Option Ending :=
  let bs := ws.map dataBits
  match replyWord ws with
  | none => some .corrupt
  | some e =>
    if octetAt bs 1 = t.request.order.device.address then
      if field (octetAt bs 2) 0 4 = t.tag.toNat then some e else none
    else some .misrouted

end Sys2Proof.Machine
end

