-- ==== Sys2Proof/Machine/Views.lean ====
section
/-! DEFINITION. What is computed from the state: the configuration in effect, the engine classes (R74), the derived views of the
Consist Table (R45 to R53), and the demand, derate cap, cap and target notch of the Notch Stepper (R105, R107, R109, R110). -/

namespace Sys2Proof.Machine

/-! ## Configuration in effect -/

/-- The own position: none until commit (R19). -/
def State.ownPosition (s : State) : Option (Fin 8) := s.mpt.committed.map Committed.position

/-- The class in effect: strapped until commit, committed from it on (R74). -/
def State.engineClass (s : State) : Fin 4 :=
  match s.mpt.committed with
  | some c => c.engineClass
  | none => ((s.mpt.straps.map Straps.engineClass).getD 0)

/-- The keep-running floor: none in force before commit (R170). -/
def State.floor (s : State) : Nat := ((s.mpt.committed.map (fun c => c.floor.val)).getD 0)

/-- One row of the table of R74. -/
structure ClassRow where
  teeth : Nat
  firing : Nat
  idle : Nat
  idle90 : Nat
  idle70 : Nat
  stepSpeed : Nat
  overspeed : Nat
  deriving DecidableEq, Repr

/-- The table of R74. -/
def classRow (c : Fin 4) : ClassRow :=
  match c with
  | 0 => ⟨120, 140, 320, 288, 224, 73, 1000⟩
  | 1 => ⟨150, 120, 270, 243, 189, 95, 1130⟩
  | 2 => ⟨136, 160, 400, 360, 280, 75, 1100⟩
  | 3 => ⟨160, 110, 240, 216, 168, 80, 970⟩

/-- The row in effect. -/
def State.row (s : State) : ClassRow := classRow s.engineClass

/-- The speed of notch `n`: the idle speed plus n times the step speed (R74). -/
def State.notchSpeed (s : State) (n : Nat) : Nat := s.row.idle + n * s.row.stepSpeed

/-! ## Levels and records as read -/

/-- The latest battery sample is at or above a level in steps of 0.25 V; a sample of none is not (R153). -/
def State.batteryAtLeast (s : State) (level : Nat) : Bool :=
  match s.lmn.sample with
  | some v => decide (level ≤ v)
  | none => false

/-- 58.0 V, the start minimum (R153). -/
def startMinimum : Nat := 232
/-- 64.0 V, the autorestart level (R153). -/
def autorestartLevel : Nat := 256
/-- 66.0 V, the autostop minimum (R153). -/
def autostopMinimum : Nat := 264
/-- 48.0 V, the sag level (R151). -/
def sagLevel : Nat := 192

/-- The engine sensor record is valid (R89, R145). -/
def State.sensorValid (s : State) : Bool := decide (s.erc.sensor.state = .valid)

/-- The standing that follows from the consecutive failures (R140). -/
def Health.standing (h : Health) : HealthState :=
  if h.consecutive = 0 then .ok else if h.consecutive < 3 then .suspect else .failed

/-- A health record is FAILED: three transport endings in a row (R140). -/
def Health.failed (h : Health) : Bool := decide (3 ≤ h.consecutive)

/-- A device is FAILED. -/
def State.deviceFailed (s : State) (d : Device) : Bool := (s.erc.health.get d).failed

/-- Engine states that hold the permit (R48). -/
def EngineState.holdsPermit : EngineState → Bool
  | .prelube | .cranking | .firing => true
  | _ => false

/-- Engine states of a running engine, as the running views count it (R52). -/
def EngineState.runs : EngineState → Bool
  | .idleWarm | .running => true
  | _ => false

/-! ## Derived views -/

/-- The positions 0 to 7. -/
def allPositions : List (Fin 8) := [0, 1, 2, 3, 4, 5, 6, 7]

/-- The positions other than the own one. -/
def State.others (s : State) : List (Fin 8) := allPositions.filter (fun p => decide (s.ownPosition ≠ some p))

/-- The entry of a position. -/
def State.entry (s : State) (p : Fin 8) : Entry := s.table.get p

/-- The entry is LIVE. -/
def Entry.live (e : Entry) : Bool := decide (e.state = .live)

/-- The entry is LIVE or STALE. -/
def Entry.liveOrStale (e : Entry) : Bool := decide (e.state = .live) || decide (e.state = .stale)

/-- The live set (R46). -/
def State.liveSet (s : State) : List (Fin 8) := s.others.filter (fun p => (s.entry p).live)

/-- One member of the claim list. -/
structure ClaimMember where
  age : Nat
  position : Fin 8
  deriving DecidableEq, Repr

/-- The claim order (R58): the larger age is earlier, and of equal ages the lower position. -/
def ClaimMember.earlier (a b : ClaimMember) : Bool :=
  decide (b.age < a.age) || (decide (a.age = b.age) && decide (a.position < b.position))

/-- The claims of the entries other than the own (R47). -/
def State.peerClaims (s : State) : List ClaimMember :=
  s.others.filterMap (fun p => if (s.entry p).liveOrStale then (s.entry p).claim.map (fun a => ⟨a, p⟩) else none)

/-- The own member of the claim list: none before commit and while no claim is held (R47, R55). -/
def State.ownClaim (s : State) : Option ClaimMember :=
  match s.ownPosition, s.cpa.claim with
  | some p, some a => some ⟨a, p⟩
  | _, _ => none

/-- A member put in its place in an ordered list. -/
def insertClaim (m : ClaimMember) : List ClaimMember → List ClaimMember
  | [] => [m]
  | x :: xs => if m.earlier x then m :: x :: xs else x :: insertClaim m xs

/-- The claim list in its order (R47). -/
def State.claimList (s : State) : List ClaimMember :=
  (s.ownClaim.toList ++ s.peerClaims).foldl (fun l m => insertClaim m l) []

/-- The own member is first in the claim list: the list holds it and no member is earlier (R58). -/
def State.ownFirst (s : State) : Bool :=
  match s.ownClaim with
  | none => false
  | some own => s.peerClaims.all (fun m => !m.earlier own)

/-- Some phantom hold is running. -/
def State.holdRunning (s : State) : Bool := allPositions.any (fun p => (s.cpa.holds.get p).isSome)

/-- Permit in use (R48). -/
def State.permitInUse (s : State) : Bool :=
  s.others.any (fun p => (s.entry p).liveOrStale && (s.entry p).engine.holdsPermit) || s.holdRunning

/-- The entry shows a unit RUNNING, not ISOLATED, with its target above its completed notch. -/
def Entry.climbs (e : Entry) : Bool :=
  decide (e.engine = .running) && !e.flags.isolated && decide (e.completed < e.target)

/-- The climbing set (R49). -/
def State.climbingSet (s : State) : List (Fin 8) := s.others.filter (fun p => (s.entry p).live && (s.entry p).climbs)

/-- The smallest of some numbers. -/
def smallest : List Nat → Option Nat
  | [] => none
  | n :: ns => some (ns.foldl min n)

/-- The lowest climbing notch (R49). -/
def State.lowestClimbing (s : State) : Option Nat := smallest (s.climbingSet.map (fun p => (s.entry p).completed))

/-- Stale climber (R50). -/
def State.staleClimber (s : State) : Bool :=
  s.others.any (fun p => decide ((s.entry p).state = .stale) && (s.entry p).climbs)

/-- The peer demand list (R51). -/
def State.peerDemands (s : State) : List Nat :=
  s.others.filterMap (fun p => if (s.entry p).live then (s.entry p).demand else none)

/-- Running now (R52). -/
def State.runningNow (s : State) : Nat := (s.others.filter (fun p => (s.entry p).live && (s.entry p).engine.runs)).length

/-- Running as last known (R52). -/
def State.runningLast (s : State) : Nat :=
  (s.others.filter (fun p => decide ((s.entry p).state ≠ .absent) && (s.entry p).engine.runs)).length

/-- Cooldown-AUTO seen, as the lowest position that makes it true; none is false (R53). -/
def State.cooldownSeen (s : State) : Option (Fin 8) :=
  (s.others.filter (fun p =>
    (s.entry p).liveOrStale && decide ((s.entry p).engine = .cooldown) && (s.entry p).flags.cooldownAuto)).head?

/-! ## Notch Stepper's values -/

/-- The effective demand (R105). -/
def State.effectiveDemand (s : State) : Nat :=
  match s.nsp.reading with
  | none => 0
  | some r => s.peerDemands.foldl min r

/-- The disagreement condition (R106). -/
def State.disagrees (s : State) : Bool :=
  match s.nsp.reading with
  | none => false
  | some r => decide (r ≠ s.effectiveDemand)

/-- The limit value of a derate condition (R108). -/
def Derate.limit : Derate → Nat
  | .coolantWarm => 6
  | .coolantHigh => 3
  | .coolantVeryHigh => 0
  | .intakeWarm => 6
  | .intakeHigh => 4
  | .intakeVeryHigh => 2

/-- The conditions in the order of R108. -/
def Derate.all : List Derate := [.coolantWarm, .coolantHigh, .coolantVeryHigh, .intakeWarm, .intakeHigh, .intakeVeryHigh]

/-- A condition is present at these temperatures (R108). -/
def Derate.present (c : Derate) (coolant intake : Int) : Bool :=
  match c with
  | .coolantWarm => decide (98 ≤ coolant)
  | .coolantHigh => decide (104 ≤ coolant)
  | .coolantVeryHigh => decide (110 ≤ coolant)
  | .intakeWarm => decide (55 ≤ intake)
  | .intakeHigh => decide (65 ≤ intake)
  | .intakeVeryHigh => decide (75 ≤ intake)

/-- The derate cap: the smallest limit among the applied conditions, and 8 when none is applied (R109). -/
def State.derateCap (s : State) : Nat :=
  ((Derate.all.filter (fun c => (s.nsp.derates.get c).applied)).map Derate.limit).foldl min 8

/-- The cap (R107). -/
def State.cap (s : State) : Nat :=
  if s.isolated || decide (s.ssq.engine ≠ .running) || s.ssq.stopInProgress || s.deviceFailed .load then 0
  else if s.deviceFailed .sensors then min 4 s.derateCap
  else s.derateCap

/-- The target notch (R110). -/
def State.targetNotch (s : State) : Nat := min s.effectiveDemand s.cap

/-- The up dwell of a completed notch in ms, from the table of R112 for 0 to 7. The table leaves notch 8 out, and so no up dwell is
asked of it: no up-step starts there, and `State.dwellMark` gives it none (DESIGN CHOICE, log entry 33). -/
def upDwell (n : Nat) : Nat :=
  if n ≤ 1 then 3000 else if n ≤ 3 then 4000 else if n ≤ 5 then 5000 else 6000

/-- A speed gate result is within 5 % of the speed of a notch (R121). -/
def State.inBand (s : State) (n result : Nat) : Bool :=
  decide (19 * s.notchSpeed n ≤ 20 * result) && decide (20 * result ≤ 21 * s.notchSpeed n)

/-! ## The own unit's contents (R22 to R25) -/

/-- The four engine flags of the own unit (R24). -/
def State.ownFlags (s : State) : UnitFlags :=
  { isolated := s.isolated
    cooldownAuto := decide (s.ssq.engine = .cooldown) && decide (s.ssq.stopReason = .auto)
    autoStopped := decide (s.ssq.engine = .stopped) && decide (s.ssq.stopReason = .auto)
    sensorsFailed := s.deviceFailed .sensors }

/-- The own contents, gathered from their owners at this moment (R22). -/
def State.gather (s : State) : Contents :=
  { engine := s.ssq.engine
    completed := s.nsp.completed
    target := s.targetNotch
    demand := s.nsp.reading
    derate := s.derateCap
    flags := s.ownFlags
    claim := s.cpa.claim }

end Sys2Proof.Machine
end

