-- ==== Sys2Proof/Machine/Ops.lean ====
section
/-! DEFINITION. The shared operations over the channel's slots, the order lists, the steps of the Notch Stepper, and the entry
into an engine state with all it does in SSQ, CPA and NSP. -/

namespace Sys2Proof.Machine

/-! ## Free values -/

/-- One free value used up (log entries 8 and 34). -/
def useFree (s : State) : State := { s with freeCount := s.freeCount + 1 }

/-! ## Slots and grants (R130, R132) -/

/-- The request a slot holds. -/
def Slot.request : Slot → Option Request
  | .empty => none
  | .pending r => some r
  | .inFlight r => some r

/-- The slot is empty. -/
def Slot.isEmpty : Slot → Bool
  | .empty => true
  | _ => false

/-- The slot is pending. -/
def Slot.isPending : Slot → Bool
  | .pending _ => true
  | _ => false

/-- A client's slot set to a condition. -/
def setSlot (c : Client) (v : Slot) (s : State) : State :=
  { s with erc := { s.erc with slots := s.erc.slots.set c v } }

/-- The grant to a pending slot (R132): the current transaction is filled with the tag as it stands, the slot is in flight,
and sending begins. The time since the end of sending reads 0 from the grant on, where R132 gives it in AWAITING alone
(DESIGN CHOICE, log entry 19). -/
def grantSlot (c : Client) (s : State) : State :=
  match s.erc.slots.get c with
  | .pending r =>
    { s with erc := { s.erc with
        current := some ⟨c, r, s.erc.tag⟩
        sinceSent := 0
        slots := s.erc.slots.set c (.inFlight r)
        sequencer := .sending } }
  | _ => s

/-- The octets on the request line while a request is being sent, in the order sent, each with its parity bit; none while the line
is quiet (R128). -/
def State.requestLine (s : State) : List WireOctet :=
  match s.erc.sequencer, s.erc.current with
  | .sending, some t => t.octets.map withParity
  | _, _ => []

/-- The first pending slot in the order PROTECT, SEQUENCE, NOTCH, POLL (R132). -/
def firstPending (s : State) : Option Client :=
  [Client.protect, .sequence, .notch, .poll].find? (fun c => (s.erc.slots.get c).isPending)

/-- Entry to IDLE: the tag has increased, and the first pending slot is granted (R132, R134). -/
def enterIdle (s : State) : State :=
  let s := { s with erc := { s.erc with sequencer := .idle, tag := s.erc.tag + 1, replyTimer := none } }
  match firstPending s with
  | some c => grantSlot c s
  | none => s

/-- A request posted in an empty slot while nothing refuses it: pending, and granted at once if the sequencer is IDLE
(R130, R132). -/
def post (c : Client) (r : Request) (s : State) : State :=
  let s := setSlot c (.pending r) s
  if s.erc.sequencer = .idle then grantSlot c s else s

/-- A client withdraws its pending request (R130). -/
def withdraw (c : Client) (s : State) : State :=
  if (s.erc.slots.get c).isPending then setSlot c .empty s else s

/-- The argument an order of the lists carries: the idle speed for SET_SPEED, else 0 (R75, R123, R126). -/
def State.listArg (s : State) (o : Order) : BitVec 16 :=
  if o = .setSpeed then BitVec.ofNat 16 s.row.idle else 0

/-- Posting PRELUBE RUN sets pump held, and posting PRELUBE STOP clears it (R75). -/
def notePosted (o : Order) (s : State) : State :=
  match o with
  | .run => { s with ssq := { s.ssq with pumpHeld := true } }
  | .stop => { s with ssq := { s.ssq with pumpHeld := false } }
  | _ => s

/-! ## The sequence order list (R75) -/

/-- An order is added to the sequence order list: STARTER DISENGAGE at the front, the others at the back, none twice, none
while ESTOP is asserted. PRELUBE STOP removes a waiting RUN and STATUS, and DISENGAGE a waiting ENGAGE. -/
def addSeq (o : Order) (s : State) : State :=
  if s.estop then s
  else
    match o with
    | .disengage =>
      let l := s.ssq.seqList.filter (fun x => decide (x ≠ .engage))
      { s with ssq := { s.ssq with
          seqList := if l.contains .disengage then l else .disengage :: l
          releasePending := true } }
    | .stop =>
      let l := s.ssq.seqList.filter (fun x => decide (x ≠ .run) && decide (x ≠ .status))
      { s with ssq := { s.ssq with seqList := if l.contains .stop then l else l ++ [.stop] } }
    | _ =>
      { s with ssq := { s.ssq with seqList := if s.ssq.seqList.contains o then s.ssq.seqList else s.ssq.seqList ++ [o] } }

/-- An order waits in the list or stands in the SEQUENCE slot (R82). -/
def State.seqHas (s : State) (o : Order) : Bool :=
  s.ssq.seqList.contains o || (s.erc.slots.sequence.request.map Request.order) == some o

/-- PRELUBE STOP is added if pump held is set (R86, R87). -/
def addStopIfHeld (s : State) : State := if s.ssq.pumpHeld then addSeq .stop s else s

/-! ## The Notch Stepper's part in leaving and entering states (R124) -/

/-- A pending NOTCH request is withdrawn and the step in flight cleared without abandonment; an ending still to come finds no
step and is discarded (R122, R124). -/
def dropStep (s : State) : State :=
  let s := withdraw .notch s
  { s with nsp := { s.nsp with step := none } }

/-- The watch is idle and SPEED_DEVIATION cleared (R121). -/
def endWatch (s : State) : State :=
  clearFault .speedDeviation { s with nsp := { s.nsp with watch := none } }

/-- What NSP does when the engine leaves a state (R124). -/
def nspOnLeave (old new : EngineState) (s : State) : State :=
  if old = .running then
    if new = .cooldown then
      endWatch { s with nsp := { s.nsp with abandonHold := none, dwell := none } }
    else
      let s := dropStep s
      endWatch { s with nsp := { s.nsp with completed := 0, abandonHold := none, dwell := none, governorOwed := false } }
  else if old = .cooldown ∧ new ≠ .running then
    let s := dropStep s
    endWatch { s with nsp := { s.nsp with dwell := none, governorOwed := false } }
  else s

/-! ## Entering an engine state -/

/-- Every phase timer and the autostop idle timer stopped (R73, R90). -/
def Ssq.stopTimers (q : Ssq) : Ssq :=
  { q with
    prelube := none, prelubeTick := none, crank := none, turnCheck := none, firingHold := none, rest := none, firing := none,
    warmUp := none, cooldown := none, autostopIdle := none, idleElapsed := false }

/-- States in which the fuel order stays as it was (R79). -/
def EngineState.keepsFuel : EngineState → Bool
  | .firing | .idleWarm | .running | .cooldown => true
  | _ => false

/-- The phase timers a state starts on its entry (R73, section 5.1). -/
def Ssq.startTimers (n : EngineState) (q : Ssq) : Ssq :=
  match n with
  | .prelube => { q with prelube := some 60000, prelubeTick := some 500, runAccepted := false }
  | .crankRest => { q with rest := some 30000 }
  | .firing => { q with firing := some 20000 }
  | .idleWarm => { q with warmUp := some 300000, attempts := 0 }
  | .cooldown => { q with cooldown := some 60000 }
  | .stopped => { q with attempts := 0, overspeedMark := false }
  | _ => q

/-- The own claim on an entry (R55, R57): made at age 0 on entry to CLAIMING except by a yield from PRELUBE, kept in PRELUBE
and CRANKING, and absent in every other state. -/
def claimOnEnter (old new : EngineState) (claim : Option Nat) : Option Nat :=
  match new with
  | .claiming => if old = .prelube then claim else some 0
  | .prelube | .cranking => claim
  | _ => none

/-- The autostop idle timer's upkeep (R90): in RUNNING it runs while completed notch and effective demand are both 0, is
started from 600 s when that begins, and is stopped and its elapse forgotten when it ends. -/
def idleUpkeep (s : State) : State :=
  if s.ssq.engine = .running then
    if s.nsp.completed = 0 ∧ s.effectiveDemand = 0 then
      if s.ssq.autostopIdle.isNone && !s.ssq.idleElapsed then
        { s with ssq := { s.ssq with autostopIdle := some 600000 } }
      else s
    else { s with ssq := { s.ssq with autostopIdle := none, idleElapsed := false } }
  else s

/-- START_REFUSED is cleared at any entry to a state other than STOPPED (R80). -/
def clearRefusal (n : EngineState) (s : State) : State :=
  if n = .stopped then s else clearFault .startRefused s

/-- On entry to RUNNING the dwell clock starts from zero (R112) and the autostop idle timer as R90 gives. -/
def startRunning (n : EngineState) (s : State) : State :=
  if n = .running then idleUpkeep { s with nsp := { s.nsp with dwell := some 0 } } else s

/-- The entry into engine state `n` from another state: what leaving the old one does (R73, R90, R124), the new state with its
timers, the fuel order (R79), the claim (R55, R57) and START_REFUSED (R80). -/
def enter (n : EngineState) (s : State) : State :=
  let old := s.ssq.engine
  let s := nspOnLeave old n s
  let q := Ssq.startTimers n s.ssq.stopTimers
  let s := { s with
    ssq := { q with engine := n, fuelOrder := q.fuelOrder && n.keepsFuel, stopInProgress := false }
    cpa := { s.cpa with claim := claimOnEnter old n s.cpa.claim } }
  startRunning n (clearRefusal n s)

/-- The stop reason set. -/
def setReason (r : StopReason) (s : State) : State := { s with ssq := { s.ssq with stopReason := r } }

/-- The fuel order cleared. -/
def clearFuel (s : State) : State := { s with ssq := { s.ssq with fuelOrder := false } }

/-! ## Steps of the Notch Stepper (R112 to R119) -/

/-- An urgent-unload order stands in the PROTECT slot (R112, R123). -/
def State.unloadBusy (s : State) : Bool :=
  (s.erc.slots.protect.request.map Request.producer) == some .nsp

/-- NSP is free to step (R112). -/
def State.freeToStep (s : State) : Bool :=
  s.nsp.step.isNone && s.erc.slots.notch.isEmpty && s.nsp.urgentList.isEmpty && !s.unloadBusy

/-- The dwell clock has reached so many ms; a stopped clock has not. -/
def State.dwellReached (s : State) (ms : Nat) : Bool :=
  match s.nsp.dwell with
  | some t => decide (ms ≤ t)
  | none => false

/-- The down dwell as R115 reads it for a governor retry: a clock stopped in COOLDOWN counts as having reached it. -/
def State.retryDwellReached (s : State) : Bool :=
  s.dwellReached 1000 || (s.nsp.dwell.isNone && decide (s.ssq.engine = .cooldown))

/-- The seven conditions of an up-step (R113). -/
def State.upStepDue (s : State) : Bool :=
  decide (s.nsp.completed < s.targetNotch) && s.freeToStep && s.dwellReached (upDwell s.nsp.completed)
    && (match s.lowestClimbing with | none => true | some n => decide (s.nsp.completed ≤ n))
    && !s.staleClimber && s.nsp.abandonHold.isNone && !s.faultActive .speedDeviation

/-- The conditions of a down-step (R114). -/
def State.downStepDue (s : State) : Bool :=
  decide (s.targetNotch < s.nsp.completed) && s.freeToStep && s.dwellReached 1000

/-- The conditions of a governor retry (R115). -/
def State.retryDue (s : State) : Bool :=
  s.nsp.governorOwed && (decide (s.ssq.engine = .running) || decide (s.ssq.engine = .cooldown))
    && decide (s.nsp.completed ≤ s.targetNotch) && s.freeToStep && s.retryDwellReached

/-- The step in flight set. -/
def setStep (st : Option Step) (s : State) : State := { s with nsp := { s.nsp with step := st } }

/-- A step's end that starts the dwell clock from zero (R112). -/
def endStep (s : State) : State := { s with nsp := { s.nsp with step := none, dwell := some 0 } }

/-- A step is abandoned (R119). -/
def abandonStep (s : State) : State :=
  let s := endStep s
  { s with nsp := { s.nsp with abandonHold := some 5000 } }

/-- The deviation watch started for notch `n` at 10 s (R121). -/
def startWatch (n : Nat) (s : State) : State := { s with nsp := { s.nsp with watch := some ⟨n, 10000⟩ } }

/-- The governor-owed mark set or cleared. -/
def setOwed (b : Bool) (s : State) : State := { s with nsp := { s.nsp with governorOwed := b } }

/-- The completed notch set. -/
def setCompleted (n : Nat) (s : State) : State := { s with nsp := { s.nsp with completed := n } }

/-- GOVERNOR SET_SPEED for notch `n` posted in the NOTCH slot. -/
def postSpeed (n : Nat) (s : State) : State :=
  post .notch ⟨.setSpeed, BitVec.ofNat 16 (s.notchSpeed n), .nsp⟩ s

/-- LOAD SET_LOAD for notch `n` posted in the NOTCH slot. -/
def postLoad (n : Nat) (s : State) : State := post .notch ⟨.setLoad, BitVec.ofNat 16 n, .nsp⟩ s

/-- An UP step's restore ends (R117). -/
def endRestore (ok : Bool) (s : State) : State := abandonStep (setOwed (!ok) s)

/-- An UP step's SECOND phase ends (R117). A post under ESTOP is refused as it is posted (R138). -/
def endUpSecond (st : Step) (ok : Bool) (s : State) : State :=
  if ok then startWatch st.toNotch (endStep (setCompleted st.toNotch s))
  else
    let s := setStep (some { st with restoring := true }) s
    if s.estop then endRestore false s else postSpeed st.fromNotch s

/-- An UP step's FIRST phase ends (R117). -/
def endUpFirst (st : Step) (ok : Bool) (s : State) : State :=
  if ok then
    let st := { st with phase := .second }
    let s := setStep (some st) (setOwed false s)
    if s.estop then endUpSecond st false s else postLoad st.toNotch s
  else abandonStep s

/-- A DOWN step's SECOND phase ends (R118). -/
def endDownSecond (st : Step) (ok : Bool) (s : State) : State :=
  let s := setOwed (!ok) (endStep (setCompleted st.toNotch s))
  if ok then startWatch st.toNotch s else s

/-- A DOWN step's FIRST phase ends (R118). -/
def endDownFirst (st : Step) (ok : Bool) (s : State) : State :=
  if ok then
    let st := { st with phase := .second }
    let s := setStep (some st) s
    if s.estop then endDownSecond st false s else postSpeed st.toNotch s
  else abandonStep s

/-- A governor retry ends (R115). -/
def endRetry (st : Step) (ok : Bool) (s : State) : State :=
  let s := endStep s
  if ok then startWatch st.fromNotch (setOwed false s) else s

/-- The ending of a NOTCH request as NSP takes it; with no step in flight it is discarded (R115, R117, R118). -/
def notchEnding (e : Ending) (s : State) : State :=
  match s.nsp.step with
  | none => s
  | some st =>
    match st.direction, st.phase with
    | .up, .first => endUpFirst st e.accepted s
    | .up, .second => if st.restoring then endRestore e.accepted s else endUpSecond st e.accepted s
    | .down, .first => endDownFirst st e.accepted s
    | .down, .second => endDownSecond st e.accepted s
    | .retry, _ => endRetry st e.accepted s

/-- An up-step starts (R113). -/
def startUp (s : State) : State :=
  let c := s.nsp.completed
  let st : Step := ⟨.up, c, c + 1, .first, false⟩
  let s := setStep (some st) s
  if s.estop then endUpFirst st false s else postSpeed (c + 1) s

/-- A down-step starts (R114). -/
def startDown (s : State) : State :=
  let c := s.nsp.completed
  let st : Step := ⟨.down, c, c - 1, .first, false⟩
  let s := setStep (some st) s
  if s.estop then endDownFirst st false s else postLoad (c - 1) s

/-- A governor retry starts (R115). -/
def startRetry (s : State) : State :=
  let c := s.nsp.completed
  let st : Step := ⟨.retry, c, c, .second, false⟩
  let s := setStep (some st) s
  if s.estop then endRetry st false s else postSpeed c s

/-- NSP tests the step conditions (R116). -/
def stepTest (s : State) : State :=
  if s.upStepDue then startUp s
  else if s.downStepDue then startDown s
  else if s.retryDue then startRetry s
  else s

/-- The urgent unload (R122). -/
def urgentUnload (s : State) : State :=
  let s := dropStep s
  { s with nsp := { s.nsp with
      completed := 0
      abandonHold := none
      governorOwed := false
      watch := none
      dwell := some 0
      urgentList := [.unload, .setSpeed] } }

/-- An urgent cause begins: the unload is taken while RUNNING with a notch carried or a step in flight (R122). -/
def urgentTest (s : State) : State :=
  if s.ssq.engine = .running ∧ (0 < s.nsp.completed ∨ s.nsp.step ≠ none) then urgentUnload s else s

end Sys2Proof.Machine
end

