-- ==== Sys2Proof/Machine/Sequence.lean ====
section
/-! DEFINITION. The Start Sequencer's shared operations: start and stop requests, protective sequences and shutdowns, attempts,
autostop and autorestart, and the endings of its orders (chapter 5). -/

namespace Sys2Proof.Machine

/-! ## Requests and triggers -/

/-- A start request (R80). -/
def startRequest (s : State) : State :=
  match s.ssq.engine with
  | .stopped =>
    if s.batteryAtLeast startMinimum && decide (s.clc.linkState ≠ .silenced) && !s.estop then enter .claiming s
    else raiseFault .startRefused s
  | .cooldown => setReason .manual (enter .running s)
  | _ => s

/-- Some autorestart trigger is true (R94). -/
def State.autorestartTrigger (s : State) : Bool :=
  decide (0 < s.effectiveDemand)
    || (match s.lmn.sample with | some v => decide (v < autorestartLevel) | none => false)
    || (s.sensorValid && decide (s.erc.sensor.coolant < 30))
    || decide (s.runningLast < s.floor)

/-- The autorestart triggers tested: in STOPPED with reason AUTO a true one is a start request (R94), and in COOLDOWN with
reason AUTO it returns the engine to RUNNING with reason MANUAL (R92). -/
def triggerTest (s : State) : State :=
  if s.ssq.stopReason = .auto && s.autorestartTrigger then
    match s.ssq.engine with
    | .stopped => startRequest s
    | .cooldown => setReason .manual (enter .running s)
    | _ => s
  else s

/-- Entry to STOPPED; with reason AUTO the triggers are tested (R81, R94). -/
def enterStopped (s : State) : State := triggerTest (enter .stopped s)

/-- The end of SHUTDOWN: LOCKED_OUT while a lockout kind is active, else STOPPED, keeping the stop reason (R93). -/
def shutdownEnd (s : State) : State :=
  if s.lockoutActive then enter .lockedOut s else enterStopped s

/-- Entry to SHUTDOWN, left at once when the silence flag is already set (R93). -/
def enterShutdown (s : State) : State :=
  let s := enter .shutdown s
  if s.lmn.silence then shutdownEnd s else s

/-- Coolant in a valid record is at or above a temperature (R89, R91). -/
def State.coolantAtLeast (s : State) (t : Int) : Bool := s.sensorValid && decide (t ≤ s.erc.sensor.coolant)

/-- Entry to IDLE_WARM with its one coolant test (R88, R89). -/
def enterIdleWarm (s : State) : State :=
  let s := enter .idleWarm s
  if s.coolantAtLeast 40 then enter .running s else s

/-! ## Protective sequences (R77) -/

/-- The protective order list for the engine state being left. -/
def State.protectiveList (s : State) (stuck : Bool) : List Order :=
  (if (decide (s.ssq.engine = .cranking) || s.ssq.releasePending) && !stuck then [Order.disengage] else [])
    ++ (if s.ssq.pumpHeld then [Order.stop] else []) ++ [.unload, .fuelOff]

/-- A protective sequence starts: the pending SEQUENCE request is withdrawn, the sequence order list and the urgent-unload list
are emptied, and the protective list is built; `stuck` when STARTER_STUCK starts it (R77, R123). -/
def protectiveSequence (stuck : Bool) (s : State) : State :=
  let l := s.protectiveList stuck
  let s := withdraw .sequence s
  { s with
    ssq := { s.ssq with seqList := [], protList := l, releasePending := s.ssq.releasePending || l.contains .disengage }
    nsp := { s.nsp with urgentList := [] } }

/-- A protective shutdown: fuel order cleared, protective sequence, claim withdrawn, stop reason MANUAL, SHUTDOWN
(R97 to R100). -/
def protectiveShutdown (s : State) : State :=
  enterShutdown (setReason .manual (protectiveSequence false (clearFuel s)))

/-- STALL (R97). -/
def stall (s : State) : State := protectiveShutdown (raiseFault .stall s)

/-- STARTER_STUCK (R78). -/
def starterStuck (s : State) : State :=
  let s := protectiveSequence true (clearFuel (raiseFault .starterStuck s))
  if s.ssq.engine = .lockedOut then s else enter .lockedOut s

/-- The prelube fails (R83). -/
def prelubeFail (s : State) : State :=
  enterStopped (setReason .manual (addSeq .stop (raiseFault .prelubeFail s)))

/-- Entry to CRANK_REST (R87). -/
def enterCrankRest (s : State) : State := addStopIfHeld (enter .crankRest s)

/-- One failed attempt more on the counter, with its cause. -/
def countAttempt (c : Cause) (s : State) : State :=
  { s with ssq := { s.ssq with attempts := satAdd 3 s.ssq.attempts 1, lastCause := some c } }

/-- A failed attempt from CRANKING or FIRING (R86). -/
def failedAttempt (c : Cause) (s : State) : State :=
  let s := if s.ssq.engine = .cranking then addSeq .disengage s else s
  let s := raiseCrankFail c (countAttempt c (addStopIfHeld s))
  if s.ssq.attempts = 3 then enter .lockedOut (raiseFault .crankLockout s) else enterCrankRest s

/-! ## Stops -/

/-- With stop in progress set, the completed notch 0 and no UP or DOWN step in flight, RUNNING enters COOLDOWN with reason
MANUAL (R90). -/
def stopToCooldown (s : State) : State :=
  if s.ssq.engine = .running && s.ssq.stopInProgress && decide (s.nsp.completed = 0)
      && (match s.nsp.step with | none => true | some st => decide (st.direction = .retry)) then
    setReason .manual (enter .cooldown s)
  else s

/-- A stop request (R81). -/
def stopRequest (s : State) : State :=
  match s.ssq.engine with
  | .stopped | .cooldown | .shutdown => setReason .manual s
  | .claiming | .crankRest => enterStopped (setReason .manual s)
  | .prelube => enterStopped (setReason .manual (addSeq .stop s))
  | .cranking => enterShutdown (setReason .manual (addSeq .fuelOff (addSeq .stop (addSeq .disengage s))))
  | .firing => enterShutdown (setReason .manual (addSeq .fuelOff s))
  | .idleWarm => setReason .manual (enter .cooldown s)
  | .running => stopToCooldown { s with ssq := { s.ssq with stopInProgress := true } }
  | .lockedOut => s

/-- The seven autostop conditions (R91). -/
def State.autostopConditions (s : State) : Bool :=
  ((s.mpt.committed.map Committed.autostop).getD false) && !s.ssq.stopInProgress && decide (s.floor ≤ s.runningNow)
    && s.cooldownSeen.isNone && s.coolantAtLeast 60 && s.batteryAtLeast autostopMinimum
    && decide (s.clc.linkState ≠ .silenced)

/-- The autostop conditions tested once the idle timer has elapsed (R91). -/
def autostopTest (s : State) : State :=
  if s.ssq.engine = .running && s.ssq.idleElapsed && s.autostopConditions then setReason .auto (enter .cooldown s) else s

/-- A delivered cooldown-AUTO seen (R92, contention). -/
def contention (s : State) : State :=
  match s.cooldownSeen, s.ownPosition with
  | some p, some own =>
    if s.ssq.engine = .cooldown && s.ssq.stopReason = .auto && decide (p < own) then setReason .manual (enter .running s) else s
  | _, _ => s

/-! ## Events of the Line Monitors -/

/-- A sag event (R85, R151). -/
def ssqSag (s : State) : State := if s.ssq.engine = .cranking then failedAttempt .sag s else s

/-- A silence event (R84, R87, R88, R93, R97). -/
def ssqSilence (s : State) : State :=
  match s.ssq.engine with
  | .cranking => { s with ssq := { s.ssq with firingHold := none } }
  | .crankRest => if s.ssq.rest.isNone then enter .claiming s else s
  | .firing => failedAttempt .fireLost s
  | .idleWarm | .running | .cooldown => stall s
  | .shutdown => shutdownEnd s
  | _ => s

/-- A speed gate result below overspeed (R84, R88, R97). In CRANKING it is compared from the ENGAGE ACCEPT on, which the fuel
order marks. -/
def ssqGate (result : Nat) (s : State) : State :=
  match s.ssq.engine with
  | .cranking =>
    if s.ssq.fuelOrder then
      if s.row.firing ≤ result then
        if s.ssq.firingHold.isNone then { s with ssq := { s.ssq with firingHold := some 1000 } } else s
      else { s with ssq := { s.ssq with firingHold := none } }
    else s
  | .firing => if s.row.idle90 ≤ result then enterIdleWarm (addSeq .setSpeed s) else s
  | .idleWarm | .running | .cooldown => if result < s.row.idle70 then stall s else s
  | _ => s

/-- An overspeed event as the Start Sequencer takes it (R99). -/
def ssqOverspeed (s : State) : State :=
  let s := raiseFault .overspeed s
  let s := { s with ssq := { s.ssq with overspeedMark := true } }
  match s.ssq.engine with
  | .stopped | .claiming => enter .lockedOut (setReason .manual s)
  | .lockedOut | .shutdown => s
  | _ => protectiveShutdown s

/-! ## Events of the Engine-Room Channel -/

/-- An update of the engine sensor record as the Start Sequencer takes it: oil-low (R98) in the state the update finds, else
the warm-up test (R89); then the autostop conditions (R91) and the triggers (R94). -/
def ssqSensorUpdate (s : State) : State :=
  let s :=
    if s.erc.sensor.oilLow && (decide (s.ssq.engine = .idleWarm) || decide (s.ssq.engine = .running)) then
      protectiveShutdown (raiseFault .oilLow s)
    else if s.ssq.engine = .idleWarm && s.coolantAtLeast 40 then enter .running s
    else s
  triggerTest (autostopTest s)

/-- A device becomes FAILED, as the Start Sequencer takes it (R78, R83, R100). -/
def ssqDeviceFailed (d : Device) (s : State) : State :=
  match d with
  | .governor =>
    if s.ssq.engine = .stopped ∨ s.ssq.engine = .shutdown ∨ s.ssq.engine = .lockedOut then s else protectiveShutdown s
  | .starter => if s.ssq.releasePending then starterStuck s else s
  | .prelube => if s.ssq.engine = .prelube then prelubeFail s else s
  | .load => s
  | .sensors => s

/-- The oil-ok transition (R82, R84): a protective shutdown if the governor is FAILED, else CRANKING with ENGAGE added. -/
def oilOk (s : State) : State :=
  if s.deviceFailed .governor then protectiveShutdown s else addSeq .engage (enter .cranking s)

/-- STARTER ENGAGE accepted in CRANKING (R84). -/
def engageAccepted (s : State) : State :=
  { s with ssq := { s.ssq with fuelOrder := true, crank := some 15000, turnCheck := some 3000 } }

/-- The ending of STARTER DISENGAGE but for a transport ending (R76, R78). Any DISENGAGE's ACCEPT clears the release pending, one
more DISENGAGE outstanding or not, and an EXCEPTION leaves it as it is (DEDUCED, log entry 35). -/
def disengageAnswered (e : Ending) (s : State) : State :=
  match e with
  | .accept _ _ _ => { s with ssq := { s.ssq with releasePending := false } }
  | .exception _ => starterStuck s
  | _ => s

/-- A transport ending: any ending but ACCEPT and EXCEPTION, INHIBITED among them (R76). -/
def Ending.transport : Ending → Bool
  | .accept _ _ _ | .exception _ => false
  | _ => true

/-- The ending of a SEQUENCE order (R76). -/
def seqEnding (o : Order) (e : Ending) (s : State) : State :=
  match o with
  | .run =>
    if e.accepted && decide (s.ssq.engine = .prelube) then { s with ssq := { s.ssq with runAccepted := true } } else s
  | .status =>
    match e with
    | .accept d0 _ _ => if d0.getLsbD 0 && decide (s.ssq.engine = .prelube) then oilOk s else s
    | _ => s
  | .engage =>
    if s.ssq.engine = .cranking then if e.accepted then engageAccepted s else failedAttempt .starterFail s else s
  | .disengage => if e.transport then addSeq .disengage s else disengageAnswered e s
  | _ => s

/-- STARTER DISENGAGE added at the front of the protective order list, once (R77): it is pending from then on, as R75 says of any
adding of it (log entry 14). -/
def addProtDisengage (s : State) : State :=
  { s with ssq := { s.ssq with
      protList := if s.ssq.protList.contains .disengage then s.ssq.protList else .disengage :: s.ssq.protList
      releasePending := true } }

/-- The ending of a protective order (R77): as R76, but a transport ending of DISENGAGE adds it to the front of the protective
order list. -/
def protEnding (o : Order) (e : Ending) (s : State) : State :=
  if o = .disengage then
    if e.transport then addProtDisengage s else disengageAnswered e s
  else seqEnding o e s

/-- The ending of an urgent-unload order (R123): an accepted SET_SPEED clears governor owed; LOAD UNLOAD's ending lets the next
order be posted. -/
def unloadEnding (o : Order) (e : Ending) (s : State) : State :=
  if o = .setSpeed && e.accepted then setOwed false s else s

/-! ## Posting (R75, R77, R123, R131) -/

/-- The PROTECT slot filled when it is empty: from the protective order list first, else from the urgent-unload list. -/
def pumpProtect (s : State) : State :=
  if s.erc.slots.protect.isEmpty then
    match s.ssq.protList with
    | o :: rest =>
      let s := notePosted o { s with ssq := { s.ssq with protList := rest } }
      post .protect ⟨o, s.listArg o, .ssq⟩ s
    | [] =>
      match s.nsp.urgentList with
      | o :: rest => post .protect ⟨o, s.listArg o, .nsp⟩ { s with nsp := { s.nsp with urgentList := rest } }
      | [] => s
  else s

/-- The SEQUENCE slot filled when it is empty from the front of the sequence order list (R75). A post under ESTOP is refused
as it is posted (R138). -/
def pumpSequence (s : State) : State :=
  if s.erc.slots.sequence.isEmpty then
    match s.ssq.seqList with
    | o :: rest =>
      let s := notePosted o { s with ssq := { s.ssq with seqList := rest } }
      if s.estop then seqEnding o .inhibited s else post .sequence ⟨o, s.listArg o, .ssq⟩ s
    | [] => s
  else s

end Sys2Proof.Machine
end

