-- ==== Sys2Proof/Machine/React.lean ====
section
/-! DEFINITION. The Crank Permit Arbiter's tests (chapter 4), and the one reaction of the blocks to what an event has changed:
views delivered, conditions tested, orders posted (R14, R45, R60, R66, R90 to R94, R116; log entry 11). -/

namespace Sys2Proof.Machine

/-! ## The permit (R59) and the clash (R66 to R71) -/

/-- The six permit conditions (R59). -/
def State.permitConditions (s : State) : Bool :=
  (match s.cpa.claim with | some a => decide (3 ≤ a) | none => false)
    && s.ownFirst && !s.permitInUse
    && (decide (s.clc.linkState = .joined) || decide (s.clc.linkState = .alone))
    && !s.estop && s.batteryAtLeast startMinimum

/-- On the grant the engine passes from CLAIMING to PRELUBE with PRELUBE RUN added (R59, R82). -/
def grantPermit (s : State) : State := addSeq .run (enter .prelube s)

/-- CPA tests the permit conditions (R60). -/
def grantTest (s : State) : State :=
  if s.ssq.engine = .claiming && s.permitConditions then grantPermit s else s

/-- The clashing peers the table holds (R66). -/
def State.clashingPeers (s : State) : List (Fin 8) :=
  s.others.filter (fun p => (s.entry p).liveOrStale && (s.entry p).engine.holdsPermit)

/-- This station is in a clash (R66). -/
def State.inClash (s : State) : Bool :=
  (decide (s.ssq.engine = .prelube) || decide (s.ssq.engine = .cranking)) && !s.clashingPeers.isEmpty

/-- The own unit ranks later than a clashing peer: by the claim order, or by position alone where the peer's entry holds no
claim (R58, R67). -/
def State.laterThan (s : State) (p : Fin 8) : Bool :=
  match s.ownPosition with
  | none => false
  | some own =>
    match s.cpa.claim, (s.entry p).claim with
    | some a, some b => ClaimMember.earlier ⟨b, p⟩ ⟨a, own⟩
    | _, _ => decide (p < own)

/-- The ruling on the clashing peers found (R67). -/
def State.mustYield (s : State) : Bool :=
  s.clashingPeers.any (fun p => decide ((s.entry p).engine = .firing)) || s.clashingPeers.any s.laterThan

/-- A yield, counted (R68, R69, R71). -/
def yieldPermit (s : State) : State :=
  let s := { s with cpa := { s.cpa with permitClash := sat16 s.cpa.permitClash } }
  match s.ssq.engine with
  | .prelube => enter .claiming (addSeq .stop s)
  | .cranking => enterCrankRest (addSeq .disengage s)
  | _ => s

/-- CPA tests for a clash and rules on one it finds (R66, R67). -/
def clashTest (s : State) : State := if s.inClash && s.mustYield then yieldPermit s else s

/-! ## Link state and disagreement -/

/-- JOINED or ALONE by the live set (R14). -/
def State.joinedOrAlone (s : State) : LinkState := if s.liveSet.isEmpty then .alone else .joined

/-- The link state set. -/
def setLink (l : LinkState) (s : State) : State := { s with clc := { s.clc with linkState := l } }

/-- In JOINED and ALONE the link state follows the live set (R14). -/
def linkUpdate (s : State) : State :=
  match s.clc.linkState with
  | .joined | .alone => setLink s.joinedOrAlone s
  | _ => s

/-- The disagreement timer is started when the condition begins; when it ends, the timer is stopped and DEMAND_DISAGREE
cleared (R106). -/
def disagreeUpkeep (s : State) : State :=
  if s.disagrees then
    if s.nsp.disagreeTimer.isNone && !s.faultActive .demandDisagree then
      { s with nsp := { s.nsp with disagreeTimer := some 3000 } }
    else s
  else clearFault .demandDisagree { s with nsp := { s.nsp with disagreeTimer := none } }

/-! ## What has changed in an event -/

/-- The entries of the other positions have changed, or the engine has entered PRELUBE or CRANKING (R66). -/
def clashTrigger (old s : State) : Bool :=
  s.others.any (fun p => decide (s.entry p ≠ old.entry p)) || decide (s.ssq.engine ≠ old.ssq.engine)

/-- An event of R60 other than a battery sample: an entry to CLAIMING, a boundary, a change of the claim list, of permit in
use, of the link state, or of the ESTOP level. -/
def grantTrigger (old s : State) : Bool :=
  decide (s.ssq.engine ≠ old.ssq.engine) || decide (s.clc.cycleCount ≠ old.clc.cycleCount)
    || decide (s.claimList ≠ old.claimList) || decide (s.permitInUse ≠ old.permitInUse)
    || decide (s.clc.linkState ≠ old.clc.linkState) || decide (s.estop ≠ old.estop)

/-- A change of an input of the autorestart triggers that comes from the demand or the table (R94). -/
def triggerTrigger (old s : State) : Bool :=
  decide (s.effectiveDemand ≠ old.effectiveDemand) || decide (s.runningLast ≠ old.runningLast)

/-- A delivered change of running now or cooldown-AUTO seen, or a change of link state (R91). -/
def autostopTrigger (old s : State) : Bool :=
  decide (s.runningNow ≠ old.runningNow) || decide (s.cooldownSeen ≠ old.cooldownSeen)
    || decide (s.clc.linkState ≠ old.clc.linkState)

/-- An event of R116 between two states. -/
def stepTrigger (old s : State) : Bool :=
  decide (s.targetNotch ≠ old.targetNotch) || decide (s.nsp.completed ≠ old.nsp.completed)
    || decide (s.nsp.step ≠ old.nsp.step) || (s.erc.slots.notch.isEmpty && !old.erc.slots.notch.isEmpty)
    || decide (s.climbingSet ≠ old.climbingSet) || decide (s.lowestClimbing ≠ old.lowestClimbing)
    || decide (s.staleClimber ≠ old.staleClimber)
    || (old.faultActive .speedDeviation && !s.faultActive .speedDeviation)
    || (s.nsp.urgentList.isEmpty && !s.unloadBusy && !(old.nsp.urgentList.isEmpty && !old.unloadBusy))
    || (s.nsp.governorOwed && !old.nsp.governorOwed) || decide (s.ssq.engine ≠ old.ssq.engine)

/-! ## The reaction -/

/-- Orders posted in the slots that stand empty, and the step conditions tested if an event of R116 has come. -/
def postOrders (old s : State) : State :=
  let s := pumpSequence (pumpProtect s)
  if stepTrigger old s then stepTest s else s

/-- The deciding blocks take what an event has changed since `old`, against the values as they all stand after the event
(R45): the link state and the disagreement, the Start Sequencer's stop and triggers, the clash and the permit, contention and
autostop. -/
def decideBlocks (old s : State) : State :=
  let s := stopToCooldown (idleUpkeep (disagreeUpkeep (linkUpdate s)))
  let s := if triggerTrigger old s then triggerTest s else s
  let s := if clashTrigger old s then clashTest s else s
  let s := if grantTrigger old s then grantTest s else s
  let s := if decide (s.cooldownSeen ≠ old.cooldownSeen) then contention s else s
  if autostopTrigger old s then autostopTest s else s

/-- All blocks react to an event that led from `old` to `s`. -/
def react (old s : State) : State := postOrders old (decideBlocks old s)

end Sys2Proof.Machine
end

