-- ==== Sys2Proof/Machine/Table.lean ====
section
/-! DEFINITION. The Consist Table's refreshes and ageing (chapter 3), the relay map and snapshot (R28 to R33), the cycle boundary
(R3), and the composition of the own records (R20 to R27). -/

namespace Sys2Proof.Machine

/-! ## Entries -/

/-- The entry state that follows from an age (R35). -/
def stateOfAge (age : Nat) : EntryState :=
  if age ≤ 3 then .live else if age ≤ 49 then .stale else .lost

/-- An entry replaced in the table. -/
def setEntry (p : Fin 8) (e : Entry) (s : State) : State := { s with table := s.table.set p e }

/-- The previous engine state after a refresh that shows `engine` (R37). -/
def Entry.prevAfter (e : Entry) (engine : EngineState) : Option EngineState :=
  if e.state = .absent then none else if e.engine = engine then e.prev else some e.engine

/-- A direct refresh finds a known tag that differs from the record's: it is a replacement (R38). -/
def Entry.replacedBy (e : Entry) (tag : BitVec 16) : Bool :=
  decide (e.state ≠ .absent) && (match e.tag with | some t => decide (t ≠ tag) | none => false)

/-- The entry after a direct refresh, ordinary or replacing (R37, R38). -/
def Entry.refreshed (e : Entry) (r : Record) : Entry :=
  let replaced := e.replacedBy r.tag
  { state := .live
    tag := some r.tag
    source := .direct
    age := 0
    engine := r.contents.engine
    prev := if replaced then none else e.prevAfter r.contents.engine
    completed := r.contents.completed
    target := r.contents.target
    demand := r.contents.demand
    derate := r.contents.derate
    flags := r.contents.flags
    claim := r.contents.claim
    lastFault :=
      match r.fault with
      | some k => some k
      | none => if replaced then none else e.lastFault
    checkErrors := e.checkErrors }

/-- A refresh of a position is reported to CPA, and its phantom hold ends (R44, R64). -/
def endHold (p : Fin 8) (s : State) : State :=
  { s with cpa := { s.cpa with holds := s.cpa.holds.set p none } }

/-- The link counters replaced. -/
def mapCounters (f : LinkCounters → LinkCounters) (s : State) : State :=
  { s with clc := { s.clc with counters := f s.clc.counters } }

/-- One refresh of another position's entry, an event of its own: the entry is set, the refresh is reported to CPA, the clash is
tested on that change, and the views set afresh are delivered (R44, R45, R66). -/
def refreshEntry (p : Fin 8) (e : Entry) (s : State) : State := react s (clashTest (endHold p (setEntry p e s)))

/-- Entry `r.origin` refreshed directly from a record (R37, R38). -/
def directRefresh (r : Record) (s : State) : State :=
  let e := s.entry r.origin
  let s := if e.replacedBy r.tag then mapCounters (fun c => { c with tagChange := sat16 c.tagChange }) s else s
  refreshEntry r.origin (e.refreshed r) s

/-- The age test of a summary (R41). -/
def Entry.passesAge (e : Entry) (age : Nat) : Bool := decide (e.state = .absent) || decide (age + 1 < e.age)

/-- The entry after an applied summary relayed by `v` (R41). -/
def Entry.relayed (e : Entry) (v : Fin 8) (m : Summary) : Entry :=
  let known := decide (e.state ≠ .absent)
  let age := satAdd 63 m.age 1
  { state := stateOfAge age
    tag := if known then e.tag else none
    source := .relayed v
    age := age
    engine := m.engine
    prev := e.prevAfter m.engine
    completed := m.completed
    target := m.target
    demand := m.demand
    derate := m.derate
    flags :=
      { isolated := known && e.flags.isolated
        cooldownAuto := known && e.flags.cooldownAuto && decide (m.engine = .cooldown)
        autoStopped := known && e.flags.autoStopped && decide (m.engine = .stopped)
        sensorsFailed := known && e.flags.sensorsFailed }
    claim := m.claim
    lastFault := if known then e.lastFault else none
    checkErrors := e.checkErrors }

/-- One summary of a record from position `v` is applied or ignored (R40, R41). -/
def relayedRefresh (v : Fin 8) (m : Summary) (s : State) : State :=
  if s.ownPosition = some m.origin ∨ m.origin = v then s
  else
    let e := s.entry m.origin
    if e.passesAge m.age then refreshEntry m.origin (e.relayed v m) s else s

/-- The summaries of a record, one at a time (R40). -/
def relayedRefreshes (v : Fin 8) : List Summary → State → State
  | [], s => s
  | m :: ms, s => relayedRefreshes v ms (relayedRefresh v m s)

/-- A failed record's legible origin is counted against its entry (R39). -/
def countCheckError (p : Fin 8) (s : State) : State :=
  let e := s.entry p
  setEntry p { e with checkErrors := satAdd 255 e.checkErrors 1 } s

/-! ## Ageing -/

/-- An entry aged by one boundary (R42). -/
def Entry.aged (e : Entry) : Entry :=
  if e.state = .absent then e
  else
    let age := satAdd 63 e.age 1
    { e with age := age, state := stateOfAge age, claim := e.claim.map (fun a => satAdd 255 a 1) }

/-- The table aged, passing over the own entry (R36, R42). -/
def State.agedTable (s : State) : PerPosition Entry :=
  PerPosition.build (fun p => if s.ownPosition = some p then s.entry p else (s.entry p).aged)

/-- An entry becomes LOST by ageing while it shows a permit state: its report starts a phantom hold (R44, R63). -/
def State.startsHold (s : State) (p : Fin 8) : Bool :=
  decide (s.ownPosition ≠ some p) && (s.entry p).liveOrStale && decide ((s.entry p).aged.state = .lost)
    && (s.entry p).engine.holdsPermit

/-- The phantom holds after the LOST reports of a boundary (R63). -/
def State.holdsAfterAgeing (s : State) : PerPosition Timer :=
  PerPosition.build (fun p => if s.startsHold p then some 20000 else s.cpa.holds.get p)

/-! ## The own entry (R36) -/

/-- The own entry refreshed with the gathered values; a NOTICE's code becomes its last fault code. -/
def Entry.ownRefreshed (e : Entry) (c : Contents) (code : Option FaultKind) : Entry :=
  { e with
    state := .live, source := .direct, age := 0, prev := e.prevAfter c.engine, engine := c.engine, completed := c.completed,
    target := c.target, demand := c.demand, derate := c.derate, flags := c.flags, claim := c.claim,
    lastFault := if code.isSome then code else e.lastFault }

/-- The own entry's refresh, once there is an own position. -/
def refreshOwn (code : Option FaultKind) (s : State) : State :=
  match s.ownPosition with
  | some p => setEntry p ((s.entry p).ownRefreshed s.gather code) s
  | none => s

/-! ## Relay map and snapshot (R28 to R33) -/

/-- R-A acts (R28). -/
def Committed.aActs (c : Committed) : Bool := decide (c.relayA.mode ≠ .off) && decide (c.relayA.source ≠ c.position)

/-- R-B acts (R28). -/
def Committed.bActs (c : Committed) : Bool :=
  decide (c.relayB.mode ≠ .off) && decide (c.relayB.source ≠ c.position)
    && (decide (c.relayB.source ≠ c.relayA.source) || decide (c.relayA.mode = .off))

/-- The copy of an entry that is DIRECT and LIVE; of any other it is empty (R31). -/
def Entry.snapshot (e : Entry) : Option Snapshot :=
  if e.state = .live ∧ e.source = .direct then
    some { age := e.age, engine := e.engine, completed := e.completed, target := e.target, demand := e.demand,
           derate := e.derate, claim := e.claim }
  else none

/-- A summary made of a copy (R29, R32). -/
def Snapshot.summary (m : Snapshot) (origin : Fin 8) : Summary :=
  { origin, age := m.age, engine := m.engine, completed := m.completed, target := m.target, demand := m.demand,
    derate := m.derate, claim := m.claim }

/-- The copy of a relay entry after a boundary (R31). -/
def State.snapshotFor (s : State) (r : RelayEntry) (acts : Bool) (old : Option Snapshot) : Option Snapshot :=
  if acts && decide (r.mode = .snapshot) then (s.entry r.source).snapshot else old

/-- CLC takes the snapshot (R31). -/
def takeSnapshot (s : State) : State :=
  match s.mpt.committed with
  | none => s
  | some c =>
    { s with clc := { s.clc with
        snapA := s.snapshotFor c.relayA c.aActs s.clc.snapA
        snapB := s.snapshotFor c.relayB c.bActs s.clc.snapB } }

/-- The summary a relay entry composes now, if any (R30, R32). -/
def State.relaySummary (s : State) (r : RelayEntry) (acts : Bool) (copy : Option Snapshot) : Option Summary :=
  if acts then
    match r.mode with
    | .off => none
    | .latest => (s.entry r.source).snapshot.map (fun m => m.summary r.source)
    | .snapshot => copy.map (fun m => m.summary r.source)
  else none

/-- The relay list, R-A's summary first (R33). -/
def State.relayList (s : State) (c : Committed) : List Summary :=
  (s.relaySummary c.relayA c.aActs s.clc.snapA).toList ++ (s.relaySummary c.relayB c.bActs s.clc.snapB).toList

/-! ## Leaving LISTENING and CHECKING -/

/-- The end of the LISTENING phase (R13, R15). -/
def leaveListening (s : State) : State :=
  if 0 < s.clc.remainingCheck then
    { s with clc := { s.clc with
        linkState := .checking, injectDone := s.clc.injectDone || decide (s.clc.remainingInjected = 0) } }
  else setLink s.joinedOrAlone s

/-- A boundary counted towards LISTENING, whose 25th ends the phase (R13). -/
def countListening (s : State) : State :=
  if s.clc.linkState = .listening then
    let s := { s with clc := { s.clc with listeningCount := s.clc.listeningCount + 1 } }
    if 25 ≤ s.clc.listeningCount then leaveListening s else s
  else s

/-! ## The cycle boundary (R3) -/

/-- Link states that compose no STATUS or NOTICE record after commit (R36). -/
def LinkState.refreshesAtBoundary : LinkState → Bool
  | .listening | .checking | .silenced => true
  | _ => false

/-- What a boundary does to the state, before the blocks react: cycle count, ageing with its LOST reports, snapshot, LISTENING
count, the own claim's age, and the own entry where no record is composed (R3, R31, R36, R42, R56, R63). -/
def boundaryWork (s : State) : State :=
  let link := s.clc.linkState
  let table := s.agedTable
  let holds := s.holdsAfterAgeing
  let s := { s with
    table := table
    clc := { s.clc with cycleCount := s.clc.cycleCount + 1 }
    cpa := { s.cpa with holds := holds, claim := s.cpa.claim.map (fun a => satAdd 255 a 1) } }
  let s := takeSnapshot s
  let s := if link.refreshesAtBoundary then refreshOwn none s else s
  countListening s

/-- A cycle boundary, with the blocks' reaction to it. -/
def cycleBoundary (s : State) : State := react s (boundaryWork s)

/-! ## Composing and sending (R7, R8, R22) -/

/-- The station sends in these link states (R7). -/
def LinkState.sends : LinkState → Bool
  | .checking | .joined | .alone => true
  | _ => false

/-- The pair as the station takes it: busy until 80 µs have passed since the end of the last octet (R1). -/
def State.pairBusy (s : State) : Bool := decide (0 < s.clc.busyUs)

/-- A record put on the pair, each octet with its parity bit; it keeps the pair busy to 80 µs after its last octet (R1), and no
octet up to the next quiet begins a record (R9). -/
def startSending (kind : RecordKind) (octets : List Byte) (s : State) : State :=
  { s with clc := { s.clc with
      tx := .sending ⟨kind, octets.map withParity, 72 * octets.length⟩, busyUs := 72 * octets.length + 80,
      reception := .suspended (72 * octets.length + 80) 0 } }

/-- A CHECK record composed and its sending started (R16, R21). -/
def sendCheck (c : Committed) (deferred : Bool) (s : State) : State :=
  let inject := decide (0 < s.clc.remainingInjected)
  let plain := checkPayload c.position s.clc.cycleCount
  let payload := if inject then injectError s.clc.checkIndex plain else plain
  startSending (.check inject) (checkOctets c.position deferred c.tag s.clc.cycleCount payload) s

/-- A NOTICE with the oldest pending kind, or a STATUS when none is pending, composed and its sending started; the own entry
takes the same values (R22, R26, R36). -/
def sendStatus (c : Committed) (deferred : Bool) (s : State) : State :=
  let code := s.fcl.notices.head?
  let octets := statusOctets code c.position deferred s.clc.linkState c.tag s.clc.cycleCount s.gather (s.relayList c)
  let s := refreshOwn code { s with fcl := { s.fcl with notices := s.fcl.notices.tail } }
  startSending (match code with | some k => .notice k | none => .status) octets s

/-- The own record of the link state is composed and sent (R7). -/
def sendRecord (deferred : Bool) (s : State) : State :=
  match s.mpt.committed with
  | none => s
  | some c =>
    match s.clc.linkState with
    | .checking => sendCheck c deferred s
    | .joined | .alone => sendStatus c deferred s
    | _ => s

/-- The window index has entered the own window (R7, R8). -/
def beginOwnWindow (s : State) : State :=
  if s.clc.linkState.sends then
    if s.pairBusy then { s with clc := { s.clc with tx := .deferring } } else sendRecord false s
  else s

/-- One more on WINDOW_MISSED (R6, R8). -/
def countMissed (s : State) : State := mapCounters (fun c => { c with windowMissed := sat16 c.windowMissed }) s

/-- The sending side set. -/
def setTx (t : Tx) (s : State) : State := { s with clc := { s.clc with tx := t } }

/-- The window index and timer set. -/
def setWindow (i : Fin 8) (us : Nat) (s : State) : State :=
  { s with clc := { s.clc with windowIndex := i, windowTimer := some us } }

/-- The index has passed from 7 to 0: a boundary, unless the repeat mark is set, which is then cleared (R3, R5). -/
def passZero (s : State) : State :=
  if s.clc.repeatMark then { s with clc := { s.clc with repeatMark := false } } else cycleBoundary s

/-- The window ends and the next begins (R3, R7, R27). -/
def advanceWindow (s : State) : State :=
  let i := s.clc.windowIndex
  let s := setWindow (i + 1) 0 s
  let s := if i = 7 then passZero s else s
  if s.ownPosition = some (i + 1) then beginOwnWindow s else s

end Sys2Proof.Machine
end

