-- ==== Sys2Proof/Machine/Link.lean ====
section
/-! DEFINITION. The commands of the consist link and the crank permit (chapters 1 to 4): windows, sending, records taken, the line
check, and phantom holds. -/

namespace Sys2Proof.Machine

/-- What a command answers: no command stops the station. -/
abbrev Answer := Host.Outcome State Fault Refusal

/-! ## Sending to its end -/

/-- Sending has ended with the octet that has just gone out: the pair is busy for 80 µs more (R1), and reception waits for the quiet
after them (R2, R9). -/
def stopSending (s : State) : State :=
  { s with clc := { s.clc with tx := .idle, busyUs := 80, reception := .suspended 80 0 } }

/-- COLLISION (R2): sending stops at the end of the octet, COLLISION increases, and a NOTICE hands its kind back. -/
def execCollision (s : State) : Answer :=
  .next
    (match s.clc.tx with
     | .sending r =>
       let s := mapCounters (fun c => { c with collision := sat16 c.collision }) (stopSending s)
       match r.kind with
       | .notice k => restoreNotice k s
       | _ => s
     | _ => s)

/-- The station leaves CHECKING (R14, R15). -/
def leaveChecking (s : State) : State :=
  if s.clc.linkState = .checking then setLink s.joinedOrAlone s else s

/-- The counts of a CHECK record sent completely (R15). -/
def countCheckSent (injected : Bool) (s : State) : State :=
  let left := if injected then s.clc.remainingInjected - 1 else s.clc.remainingInjected
  { s with clc := { s.clc with
      checkIndex := s.clc.checkIndex + 1
      remainingCheck := s.clc.remainingCheck - 1
      remainingInjected := left
      injectDone := s.clc.injectDone || (injected && decide (left = 0)) } }

/-- A CHECK record has been sent completely, and its last octet has just ended (R1); the record that takes the remaining check count
to 0 ends the line check (R15). -/
def checkSent (injected : Bool) (s : State) : State :=
  let s' := countCheckSent injected (stopSending s)
  if s'.clc.remainingCheck = 0 then react s (leaveChecking s') else s'

/-- An own record still taken as being sent has gone out, its echoes matched (R2): a CHECK record counts (R15, log entry 27). -/
def finishSending (s : State) : State :=
  match s.clc.tx with
  | .sending r =>
    match r.kind with
    | .check injected => checkSent injected s
    | _ => setTx .idle s
  | _ => s

/-- A CHECK record is being sent. -/
def State.sendsCheck (s : State) : Bool :=
  match s.clc.tx with
  | .sending r =>
    match r.kind with
    | .check _ => true
    | _ => false
  | _ => false

/-- CHECK_RECORD_SENT (R15). -/
def execCheckRecordSent (s : State) : Answer := .next (if s.sendsCheck then finishSending s else s)

/-- LINE_CHECK_END (R15): the CHECK record sent completely that takes the remaining check count to 0 (log entry 4). -/
def execLineCheckEnd (s : State) : Answer :=
  .next (if s.sendsCheck && decide (s.clc.linkState = .checking) && decide (s.clc.remainingCheck = 1) then finishSending s else s)

/-! ## Windows and deferral -/

/-- Reception `us` µs on: the quiet that the station's own octets leave comes nearer, and then lasts (R9). -/
def Reception.pass (us : Nat) : Reception → Reception
  | .ready => .ready
  | .suspended own quiet => .suspended (own - us) (quiet + (us - own))

/-- Reception as a window begins with the pair busy for `busyUs` more: taken up if the pair is quiet, else the rest of the window
that ends has passed (R3, R9). -/
def State.receptionAtWindow (s : State) (busyUs : Nat) : Reception :=
  if busyUs = 0 then .ready else s.clc.reception.pass (5000 - s.clc.windowTimer.getD 0)

/-- A record or deferral of the window that ends: a record has gone out by then, and a deferral still waiting is missed
(R8, log entries 20 and 27). -/
def closeWindow (s : State) : State :=
  if s.clc.tx = .deferring then countMissed (setTx .idle s) else finishSending s

/-- The window timer expires (R3), and the pair stays busy for so many µs as the new window begins (log entry 10). -/
def expireWindow (busyUs : Nat) (s : State) : State :=
  let s' := closeWindow s
  advanceWindow { s' with clc := { s'.clc with busyUs := busyUs, reception := s.receptionAtWindow busyUs } }

/-- WINDOW_TIMER_EXPIRY (R3). -/
def execWindowTimerExpiry (busyUs : Nat) (s : State) : Answer :=
  .next (if s.clc.windowTimer.isNone then s else expireWindow busyUs s)

/-- The next expiry of the window timer takes the 25th boundary of LISTENING (R3, R13). -/
def State.listeningEnds (s : State) : Bool :=
  s.clc.windowTimer.isSome && decide (s.clc.linkState = .listening) && decide (s.clc.windowIndex = 7) && !s.clc.repeatMark
    && decide (25 ≤ s.clc.listeningCount + 1)

/-- LISTENING_END (R13): the expiry of the window timer that takes the 25th boundary; how long the pair is busy then is free (log
entries 4 and 34). -/
def execListeningEnd (s : State) : Answer :=
  .next (if s.listeningEnds then expireWindow (Config.listeningBusy s.freeCount) (useFree s) else s)

/-- The pair has become quiet: an own record has gone out by then, and the octets that start next are a record (R1, R9). -/
def pairQuiet (s : State) : State :=
  let s := finishSending s
  { s with clc := { s.clc with busyUs := 0, reception := .ready } }

/-- DEFERRED_SEND (R8): the pair has become quiet, at or before 2.0 ms into the window. -/
def execDeferredSend (s : State) : Answer :=
  .next
    (if s.clc.tx = .deferring ∧ (s.clc.windowTimer.getD 0) ≤ 2000 then sendRecord true (pairQuiet s) else s)

/-- DEFERRAL_TIMEOUT (R8): the pair is still busy at 2.0 ms. -/
def execDeferralTimeout (s : State) : Answer :=
  .next (if s.clc.tx = .deferring then countMissed (setTx .idle s) else s)

/-! ## Realignment (R4 to R6) -/

/-- The own window is passed over by a forward move from `i` to `q`, or left while a deferral waits (R6). -/
def State.missesWindow (s : State) (i q : Fin 8) : Bool :=
  match s.ownPosition with
  | none => false
  | some own =>
    decide (i ≠ own) && decide (1 ≤ (q - i).val) && decide ((q - i).val ≤ 4) && decide (1 ≤ (own - i).val)
      && decide ((own - i).val < (q - i).val)

/-- The boundary or repeat mark of a realignment from `i` to `q` (the table of R5). -/
def crossZero (i q : Fin 8) (s : State) : State :=
  if 1 ≤ (q - i).val ∧ (q - i).val ≤ 4 ∧ q < i then passZero s
  else if 5 ≤ (q - i).val ∧ i < q then { s with clc := { s.clc with repeatMark := true } }
  else s

/-- A realignment to window `q`, whose opening octet began `us` µs ago (R4 to R6). -/
def realign (q : Fin 8) (us : Nat) (s : State) : State :=
  let i := s.clc.windowIndex
  let s :=
    if s.clc.tx = .deferring ∧ q ≠ i then countMissed (setTx .idle s)
    else if s.missesWindow i q && s.clc.linkState.sends then countMissed s
    else s
  let s := crossZero i q (setWindow q us s)
  if 5000 ≤ us then advanceWindow s else s

/-! ## Records taken (R9 to R12, R17) -/

/-- A CHECK payload compared with the expected one (R17). -/
def compareCheck (r : Record) (s : State) : State :=
  let n := differingBits (checkPayload r.origin r.cycle) r.payload
  mapCounters (fun c => { c with
    lineBitErrors := satAdd 65535 c.lineBitErrors n, checkRecordsSeen := sat16 c.checkRecordsSeen }) s

/-- A record from the own position with another tag (R12): a deferral ends, because SILENCED sends nothing. -/
def duplicatePosition (s : State) : State :=
  let s := mapCounters (fun c => { c with dupPositionSeen := sat16 c.dupPositionSeen }) s
  let s := raiseFault .duplicatePosition s
  let s := if s.clc.tx = .deferring then setTx .idle s else s
  setLink .silenced s

/-- An accepted STATUS or NOTICE record handed to the Consist Table, refresh by refresh (R40, log entry 16). -/
def handOn (r : Record) (s : State) : State := relayedRefreshes r.origin r.summaries (directRefresh r s)

/-- The µs since the start of a record's opening octet at the moment it is taken: its octets and 80 µs of quiet (R1, R9). -/
def sinceOpening (n : Nat) : Nat := 72 * n + 80

/-- An accepted record (R11). The realignment, with the boundary it may cause, comes before the refresh (R43). -/
def actOnRecord (r : Record) (us : Nat) (s : State) : State :=
  let s := mapCounters (fun c => { c with recordsGood := sat16 c.recordsGood }) s
  match s.mpt.committed with
  | none =>
    let s := if r.deferred then s else realign r.origin us s
    if r.mark = .check then compareCheck r s else s
  | some c =>
    if r.origin = c.position then
      if r.tag = c.tag then s else react s (duplicatePosition s)
    else
      let s := if r.deferred then s else realign r.origin us s
      if r.mark = .check then compareCheck r s else handOn r s

/-- A record that failed a test of R10. -/
def rejectRecord (ws : List WireOctet) (s : State) : State :=
  let s := mapCounters (fun c => { c with checkError := sat16 c.checkError }) s
  match s.mpt.committed, legibleOrigin ws with
  | some c, some p => if p = c.position then s else countCheckError p s
  | _, _ => s

/-- The octets are a record: the pair was quiet before the first of them, which began `sinceOpening` µs ago (R2, R9, log
entry 10). -/
def Reception.frames (octets : Nat) : Reception → Bool
  | .ready => true
  | .suspended _ quiet => decide (sinceOpening octets ≤ quiet)

/-- RECORD_TAKEN (R10). Octets with no quiet before them, such as those still on the pair after a collision, are no record (R2, R9).
Nothing is received while the station is held in reset (R19). -/
def execRecordTaken (octets : List WireOctet) (s : State) : Answer :=
  .next
    (if s.inReset then s
     else if !s.clc.reception.frames octets.length then pairQuiet s
     else
      let s := pairQuiet s
      match acceptRecord octets with
      | some r => actOnRecord r (sinceOpening octets.length) s
      | none => rejectRecord octets s)

/-- PHANTOM_HOLD_EXPIRY (R64): a running hold returns to idle, and permit in use is recomputed. -/
def execPhantomHoldExpiry (p : Fin 8) (s : State) : Answer :=
  .next (if (s.cpa.holds.get p).isSome then react s (endHold p s) else s)

end Sys2Proof.Machine
end

