-- ==== Sys2Proof/Machine/Channel.lean ====
section
/-! DEFINITION. The commands of the engine-room channel (chapter 7): endings of transactions, device health, the engine sensor
record, and the sensor poll. -/

namespace Sys2Proof.Machine

/-! ## Health (R140 to R142, R145) -/

/-- A health record after an ending (R141). -/
def Health.after (h : Health) (e : Ending) : Health :=
  match e with
  | .accept _ _ _ => { h with consecutive := 0 }
  | .exception c => { h with consecutive := 0, lastException := some c }
  | .noReply | .corrupt | .misrouted =>
    { h with consecutive := satAdd 3 h.consecutive 1, total := satAdd 65535 h.total 1 }
  | .inhibited => h

/-- A health record set. -/
def setHealth (d : Device) (h : Health) (s : State) : State :=
  { s with erc := { s.erc with health := s.erc.health.set d h } }

/-- The state of the engine sensor record set. -/
def setRecordState (r : RecordState) (s : State) : State :=
  { s with erc := { s.erc with sensor := { s.erc.sensor with state := r } } }

/-- Every running apply and release timer stopped (R109). -/
def stopDerateTimers (s : State) : State :=
  let stop (c : DerateCond) : DerateCond := ⟨c.applied, none, none⟩
  let d := s.nsp.derates
  { s with nsp := { s.nsp with derates :=
      ⟨stop d.coolantWarm, stop d.coolantHigh, stop d.coolantVeryHigh, stop d.intakeWarm, stop d.intakeHigh,
       stop d.intakeVeryHigh⟩ } }

/-- A device becomes FAILED, as the Notch Stepper takes it (R109, R122). -/
def nspDeviceFailed (d : Device) (s : State) : State :=
  match d with
  | .load => urgentTest s
  | .sensors => stopDerateTimers s
  | _ => s

/-- A device has become FAILED: a VALID sensor record becomes STALE, SSQ and NSP take the change, and then DEVICE_FAILED is raised
(R100, R137, R142, R145). The raise comes after what the change brings, as the sentences of R137 stand (DEDUCED, log
entry 31). -/
def becomeFailed (d : Device) (s : State) : State :=
  let s := if d = .sensors ∧ s.erc.sensor.state = .valid then setRecordState .stale s else s
  raiseFault (.deviceFailed d) (nspDeviceFailed d (ssqDeviceFailed d s))

/-- A device's health record set to `h`, with FAILED begun (R142) or ended, which clears DEVICE_FAILED. -/
def changeHealth (d : Device) (h : Health) (s : State) : State :=
  let old := s.erc.health.get d
  let s := setHealth d h s
  if h.failed && !old.failed then becomeFailed d s
  else if old.failed && !h.failed then clearFault (.deviceFailed d) s
  else s

/-- Whether a device's health state differs between two states: its standing follows the consecutive failures (R140). -/
def healthChanged (d : Device) (old s : State) : Bool :=
  decide ((s.erc.health.get d).standing ≠ (old.erc.health.get d).standing)

/-- SENSORS has left FAILED since `old`, otherwise than by ACCEPT: a STALE sensor record is VALID again with its kept data, and no
test comes with it (R145, log entry 23). -/
def sensorsReturn (old s : State) : State :=
  if old.deviceFailed .sensors && !s.deviceFailed .sensors && decide (s.erc.sensor.state = .stale) then
    setRecordState .valid s
  else s

/-! ## The engine sensor record (R108, R144) -/

/-- A derate condition at an update of the sensor record (the table of R108). -/
def DerateCond.update (c : DerateCond) (present : Bool) : DerateCond :=
  if c.applied then
    if present then { c with releaseTimer := none }
    else { c with releaseTimer := some (c.releaseTimer.getD 10000) }
  else
    if present then { c with applyTimer := some (c.applyTimer.getD 2000) }
    else { c with applyTimer := none }

/-- The six derate conditions at an update (R108). -/
def updateDerates (s : State) : State :=
  let d := s.nsp.derates
  let r := s.erc.sensor
  let u (k : Derate) (c : DerateCond) : DerateCond := c.update (Derate.present k r.coolant r.intake)
  { s with nsp := { s.nsp with derates :=
      ⟨u .coolantWarm d.coolantWarm, u .coolantHigh d.coolantHigh, u .coolantVeryHigh d.coolantVeryHigh,
       u .intakeWarm d.intakeWarm, u .intakeHigh d.intakeHigh, u .intakeVeryHigh d.intakeVeryHigh⟩ } }

/-- The temperature an octet stands for (R176). -/
def temperatureOf (b : Byte) : Int := (b.toNat : Int) - 50

/-- An ACCEPT of SENSORS READ fills the record and delivers an update to SSQ and NSP (R144, R176). -/
def sensorUpdate (d0 d1 d2 : Byte) (s : State) : State :=
  let s := { s with erc := { s.erc with sensor := ⟨temperatureOf d0, temperatureOf d1, d2.getLsbD 0, 0, .valid⟩ } }
  updateDerates (ssqSensorUpdate s)

/-! ## Endings (R137) -/

/-- The ending handed to the client whose slot is in flight, with the slot made empty (R131, R137). -/
def clientEnding (t : Transaction) (e : Ending) (s : State) : State :=
  let s := setSlot t.client .empty s
  match t.client with
  | .protect =>
    match t.request.producer with
    | .nsp => unloadEnding t.request.order e s
    | _ => protEnding t.request.order e s
  | .sequence => seqEnding t.request.order e s
  | .notch => notchEnding e s
  | .poll => s

/-- Step 1 of an ending: the health record of the device asked, with the autostop test at a change of the SENSORS device's health
(R91, R137, R141). An ACCEPT's data make the record VALID at step 2; after any other ending the record returns by R145. -/
def healthStep (t : Transaction) (e : Ending) (s : State) : State :=
  let d := t.request.order.device
  let s' := changeHealth d ((s.erc.health.get d).after e) s
  let s' := if d = .sensors ∧ healthChanged d s s' then autostopTest s' else s'
  if e.accepted then s' else sensorsReturn s s'

/-- Step 2 of an ending: the sensor record (R137). -/
def sensorStep (t : Transaction) (e : Ending) (s : State) : State :=
  match e with
  | .accept d0 d1 d2 => if t.request.order = .read then sensorUpdate d0 d1 d2 s else s
  | _ => s

/-- The ending of the current transaction: health, sensor record, client, the blocks' reaction with the slots filled again, then
the tag and IDLE with its grant (R133, R137). -/
def transactionEnd (e : Ending) (s : State) : State :=
  match s.erc.current with
  | none => enterIdle s
  | some t =>
    enterIdle (react s (clientEnding t e (sensorStep t e (healthStep t e s))))

/-- The reply line as the sending of a request ends: the request has taken 54 bit times since the release (R128). -/
def ReplyLine.afterRequest : ReplyLine → ReplyLine
  | .clear => .clear
  | .waiting n => .waiting (max 54 n)

/-- SENDING_END (R128, R133). -/
def execSendingEnd (s : State) : Answer :=
  .next
    (if s.erc.sequencer = .sending then
      { s with erc := { s.erc with
          sequencer := .awaiting, replyTimer := some 20, sinceSent := 0, replyLine := s.erc.replyLine.afterRequest } }
     else s)

/-! ## Replies (R129, R135, R136) -/

/-- The bit times of one ms on the engine-room channel (R128). -/
def bitTimesPerMs : Nat := 180

/-- The wait of the reply line for its first quiet, so many ms on (R136). -/
def ReplyLine.pass (ms : Nat) : ReplyLine → ReplyLine
  | .clear => .clear
  | .waiting n => .waiting (n + bitTimesPerMs * ms)

/-- The bit times that so many octets and a quiet on either side of them take on the reply line (R128, R129). -/
def replyBitTimes (octets : Nat) : Nat := 20 + 9 * octets + 20

/-- A timer that reset release started has expired, or the link has counted time since: more has passed than a request takes (R3,
R103, R143, R148, R150, R154, R167). -/
def State.timeShown (s : State) : Bool :=
  decide (s.clc.reception ≠ .suspended 80 0) || s.lmn.sample.isSome || s.lmn.silenceTimer.isNone
    || [Line.start, .stop, .freset, .estop, .runIso].any (fun l => (s.lmn.lines.get l).level.isSome)
    || s.nsp.demandTimer.isNone || s.mpt.configTimer.isNone || !s.erc.slots.poll.isEmpty

/-- The first request since reset release is still going out, and nothing shows that its 54 bit times have passed (R75, R128,
R132). -/
def State.inFirstRequest (s : State) : Bool :=
  decide (s.erc.sequencer = .sending) && !s.timeShown
    && (match s.erc.replyLine with
        | .clear => false
        | .waiting n => decide (n < 54))

/-- Octets that fill the reply line from one quiet to the next are a reply (R129, R136), but for those that cannot have had 20 bit
times of quiet before them since reset release: all that while the first request goes out takes less time than they do (log
entry 38). -/
def State.replyFramed (s : State) (octets : Nat) : Bool := !(s.inFirstRequest && decide (54 < replyBitTimes octets))

/-- The reply line is known to be quiet, or to have been so (R129, R136). -/
def replyQuiet (s : State) : State := { s with erc := { s.erc with replyLine := .clear } }

/-- One more on LATE_REPLY (R135, R136). -/
def countLateReply (s : State) : State := { s with erc := { s.erc with lateReply := sat16 s.erc.lateReply } }

/-- A reply taken by the sequencer's state (R135, R136). -/
def takeReply (octets : List WireOctet) (s : State) : State :=
  if s.erc.sequencer = .awaiting then
    match s.erc.current with
    | none => countLateReply s
    | some t =>
      match classifyReply t octets with
      | some e => transactionEnd e s
      | none => countLateReply s
  else countLateReply s

/-- REPLY_TAKEN (R135, R136). No reply is taken while the station is held in reset. Octets with no quiet before them since the
release are the rest of a lost reply, and after them the line is quiet. -/
def execReplyTaken (octets : List WireOctet) (s : State) : Answer :=
  .next
    (if s.inReset then s
     else if s.replyFramed octets.length then takeReply octets (replyQuiet s)
     else replyQuiet s)

/-- REPLY_TIMEOUT (R133): the 20 ms since the end of sending have passed, whatever of them no tick has brought. -/
def execReplyTimeout (s : State) : Answer :=
  .next
    (if s.erc.sequencer = .awaiting then
      transactionEnd .noReply
        { s with erc := { s.erc with replyLine := s.erc.replyLine.pass (20 - s.erc.sinceSent) } }
     else s)

/-- POLL_TIMER_EXPIRY (R143): SENSORS READ is posted if the slot is empty, and refused at once under ESTOP (R138). -/
def execPollTimerExpiry (s : State) : Answer :=
  .next
    (if s.erc.pollTimer.isNone then s
     else
      let s := { s with erc := { s.erc with pollTimer := some 250 } }
      if s.erc.slots.poll.isEmpty && !s.estop then post .poll ⟨.read, 0, .erc⟩ s else s)

end Sys2Proof.Machine
end

