-- ==== Sys2Proof/Machine/Lines.lean ====
section
/-! DEFINITION. The commands of the command lines and the demand lines (sections 8.4 and 6.1): levels taken, the fault reset, the
emergency stop, and the demand reading. -/

namespace Sys2Proof.Machine

/-! ## Fault reset (R101, R142, R166) -/

/-- The Start Sequencer's part: LOCKED_OUT with the silence flag set is left for STOPPED, reason MANUAL (R101). -/
def ssqFaultReset (s : State) : State :=
  if s.ssq.engine = .lockedOut ∧ s.lmn.silence then enterStopped (setReason .manual s) else s

/-- The Engine-Room Channel's part: every health record to OK, each change delivered (R142). The sensor record's return to VALID
brings no test, and nothing of the Start Sequencer's state changes (R101, R145, log entry 23). -/
def ercFaultReset (s : State) : State :=
  let ok (d : Device) (s : State) : State := changeHealth d Health.ok s
  sensorsReturn s (ok .sensors (ok .load (ok .prelube (ok .starter (ok .governor s)))))

/-- A fault reset, taken by each block by its own rules (R155). -/
def faultReset (s : State) : State := ssqFaultReset (faultResetFaults (ercFaultReset s))

/-- What the Line Monitors do at the expiry of the silence timer, before the silence event is taken (R148). -/
def setSilence (s : State) : State :=
  { s with lmn := { s.lmn with silenceTimer := none, silence := true, measured := 0 } }

/-- The rising edge of FRESET. Where the silence timer stands at its expiry the two come together: the flag is set before either
block takes its event, and the reset is taken first (R148, R166, log entry 32). -/
def resetEdge (s : State) : State :=
  if s.lmn.silenceTimer = some 0 then ssqSilence (faultReset (setSilence s)) else faultReset s

/-! ## Emergency stop (R95, R96, R138, R139) -/

/-- The pending SEQUENCE request refused with INHIBITED (R138). -/
def inhibitSequence (s : State) : State :=
  match s.erc.slots.sequence with
  | .pending r => seqEnding r.order .inhibited (setSlot .sequence .empty s)
  | _ => s

/-- The pending NOTCH request refused with INHIBITED (R138). -/
def inhibitNotch (s : State) : State :=
  match s.erc.slots.notch with
  | .pending _ => notchEnding .inhibited (setSlot .notch .empty s)
  | _ => s

/-- Every pending slot but PROTECT is emptied, and its client handed INHIBITED (R138). -/
def inhibitPending (s : State) : State := withdraw .poll (inhibitNotch (inhibitSequence s))

/-- The Start Sequencer takes an ESTOP assertion (R95); the sequence order list is emptied in every state (R75, log
entry 12). -/
def ssqEstop (s : State) : State :=
  let s := raiseFault .emergencyStop s
  let s := { s with ssq := { s.ssq with seqList := [] } }
  match s.ssq.engine with
  | .stopped | .lockedOut => s
  | .shutdown => setReason .manual (protectiveSequence false (clearFuel s))
  | _ => protectiveShutdown s

/-- The debounced level of a line set. -/
def setLevel (l : Line) (v : Bool) (s : State) : State :=
  { s with lmn := { s.lmn with lines := s.lmn.lines.set l ⟨some v, none⟩ } }

/-- Whether an ESTOP assertion meets a request whose client it also withdraws (R139). -/
def State.meetsRequest (s : State) : Bool := s.erc.slots.sequence.isPending || s.erc.slots.notch.isPending

/-- The channel's refusal taken before the Start Sequencer's assertion where the free choice says so (R139). The refusal is taken
before the ESTOP level is set, so a failed attempt that it brings still adds its orders (DEDUCED, log entry 36). -/
def refuseFirst (s : State) : State :=
  if s.meetsRequest then
    if Config.inhibitFirst s.freeCount then inhibitPending (useFree s) else useFree s
  else s

/-- An ESTOP assertion (R156). -/
def estopAssertion (s : State) : State := inhibitPending (ssqEstop (setLevel .estop true (refuseFirst s)))

/-- An ESTOP release (R96, R156): in STOPPED with reason AUTO the triggers are tested, and nothing else is restarted. -/
def estopRelease (s : State) : State :=
  let s := clearFault .emergencyStop (setLevel .estop false s)
  if s.ssq.engine = .stopped then triggerTest s else s

/-! ## Levels taken (R154 to R157) -/

/-- The stable time of a line in ms (section 8.4). -/
def stableTime : Line → Nat
  | .start | .stop | .freset => 100
  | .estop => 20
  | .runIso => 200

/-- The level on a line starts its stability timer (R154). -/
def startStability (l : Line) (s : State) : State :=
  { s with lmn := { s.lmn with lines := s.lmn.lines.set l { s.lmn.lines.get l with timer := some (stableTime l) } } }

/-- A rising edge acts as `act`; every other level taken is only held (R155). -/
def takeEdge (l : Line) (v : Bool) (act : State → State) (s : State) : State :=
  let rising := v && (s.lmn.lines.get l).level == some false
  let s := setLevel l v s
  if rising then act s else s

/-- A level that differs from the debounced level is taken (R154 to R157). The first level of ESTOP not asserted is no
release, and the first ISOLATE is no change. -/
def takeLevel (l : Line) (v : Bool) (s : State) : State :=
  match l with
  | .start => takeEdge .start v startRequest s
  | .stop => takeEdge .stop v stopRequest s
  | .freset => takeEdge .freset v resetEdge s
  | .estop =>
    if v then estopAssertion s
    else if (s.lmn.lines.get .estop).level = none then setLevel .estop false s
    else estopRelease s
  | .runIso =>
    let change := decide (v ≠ s.isolated)
    let s := setLevel .runIso v s
    if v && change then urgentTest s else s

/-- LINE_LEVEL_CHANGE (R154). While the station is held in reset only the pin moves. -/
def execLineLevelChange (l : Line) (v : Bool) (s : State) : Answer :=
  .next
    (if s.pins.lines.get l = v then s
     else
      let s := { s with pins := { s.pins with lines := s.pins.lines.set l v } }
      if s.inReset then s else startStability l s)

/-- LINE_STABILITY_EXPIRY (R154). -/
def execLineStabilityExpiry (l : Line) (s : State) : Answer :=
  .next
    (if (s.lmn.lines.get l).timer.isNone then s
     else
      let v := s.pins.lines.get l
      let s' := { s with lmn := { s.lmn with lines := s.lmn.lines.set l { s.lmn.lines.get l with timer := none } } }
      if (s.lmn.lines.get l).level = some v then s' else react s (takeLevel l v s'))

/-! ## Demand (R103, R104, R106) -/

/-- The notch a demand code names; none for the seven invalid codes (R103). -/
def notchOfLines (code : BitVec 4) : Option Nat :=
  match code with
  | 0b0000 => some 0
  | 0b0001 => some 1
  | 0b0011 => some 2
  | 0b0010 => some 3
  | 0b0110 => some 4
  | 0b0111 => some 5
  | 0b0101 => some 6
  | 0b0100 => some 7
  | 0b1100 => some 8
  | _ => none

/-- The stability timer started for the code on the lines (R103). -/
def startDemandTimer (s : State) : State :=
  { s with nsp := { s.nsp with demandTimer := some (if (notchOfLines s.pins.demandCode).isSome then 60 else 500) } }

/-- DEMAND_CODE_CHANGE (R103). While the station is held in reset only the pins move. -/
def execDemandCodeChange (code : BitVec 4) (s : State) : Answer :=
  .next
    (if s.pins.demandCode = code then s
     else
      let s := { s with pins := { s.pins with demandCode := code } }
      if s.inReset then s else startDemandTimer s)

/-- A demand code taken (R103). -/
def takeDemand (s : State) : State :=
  let r := notchOfLines s.pins.demandCode
  let s := { s with nsp := { s.nsp with reading := r, demandTimer := none } }
  if r.isSome then clearFault .demandInvalid s else raiseFault .demandInvalid s

/-- DEMAND_STABILITY_EXPIRY (R103). -/
def execDemandStabilityExpiry (s : State) : Answer :=
  .next (if s.nsp.demandTimer.isNone then s else react s (takeDemand s))

/-- DISAGREEMENT_TIMER_EXPIRY (R106). -/
def execDisagreementTimerExpiry (s : State) : Answer :=
  .next
    (if s.nsp.disagreeTimer.isNone then s
     else raiseFault .demandDisagree { s with nsp := { s.nsp with disagreeTimer := none } })

end Sys2Proof.Machine
end

