-- ==== Sys2Proof/Machine/Notch.lean ====
section
/-! DEFINITION. The commands of the Notch Stepper's own timers (chapter 6): derate conditions, the dwell clock, the abandon hold
and the deviation watch. -/

namespace Sys2Proof.Machine

/-- A derate condition set. -/
def setDerate (c : Derate) (v : DerateCond) (s : State) : State :=
  { s with nsp := { s.nsp with derates := s.nsp.derates.set c v } }

/-- The derate cap becomes 0 between two states: the urgent cause begins (R122). -/
def derateUrgent (old s : State) : State :=
  if s.derateCap = 0 ∧ old.derateCap ≠ 0 then urgentTest s else s

/-- A condition becomes applied; coolant very high raises COOLANT_HOT (R108, R109). -/
def applyDerate (c : Derate) (s : State) : State :=
  let s' := setDerate c ⟨true, none, none⟩ s
  let s' := if c = .coolantVeryHigh then raiseFault .coolantHot s' else s'
  derateUrgent s s'

/-- A condition is released; coolant very high clears COOLANT_HOT (R108, R109). -/
def releaseDerate (c : Derate) (s : State) : State :=
  let s' := setDerate c ⟨false, none, none⟩ s
  if c = .coolantVeryHigh then clearFault .coolantHot s' else s'

/-- DERATE_APPLY_TIMER_EXPIRY (R108). -/
def execDerateApplyTimerExpiry (c : Derate) (s : State) : Answer :=
  .next (if (s.nsp.derates.get c).applyTimer.isNone then s else react s (applyDerate c s))

/-- DERATE_RELEASE_TIMER_EXPIRY (R108). -/
def execDerateReleaseTimerExpiry (c : Derate) (s : State) : Answer :=
  .next (if (s.nsp.derates.get c).releaseTimer.isNone then s else react s (releaseDerate c s))

/-- The ms at which a mark of the dwell clock stands (R116); completed notch 8 has no up dwell (DESIGN CHOICE, log entry 33). -/
def State.dwellMark (s : State) : DwellMark → Option Nat
  | .down => some 1000
  | .up => if s.nsp.completed < 8 then some (upDwell s.nsp.completed) else none

/-- The dwell clock has come to `ms`; it never goes back. -/
def reachDwell (ms : Nat) (s : State) : State :=
  { s with nsp := { s.nsp with dwell := s.nsp.dwell.map (max ms) } }

/-- DWELL_CLOCK_REACHED (R116): the running dwell clock stands at the mark, and the step conditions are tested. -/
def execDwellClockReached (m : DwellMark) (s : State) : Answer :=
  .next
    (match s.dwellMark m with
     | some ms => if s.nsp.dwell.isNone then s else stepTest (reachDwell ms s)
     | none => s)

/-- ABANDON_HOLD_EXPIRY (R119). -/
def execAbandonHoldExpiry (s : State) : Answer :=
  .next
    (if s.nsp.abandonHold.isNone then s else stepTest { s with nsp := { s.nsp with abandonHold := none } })

/-- DEVIATION_WATCH_EXPIRY (R121): SPEED_DEVIATION is raised, and the watch returns to idle. -/
def execDeviationWatchExpiry (s : State) : Answer :=
  .next
    (if s.nsp.watch.isNone then s
     else raiseFault .speedDeviation { s with nsp := { s.nsp with watch := none } })

end Sys2Proof.Machine
end

