-- ==== Sys2Proof/Machine/Start.lean ====
section
/-! DEFINITION. The commands of the Start Sequencer's timers (chapter 5). A phase timer runs only in its own state (R73), so its
expiry acts there alone. -/

namespace Sys2Proof.Machine

/-- A phase timer's expiry: `act`, with the blocks' reaction, while the timer runs in its own engine state (R73). -/
def phaseExpiry (t : Timer) (own : EngineState) (act : State → State) (s : State) : State :=
  if t.isSome && decide (s.ssq.engine = own) then react s (act s) else s

/-- A tick of the prelube (R82): RUN again while it has not been accepted, else STATUS, unless it waits or is in flight. -/
def prelubeTick (s : State) : State :=
  let o : Order := if s.ssq.runAccepted then .status else .run
  let s := { s with ssq := { s.ssq with prelubeTick := some 500 } }
  if s.seqHas o then s else addSeq o s

/-- PRELUBE_TICK (R82). -/
def execPrelubeTick (s : State) : Answer := .next (phaseExpiry s.ssq.prelubeTick .prelube prelubeTick s)

/-- PRELUBE_TIMER_EXPIRY (R83). -/
def execPrelubeTimerExpiry (s : State) : Answer := .next (phaseExpiry s.ssq.prelube .prelube prelubeFail s)

/-- The turn check (R85): the attempt fails while the latest gate result is below 30 rpm or the silence flag is set, and no
further check is made in it. -/
def turnCheck (s : State) : State :=
  let s := { s with ssq := { s.ssq with turnCheck := none } }
  if s.lmn.lastGate < 30 ∨ s.lmn.silence then failedAttempt .noTurn s else s

/-- TURN_CHECK_EXPIRY (R85). -/
def execTurnCheckExpiry (s : State) : Answer := .next (phaseExpiry s.ssq.turnCheck .cranking turnCheck s)

/-- CRANK_TIMER_EXPIRY (R85). -/
def execCrankTimerExpiry (s : State) : Answer :=
  .next (phaseExpiry s.ssq.crank .cranking (failedAttempt .noFire) s)

/-- The engine has caught (R84). -/
def caught (s : State) : State := enter .firing (addSeq .stop (addSeq .disengage s))

/-- FIRING_HOLD_EXPIRY (R84). -/
def execFiringHoldExpiry (s : State) : Answer := .next (phaseExpiry s.ssq.firingHold .cranking caught s)

/-- The crank rest is over (R87): a new claim if the silence flag is set, else a wait for the next silence event. -/
def restOver (s : State) : State :=
  let s := { s with ssq := { s.ssq with rest := none } }
  if s.lmn.silence then enter .claiming s else s

/-- REST_TIMER_EXPIRY (R87). -/
def execRestTimerExpiry (s : State) : Answer := .next (phaseExpiry s.ssq.rest .crankRest restOver s)

/-- FIRING_TIMER_EXPIRY (R88). -/
def execFiringTimerExpiry (s : State) : Answer :=
  .next (phaseExpiry s.ssq.firing .firing (failedAttempt .fireLost) s)

/-- WARM_UP_TIMER_EXPIRY (R89). -/
def execWarmUpTimerExpiry (s : State) : Answer := .next (phaseExpiry s.ssq.warmUp .idleWarm (enter .running) s)

/-- The idle of R90 has lasted 600 s (R91). -/
def idleOver (s : State) : State :=
  autostopTest { s with ssq := { s.ssq with autostopIdle := none, idleElapsed := true } }

/-- AUTOSTOP_IDLE_TIMER_EXPIRY (R91). -/
def execAutostopIdleTimerExpiry (s : State) : Answer :=
  .next (phaseExpiry s.ssq.autostopIdle .running idleOver s)

/-- The cooldown is over (R92): FUEL_OFF is added, the fuel order cleared, and SHUTDOWN entered with the stop reason kept. -/
def cooldownOver (s : State) : State := enterShutdown (clearFuel (addSeq .fuelOff s))

/-- COOLDOWN_TIMER_EXPIRY (R92). -/
def execCooldownTimerExpiry (s : State) : Answer := .next (phaseExpiry s.ssq.cooldown .cooldown cooldownOver s)

end Sys2Proof.Machine
end

