-- ==== Sys2Proof/Machine/Speed.lean ====
section
/-! DEFINITION. The commands of the speed pickup and the battery sense input (sections 8.1 to 8.3). -/

namespace Sys2Proof.Machine

/-! ## Speed (R146 to R149) -/

/-- Whether a pulse is counted: the first since reset release, or at least 100 µs after the last counted one (R146). -/
def State.countsPulse (s : State) (sinceCounted : Nat) : Bool :=
  !s.inReset && (!s.lmn.pulseCounted || decide (100 ≤ sinceCounted))

/-- A counted pulse (R146 to R148). -/
def countPulse (s : State) : State :=
  { s with lmn := { s.lmn with
      pulseCounted := true, gateCount := s.lmn.gateCount + 1, silenceTimer := some 250, silence := false } }

/-- SPEED_PULSE (R146): a rejected pulse changes nothing, and none is taken in reset. -/
def execSpeedPulse (sinceCounted : Nat) (s : State) : Answer :=
  .next (if s.countsPulse sinceCounted then countPulse s else s)

/-- The gate result in rpm (R147). -/
def State.gateResult (s : State) : Nat := s.lmn.gateCount * 600 / s.row.teeth

/-- The gate ends and the next one starts, with the measured speed set (R147, R149). -/
def closeGate (result : Nat) (s : State) : State :=
  { s with lmn := { s.lmn with lastGate := result, measured := result, gateCount := 0, gateTimer := some 100 } }

/-- The overspeed force set or cleared. -/
def setForce (b : Bool) (s : State) : State := { s with lmn := { s.lmn with overspeedForce := b } }

/-- The result delivered to the Start Sequencer: an overspeed event in place of the ordinary result, under the force until the
overspeed mark is set (R149). -/
def deliverGate (result : Nat) (s : State) : State :=
  if s.row.overspeed ≤ result then setForce false (ssqOverspeed (setForce true s)) else ssqGate result s

/-- The deviation watch takes a gate result, and so does an active SPEED_DEVIATION (R121). -/
def watchGate (result : Nat) (s : State) : State :=
  let s :=
    match s.nsp.watch with
    | some w => if s.inBand w.notch result then { s with nsp := { s.nsp with watch := none } } else s
    | none => s
  if s.faultActive .speedDeviation && s.inBand s.nsp.completed result then clearFault .speedDeviation s else s

/-- GATE_END (R147). -/
def execGateEnd (s : State) : Answer :=
  .next
    (if s.lmn.gateTimer.isNone then s
     else
      let r := s.gateResult
      react s (watchGate r (deliverGate r (closeGate r s))))

/-- SILENCE_TIMER_EXPIRY (R148). -/
def execSilenceTimerExpiry (s : State) : Answer :=
  .next
    (if s.lmn.silenceTimer.isNone then s
     else react s (ssqSilence (setSilence s)))

/-! ## Battery (R150 to R153) -/

/-- The sample of a voltage: steps of 0.25 V, rounded down, up to 127.75 V (R150). -/
def sampleOf (milliVolts : Nat) : Nat := min 511 (milliVolts / 250)

/-- A sag event (R151): the flag set, the count back to 0, BATTERY_SAG raised, and the Start Sequencer told. -/
def takeSag (s : State) : State :=
  ssqSag (raiseFault .batterySag { s with lmn := { s.lmn with sagFlag := true, sagCount := 0 } })

/-- The recovery from a sag (R152). -/
def takeRecovery (s : State) : State :=
  clearFault .batterySag { s with lmn := { s.lmn with sagFlag := false, recoveryCount := 0 } }

/-- The sag detector takes a sample (R151, R152). -/
def detectSag (sample : Nat) (s : State) : State :=
  if s.lmn.sagFlag then
    if sagLevel ≤ sample then
      if s.lmn.recoveryCount + 1 = 31 then takeRecovery s
      else { s with lmn := { s.lmn with recoveryCount := s.lmn.recoveryCount + 1 } }
    else { s with lmn := { s.lmn with recoveryCount := 0 } }
  else if sample < sagLevel then
    if s.lmn.sagCount + 1 = 31 then takeSag s
    else { s with lmn := { s.lmn with sagCount := s.lmn.sagCount + 1 } }
  else { s with lmn := { s.lmn with sagCount := 0 } }

/-- A sample becomes the latest one and is handed to the sag detector, then to the blocks that compare it (R150, R153). -/
def takeSample (sample : Nat) (s : State) : State :=
  let s := { s with lmn := { s.lmn with sample := some sample, sampleTimer := some 10 } }
  autostopTest (triggerTest (grantTest (detectSag sample s)))

/-- A sample taken, with the blocks' reaction (R150). -/
def sampleEvent (sample : Nat) (s : State) : State := react s (takeSample sample s)

/-- BATTERY_SAMPLE (R150). -/
def execBatterySample (milliVolts : Nat) (s : State) : Answer :=
  .next (if s.lmn.sampleTimer.isNone then s else sampleEvent (sampleOf milliVolts) s)

/-- A sample below 48.0 V would bring the sag count to 31 (R151). -/
def State.sagDue (s : State) : Bool :=
  s.lmn.sampleTimer.isSome && !s.lmn.sagFlag && decide (s.lmn.sagCount + 1 = 31)

/-- A sample at or above 48.0 V would bring the recovery count to 31 (R152). -/
def State.recoveryDue (s : State) : Bool :=
  s.lmn.sampleTimer.isSome && s.lmn.sagFlag && decide (s.lmn.recoveryCount + 1 = 31)

/-- SAG_EVENT (R151): the battery sample below 48.0 V that brings the sag count to 31, whose value is free (log entries 4
and 34). -/
def execSagEvent (s : State) : Answer :=
  .next (if s.sagDue then sampleEvent (Config.sagSample s.freeCount).val (useFree s) else s)

/-- SAG_RECOVERY (R152): the battery sample at or above 48.0 V that brings the recovery count to 31, whose value is free (log
entries 4 and 34). -/
def execSagRecovery (s : State) : Answer :=
  .next (if s.recoveryDue then sampleEvent (sagLevel + (Config.recoverySample s.freeCount).val) (useFree s) else s)

end Sys2Proof.Machine
end

