-- ==== Sys2Proof/Machine/Startup.lean ====
section
/-! DEFINITION. The commands of reset, of the CONFIG phase's expiry and of the CRANK_FAIL hold, with the commit they and the port
share (sections 10.1 and 10.2, R161). -/

namespace Sys2Proof.Machine

/-! ## Reset (R19, R102, R104, R125, R148, R158, R167) -/

/-- POWER_ON_RESET (R19): every block's state takes its power-on values; the levels on the pins, the commands that wait and
the free values are outside the reset. -/
def execPowerOnReset (s : State) : Answer :=
  .next { State.reset with
    pins := { s.pins with portOut := none, portAck := false }, freeCount := s.freeCount, pending := s.pending }

/-- The timers of the Line Monitors started at reset release (R147, R148, R150, R154). -/
def startMonitors (s : State) : State :=
  let line (l : Line) : DebouncedLine := { s.lmn.lines.get l with timer := some (stableTime l) }
  { s with lmn := { s.lmn with
      gateTimer := some 100, silenceTimer := some 250, sampleTimer := some 10,
      lines := ⟨line .start, line .stop, line .freset, line .estop, line .runIso⟩ } }

/-- What reset release starts in each block (R1, R3, R104, R143, R158, R167). -/
def release (straps : Straps) (s : State) : State :=
  let s := startDemandTimer (startMonitors s)
  { s with
    clc := { s.clc with windowTimer := some 0, busyUs := 80, reception := .suspended 80 0 }
    erc := { s.erc with pollTimer := some 250, replyLine := .waiting 0 }
    mpt := { s.mpt with straps := some straps, configTimer := some 3000, commitState := .opened }
    inReset := false }

/-- RESET_RELEASE (R167): the end of power-on reset, with the first order posted (R75). -/
def execResetRelease (p : BitVec 3) (c f : BitVec 2) (s : State) : Answer :=
  .next (if s.inReset then react s (release ⟨p.toFin, c.toFin, f.toFin⟩ s) else s)

/-! ## The commit (R167 to R170) -/

/-- The strapped values. -/
def State.strapped (s : State) : Straps := s.mpt.straps.getD ⟨0, 0, 0⟩

/-- The configuration of straps and defaults (R170). -/
def Straps.defaults (t : Straps) : Committed :=
  { position := t.position, engineClass := t.engineClass, floor := t.floor, tag := BitVec.ofNat 16 (0x3460 + t.position.val),
    relayA := ⟨0, .off⟩, relayB := ⟨0, .off⟩, autostop := false, checkCount := 0, injectedCount := 0 }

/-- A relay entry taken from its source and mode octets (R170). -/
def relayOf (source mode : Byte) : RelayEntry :=
  if 8 ≤ source.toNat then ⟨Config.offSource source, .off⟩
  else
    ⟨Fin.ofNat 8 source.toNat,
      if mode = 1 then .latest else if mode = 2 then .snapshot else .off⟩

/-- A mask mark of the override record (section 11.3). -/
def marked (b : Vector Byte 16) (i : Nat) : Bool := (b[0]).getLsbD i

/-- The buffer test (R169). -/
def bufferPasses (b : Vector Byte 16) : Bool :=
  (xorAll (b.toList.take 15) == b[15])
    && (!marked b 0 || decide ((b[1]).toNat ≤ 7)) && (!marked b 1 || decide ((b[2]).toNat ≤ 3))
    && (!marked b 2 || decide ((b[3]).toNat ≤ 3))

/-- The configuration of an applied override (R170). -/
def Straps.overridden (t : Straps) (b : Vector Byte 16) : Committed :=
  { position := if marked b 0 then Fin.ofNat 8 (b[1]).toNat else t.position
    engineClass := if marked b 1 then Fin.ofNat 4 (b[2]).toNat else t.engineClass
    floor := if marked b 2 then Fin.ofNat 4 (b[3]).toNat else t.floor
    tag := if marked b 3 then b[5] ++ b[4] else t.defaults.tag
    relayA := relayOf b[6] b[7]
    relayB := relayOf b[8] b[9]
    autostop := decide (b[10] = 1)
    checkCount := b[11]
    injectedCount := b[12] }

/-- The override is applied: written, and its buffer passes (R169). -/
def Mpt.applies (m : Mpt) : Bool := m.overrideWritten && bufferPasses m.buffer

/-- The configuration formed at a commit (R170). -/
def State.formed (s : State) : Committed :=
  if s.mpt.applies then s.strapped.overridden s.mpt.buffer else s.strapped.defaults

/-- MPT at a commit (R167, R169, R170). -/
def commitPort (cause : CommitCause) (s : State) : State :=
  { s with mpt := { s.mpt with
      configTimer := none
      commitState := .committed cause
      accepted := s.mpt.applies
      rejected := s.mpt.overrideWritten && !s.mpt.applies
      committed := some s.formed } }

/-- CLC at a commit (R13, R15). -/
def commitLink (c : Committed) (s : State) : State :=
  { s with clc := { s.clc with
      linkState := .listening
      listeningCount := 0
      remainingCheck := c.checkCount.toNat
      remainingInjected := min c.injectedCount.toNat c.checkCount.toNat
      checkIndex := 0 } }

/-- The own entry as the commit makes it (R36). -/
def Entry.ownAtCommit (e : Entry) (c : Committed) (g : Contents) : Entry :=
  { state := .live, tag := some c.tag, source := .direct, age := 0, engine := g.engine, prev := none, completed := g.completed,
    target := g.target, demand := g.demand, derate := g.derate, flags := g.flags, claim := g.claim, lastFault := none,
    checkErrors := e.checkErrors }

/-- The commit, one event over MPT, CLC and the Consist Table (R170). -/
def commit (cause : CommitCause) (s : State) : State :=
  let c := s.formed
  let s := commitLink c (commitPort cause s)
  setEntry c.position ((s.entry c.position).ownAtCommit c s.gather) s

/-- CONFIG_TIMER_EXPIRY (R167): the commit with cause EXPIRY while the commit state is OPEN. -/
def execConfigTimerExpiry (s : State) : Answer :=
  .next (if s.mpt.configTimer.isSome ∧ s.mpt.commitState = .opened then react s (commit .expiry s) else s)

/-! ## The event kind (R161) -/

/-- CRANK_FAIL_HOLD_EXPIRY (R161): CRANK_FAIL leaves the active set, and the cause reads none. -/
def execCrankFailHoldExpiry (s : State) : Answer :=
  .next
    (if s.fcl.crankFailTimer.isNone then s
     else
      { s with fcl := { s.fcl with
          active := dropKind .crankFail s.fcl.active, crankFailCause := none, crankFailTimer := none } })

end Sys2Proof.Machine
end

