-- ==== Sys2Proof/Machine/Window.lean ====
section
/-! DEFINITION. The status window (section 11.5, R177): the octet that each of the 256 offsets shows, as a function of the
state. -/

namespace Sys2Proof.Machine

/-! ## Parts of octets -/

/-- A 16-bit value over two offsets, the low octet first (R177). -/
def wordOctets (n : Nat) : List Nat := [n % 256, n / 256 % 256]

/-- Tenths of a second, where the spec does not say how to round (log entry 17). -/
def tenths (ms : Nat) : Nat :=
  if ms % 100 = 0 then ms / 100 else if Config.tenthsUp ms then ms / 100 + 1 else ms / 100

/-- A timer in tenths of a second, rounded up; a stopped one reads 0. -/
def tenthsAbove (t : Timer) : Nat := (t.getD 0 + 99) / 100

/-- The code of a kind, or 0 for none (section 11.4). -/
def faultCode (k : Option FaultKind) : Nat := (k.map FaultKind.code).getD 0

/-- An octet by its eight bits. -/
def bitsOctet (f : Nat → Bool) : Nat :=
  flagBit (f 0) 1 + flagBit (f 1) 2 + flagBit (f 2) 4 + flagBit (f 3) 8 + flagBit (f 4) 16 + flagBit (f 5) 32 + flagBit (f 6) 64
    + flagBit (f 7) 128

/-- A set map: bit (code - 1) for each kind, over three octets (section 11.4). -/
def setMap (ks : List FaultKind) : List Nat :=
  [0, 8, 16].map (fun base => bitsOctet (fun i => ks.any (fun k => k.code == base + i + 1)))

/-- The code of a cause (section 11.4). -/
def causeCode : Option Cause → Nat
  | none => 0
  | some .noTurn => 1
  | some .noFire => 2
  | some .sag => 3
  | some .starterFail => 4
  | some .fireLost => 5

/-- The code of a link state in the window. -/
def LinkState.windowCode : LinkState → Nat
  | .config => 0
  | .listening => 1
  | .checking => 2
  | .joined => 3
  | .alone => 4
  | .silenced => 5

/-- The code of an entry state. -/
def EntryState.code : EntryState → Nat
  | .absent => 0
  | .live => 1
  | .stale => 2
  | .lost => 3

/-- The code of a relay mode. -/
def RelayMode.code : RelayMode → Nat
  | .off => 0
  | .latest => 1
  | .snapshot => 2

/-- The code of a slot condition. -/
def Slot.code : Slot → Nat
  | .empty => 0
  | .pending _ => 1
  | .inFlight _ => 2

/-- The code of a client in the current transaction. -/
def Client.code : Client → Nat
  | .protect => 1
  | .sequence => 2
  | .notch => 3
  | .poll => 4

/-- A debounced level in two bits. -/
def levelCode : Option Bool → Nat
  | none => 0
  | some false => 1
  | some true => 2

/-! ## Regions -/

/-- 0x00 to 0x07: straps and configuration. Until commit it shows the outcome that the straps alone would give (R170). -/
def State.identityRegion (s : State) : List Nat :=
  let t := s.strapped
  let c := s.mpt.committed.getD t.defaults
  let place (p : Fin 8) (k f : Fin 4) : Nat := p.val + 8 * k.val + 32 * f.val
  let relay (r : RelayEntry) : Nat := r.source.val + 16 * r.mode.code
  [place t.position t.engineClass t.floor, place c.position c.engineClass c.floor + flagBit c.autostop 128]
    ++ wordOctets c.tag.toNat ++ [relay c.relayA, relay c.relayB, c.checkCount.toNat, c.injectedCount.toNat]

/-- The commit state and its flags, offset 0x19. -/
def State.commitOctet (s : State) : Nat :=
  (match s.mpt.commitState with
   | .committed .write => 1 + 2
   | .committed .expiry => 1 + 4
   | _ => 0)
    + flagBit s.mpt.accepted 16 + flagBit s.mpt.rejected 32 + flagBit s.mpt.overrideWritten 64
    + flagBit s.clc.injectDone 128

/-- 0x08 to 0x1F: override buffer, commit octet, flags, CONFIG time left and line check counts. -/
def State.configRegion (s : State) : List Nat :=
  s.mpt.buffer.toList.map BitVec.toNat
    ++ [(match s.mpt.commitState with | .committed _ => 0x5A | _ => 0), s.commitOctet, tenths (s.mpt.configTimer.getD 0),
        s.clc.remainingCheck, s.clc.remainingInjected, s.clc.checkIndex, 0, 0]

/-- 0x20 to 0x26: the engine, the link and the claim. -/
def State.engineRegion (s : State) : List Nat :=
  let q := s.ssq
  [ q.engine.code,
    q.attempts + flagBit (decide (q.stopReason = .auto)) 4 + flagBit q.stopInProgress 8 + flagBit q.fuelOrder 16
      + flagBit q.overspeedMark 32 + flagBit q.releasePending 64 + flagBit q.pumpHeld 128,
    causeCode q.lastCause + flagBit q.runAccepted 128,
    s.clc.linkState.windowCode + flagBit s.cpa.claim.isSome 8 + 16 * s.clc.windowIndex.val + flagBit s.clc.repeatMark 128,
    s.clc.cycleCount.toNat, min 255 (tenths (s.nsp.dwell.getD 0)), s.cpa.claim.getD 0]

/-- The applied derate conditions, offset 0x2A. -/
def State.derateOctet (s : State) : Nat :=
  let d := s.nsp.derates
  flagBit d.coolantWarm.applied 1 + flagBit d.coolantHigh.applied 2 + flagBit d.coolantVeryHigh.applied 4
    + flagBit d.intakeWarm.applied 8 + flagBit d.intakeHigh.applied 16 + flagBit d.intakeVeryHigh.applied 32

/-- The step in flight, offset 0x2B. With none, phase, restoring and to-notch read 0 beside the direction's 0 (DESIGN CHOICE, log
entry 19). -/
def stepOctet : Option Step → Nat
  | none => 0
  | some st =>
    (match st.direction with | .up => 1 | .down => 2 | .retry => 3) + flagBit (decide (st.phase = .second)) 4
      + flagBit st.restoring 8 + 16 * st.toNotch

/-- 0x27 to 0x2C: demand, caps, notches, derate conditions and the step. An idle deviation watch shows notch 0 (DESIGN CHOICE, log
entry 19). -/
def State.notchRegion (s : State) : List Nat :=
  [ demandCodeOf s.nsp.reading + 16 * s.effectiveDemand, s.cap + 16 * s.derateCap, s.targetNotch + 16 * s.nsp.completed,
    s.derateOctet, stepOctet s.nsp.step,
    flagBit s.nsp.governorOwed 1 + flagBit s.nsp.abandonHold.isSome 2 + flagBit s.nsp.watch.isSome 4
      + flagBit (!s.nsp.urgentList.isEmpty) 8 + 16 * (s.nsp.watch.map Watch.notch).getD 0 ]

/-- 0x2D to 0x35: speed, battery and lines. -/
def State.inputRegion (s : State) : List Nat :=
  let m := s.lmn
  let v := m.sample.getD 0
  wordOctets m.measured
    ++ [ v % 256,
         v / 256 % 2 + flagBit m.sample.isNone 2 + flagBit m.sagFlag 4 + flagBit m.silence 8 + flagBit m.overspeedForce 16,
         m.sagCount, m.recoveryCount,
         levelCode m.lines.start.level + 4 * levelCode m.lines.stop.level + 16 * levelCode m.lines.freset.level
           + 64 * levelCode m.lines.estop.level,
         levelCode m.lines.runIso.level, 0 ]

/-- 0x36 to 0x3F: phantom holds and the front kind of the notice-pending set. -/
def State.holdRegion (s : State) : List Nat :=
  [bitsOctet (fun i => (s.cpa.holds.get (Fin.ofNat 8 i)).isSome)]
    ++ allPositions.map (fun p => tenthsAbove (s.cpa.holds.get p)) ++ [faultCode s.fcl.notices.head?]

/-- The octets of a table entry (section 11.5). The relaying position reads 0 where the source is not RELAYED (DESIGN CHOICE, log
entry 19). -/
def Entry.octets (e : Entry) : List Nat :=
  [ e.state.code + (match e.source with | .relayed v => 4 + 16 * v.val | _ => 0) + flagBit e.tag.isNone 128, e.age ]
    ++ wordOctets (e.tag.map BitVec.toNat |>.getD 0)
    ++ [ e.engine.code + 16 * ((e.prev.map EngineState.code).getD 15), e.completed + 16 * e.target,
         demandCodeOf e.demand + 16 * e.derate, e.flags.bits + flagBit e.claim.isSome 16, e.claim.getD 0,
         faultCode e.lastFault, e.checkErrors, 0, 0, 0, 0, 0 ]

/-- One device's health in three octets (section 11.5): consecutive failures and last exception code by section 11.2, then total
failures. A last exception code of none reads 0 (DESIGN CHOICE, log entry 19). -/
def Health.octets (h : Health) : List Nat :=
  [h.consecutive + 16 * ((h.lastException.map ExcCode.code).getD 0)] ++ wordOctets h.total

/-- The current transaction in octet 0xD6. -/
def transactionOctet : Option Transaction → Nat
  | none => 0
  | some t => t.client.code + 8 * t.request.order.device.number + 64 * t.request.order.code

/-- A pending request in five bits (log entry 19). -/
def pendingGroup : Slot → Nat
  | .pending r => r.order.device.number + 8 * r.order.code
  | _ => 0

/-- 0xC0 to 0xDF: the engine-room channel. The one tag field of the map, 0xD4, shows the sequence tag of R134 in every sequencer
state, so in IDLE the tag of the next request and not that of the last transaction (DESIGN CHOICE, log entry 19). -/
def State.channelRegion (s : State) : List Nat :=
  let e := s.erc
  let pend := pendingGroup e.slots.protect + 32 * pendingGroup e.slots.sequence + 1024 * pendingGroup e.slots.notch
  e.health.governor.octets ++ e.health.starter.octets ++ e.health.prelube.octets ++ e.health.load.octets
    ++ e.health.sensors.octets
    ++ [ (e.sensor.coolant + 50).toNat, (e.sensor.intake + 50).toNat,
         flagBit e.sensor.oilLow 1 + (match e.sensor.state with | .empty => 0 | .valid => 2 | .stale => 4) ]
    ++ wordOctets e.sensor.age
    ++ [ (match e.sequencer with | .idle => 0 | .sending => 1 | .awaiting => 2) + 16 * e.tag.toNat,
         e.slots.protect.code + 4 * e.slots.sequence.code + 16 * e.slots.notch.code + 64 * e.slots.poll.code,
         transactionOctet e.current ]
    ++ wordOctets ((e.current.map (fun t => t.request.arg.toNat)).getD 0) ++ [min 255 e.sinceSent] ++ wordOctets pend
    ++ [0, 0, 0, 0]

/-- 0xE0 to 0xF5: the counters. -/
def State.counterRegion (s : State) : List Nat :=
  let c := s.clc.counters
  wordOctets c.recordsGood ++ wordOctets c.checkError ++ wordOctets c.collision ++ wordOctets c.windowMissed
    ++ wordOctets c.dupPositionSeen ++ wordOctets c.tagChange ++ wordOctets c.lineBitErrors
    ++ wordOctets c.checkRecordsSeen ++ wordOctets s.cpa.permitClash ++ wordOctets s.erc.lateReply
    ++ wordOctets s.mpt.writeRefused

/-- 0xF6 to 0xFF: the Fault Collector. The engine state and cycle count of an empty first-fault record read 0 (DESIGN CHOICE, log
entry 19). -/
def State.faultRegion (s : State) : List Nat :=
  setMap s.fcl.active
    ++ (match s.fcl.firstFault with
        | none => [0, 0, 0]
        | some f => [f.kind.code, f.engine.code, f.cycle.toNat])
    ++ [causeCode s.fcl.crankFailCause + 16 * ((s.fcl.crankFailTimer.getD 0 + 999) / 1000)] ++ setMap s.fcl.notices

/-! ## The whole window -/

/-- The octets 0x00 to 0x3F. -/
def State.lowRegion (s : State) : List Nat :=
  s.identityRegion ++ s.configRegion ++ s.engineRegion ++ s.notchRegion ++ s.inputRegion ++ s.holdRegion

/-- The octets 0xC0 to 0xFF. -/
def State.highRegion (s : State) : List Nat := s.channelRegion ++ s.counterRegion ++ s.faultRegion

/-- The octet that offset `a` shows as the state stands (R177). -/
def State.windowOctet (s : State) (a : Byte) : Byte :=
  let n := a.toNat
  byteOf
    (if n < 0x40 then s.lowRegion.getD n 0
     else if n < 0xC0 then (s.entry (Fin.ofNat 8 (n / 16 - 4))).octets.getD (n % 16) 0
     else s.highRegion.getD (n - 0xC0) 0)

end Sys2Proof.Machine
end

