-- ==== Sys2Proof/Machine/Port.lean ====
section
/-! DEFINITION. The commands of the maintenance port (sections 10.3 and 10.4): pointer, data octets written and refused, octets
read through the coherence buffer and the counter latch. -/

namespace Sys2Proof.Machine

/-- The port answers to its target address, and not while the station is held in reset (R171). -/
def State.answers (s : State) (addr : BitVec 7) : Bool :=
  !s.inReset && decide (addr.toNat = 0x30 + s.strapped.position.val)

/-- Whether the port acknowledged the octet offered (R171, R172, log entry 37). -/
def setAck (b : Bool) (s : State) : State := { s with pins := { s.pins with portAck := b } }

/-- `act`, acknowledged, on a transaction to the port's own address, a refused octet's among them (R172); any other is not
acknowledged and changes nothing here (R171). -/
def addressed (addr : BitVec 7) (act : State → State) (s : State) : State :=
  if s.answers addr then act (setAck true s) else setAck false s

/-- The pointer after one data octet, or one octet read, passing from 0xFF to 0x00 (R171). -/
def bumpPointer (s : State) : State := { s with mpt := { s.mpt with pointer := s.mpt.pointer + 1 } }

/-! ## Writing (R167, R168, R171, R172) -/

/-- The first octet of a write transaction sets the pointer and empties the coherence buffer and the latch (R171). -/
def setPointer (v : Byte) (s : State) : State :=
  { s with mpt := { s.mpt with pointer := v, coherence := none, latch := none } }

/-- An octet kept in the override buffer (R168). -/
def keepOctet (i : Fin 16) (v : Byte) (s : State) : State :=
  { s with mpt := { s.mpt with buffer := s.mpt.buffer.set i v, overrideWritten := true } }

/-- A refused octet is counted (R172). -/
def refuseOctet (s : State) : State := { s with mpt := { s.mpt with writeRefused := sat16 s.mpt.writeRefused } }

/-- What becomes of a data octet at an offset. -/
inductive WriteKind where
  | keep (i : Fin 16)
  | commit
  | refuse
  deriving DecidableEq, Repr

/-- A data octet is kept, takes the commit, or is refused (R167, R168, R172). -/
def State.writeKind (s : State) (v : Byte) : WriteKind :=
  let a := s.mpt.pointer.toNat
  if s.mpt.commitState = .opened then
    if 0x08 ≤ a ∧ a ≤ 0x17 then .keep (Fin.ofNat 16 (a - 0x08))
    else if a = 0x18 ∧ v = 0x5A then .commit
    else .refuse
  else .refuse

/-- A data octet of a write transaction, offered to the offset the pointer names (R171). -/
def writeOctet (v : Byte) (s : State) : State :=
  let s' := bumpPointer s
  match s.writeKind v with
  | .keep i => keepOctet i v s'
  | .commit => react s (commit .write s')
  | .refuse => refuseOctet s'

/-- PORT_POINTER_SET (R171). -/
def execPortPointerSet (addr : BitVec 7) (v : Byte) (s : State) : Answer := .next (addressed addr (setPointer v) s)

/-- OVERRIDE_WRITE (R168): a data octet, kept where the pointer stands in 0x08 to 0x17 while the commit state is OPEN. -/
def execOverrideWrite (addr : BitVec 7) (v : Byte) (s : State) : Answer := .next (addressed addr (writeOctet v) s)

/-- COMMIT_WRITE (R167): the data octet 0x5A, which takes the commit where the pointer stands at 0x18 while the commit state
is OPEN. -/
def execCommitWrite (addr : BitVec 7) (s : State) : Answer := .next (addressed addr (writeOctet 0x5A) s)

/-- WRITE_REFUSED (R172): a data octet, refused where it may not be kept. -/
def execWriteRefused (addr : BitVec 7) (v : Byte) (s : State) : Answer := .next (addressed addr (writeOctet v) s)

/-! ## Reading (R171, R173, R174) -/

/-- The offsets of the low octets of the 16-bit values of R174. -/
def lowOffsets : List Nat :=
  [0x02, 0x2D, 0xC1, 0xC4, 0xC7, 0xCA, 0xCD, 0xD2, 0xD7, 0xE0, 0xE2, 0xE4, 0xE6, 0xE8, 0xEA, 0xEC, 0xEE, 0xF0, 0xF2, 0xF4]

/-- The latch after a read at offset `a` outside the table region: filled by a low octet, else empty (R174). -/
def State.latchAfter (s : State) (a : Byte) : Option Latch :=
  if lowOffsets.contains a.toNat then some ⟨a + 1, s.windowOctet (a + 1)⟩ else none

/-- The octet served outside the table region: from the latch for its own offset, else from the state (R171, R174). -/
def State.servedOutside (s : State) (a : Byte) : Byte :=
  match s.mpt.latch with
  | some l => if l.offset = a then l.octet else s.windowOctet a
  | none => s.windowOctet a

/-- The sixteen octets of entry `k` as the state stands. -/
def State.entryOctets (s : State) (k : Fin 8) : List Byte := (s.entry k).octets.map byteOf

/-- A read in the table region, octet `j` of entry `k`: the octet served and the coherence buffer after it (R173). -/
def State.servedInside (s : State) (k : Fin 8) (j : Nat) : Byte × Option Coherence :=
  if j = 0 then ((s.entryOctets k).getD 0 0, some ⟨k, s.entryOctets k⟩)
  else
    match s.mpt.coherence with
    | some c => if c.entry = k then (c.octets.getD j 0, some c) else ((s.entryOctets k).getD j 0, none)
    | none => ((s.entryOctets k).getD j 0, none)

/-- The octet is put out, and the coherence buffer and latch are left as given. -/
def serve (v : Byte) (c : Option Coherence) (l : Option Latch) (s : State) : State :=
  { s with mpt := { s.mpt with coherence := c, latch := l }, pins := { s.pins with portOut := some v } }

/-- An octet is read at the offset the pointer names (R171). -/
def readOctet (s : State) : State :=
  let a := s.mpt.pointer
  let s' := bumpPointer s
  if 0x40 ≤ a.toNat ∧ a.toNat < 0xC0 then
    let r := s.servedInside (Fin.ofNat 8 (a.toNat / 16 - 4)) (a.toNat % 16)
    serve r.1 r.2 none s'
  else serve (s.servedOutside a) none (s.latchAfter a) s'

/-- COHERENT_ENTRY_READ (R173): an octet read, which at an entry's first octet copies the entry. -/
def execCoherentEntryRead (addr : BitVec 7) (s : State) : Answer := .next (addressed addr readOctet s)

/-- COUNTER_LATCH_READ (R174): an octet read, which at the low octet of a 16-bit value latches its high octet. -/
def execCounterLatchRead (addr : BitVec 7) (s : State) : Answer := .next (addressed addr readOctet s)

/-- PORT_OCTET_READ (R171): an octet read at any offset. -/
def execPortOctetRead (addr : BitVec 7) (s : State) : Answer := .next (addressed addr readOctet s)

end Sys2Proof.Machine
end

