-- ==== Sys2Proof/Machine/Dispatch.lean ====
section
/-! DEFINITION. The meaning of every command, one arm for each constructor. -/

namespace Sys2Proof.Machine

def exec (i : Instr) (s : State) : Host.Outcome State Fault Refusal :=
  match i with
  | .powerOnReset => Sys2Proof.Machine.execPowerOnReset s
  | .resetRelease p c f => Sys2Proof.Machine.execResetRelease p c f s
  | .windowTimerExpiry busyUs => Sys2Proof.Machine.execWindowTimerExpiry busyUs s
  | .listeningEnd => Sys2Proof.Machine.execListeningEnd s
  | .deferredSend => Sys2Proof.Machine.execDeferredSend s
  | .deferralTimeout => Sys2Proof.Machine.execDeferralTimeout s
  | .collision => Sys2Proof.Machine.execCollision s
  | .checkRecordSent => Sys2Proof.Machine.execCheckRecordSent s
  | .lineCheckEnd => Sys2Proof.Machine.execLineCheckEnd s
  | .recordTaken octets => Sys2Proof.Machine.execRecordTaken octets s
  | .phantomHoldExpiry p => Sys2Proof.Machine.execPhantomHoldExpiry p s
  | .lineLevelChange line asserted => Sys2Proof.Machine.execLineLevelChange line asserted s
  | .lineStabilityExpiry line => Sys2Proof.Machine.execLineStabilityExpiry line s
  | .demandCodeChange code => Sys2Proof.Machine.execDemandCodeChange code s
  | .demandStabilityExpiry => Sys2Proof.Machine.execDemandStabilityExpiry s
  | .disagreementTimerExpiry => Sys2Proof.Machine.execDisagreementTimerExpiry s
  | .derateApplyTimerExpiry c => Sys2Proof.Machine.execDerateApplyTimerExpiry c s
  | .derateReleaseTimerExpiry c => Sys2Proof.Machine.execDerateReleaseTimerExpiry c s
  | .dwellClockReached mark => Sys2Proof.Machine.execDwellClockReached mark s
  | .abandonHoldExpiry => Sys2Proof.Machine.execAbandonHoldExpiry s
  | .deviationWatchExpiry => Sys2Proof.Machine.execDeviationWatchExpiry s
  | .prelubeTick => Sys2Proof.Machine.execPrelubeTick s
  | .prelubeTimerExpiry => Sys2Proof.Machine.execPrelubeTimerExpiry s
  | .turnCheckExpiry => Sys2Proof.Machine.execTurnCheckExpiry s
  | .crankTimerExpiry => Sys2Proof.Machine.execCrankTimerExpiry s
  | .firingHoldExpiry => Sys2Proof.Machine.execFiringHoldExpiry s
  | .restTimerExpiry => Sys2Proof.Machine.execRestTimerExpiry s
  | .firingTimerExpiry => Sys2Proof.Machine.execFiringTimerExpiry s
  | .warmUpTimerExpiry => Sys2Proof.Machine.execWarmUpTimerExpiry s
  | .autostopIdleTimerExpiry => Sys2Proof.Machine.execAutostopIdleTimerExpiry s
  | .cooldownTimerExpiry => Sys2Proof.Machine.execCooldownTimerExpiry s
  | .sendingEnd => Sys2Proof.Machine.execSendingEnd s
  | .replyTaken octets => Sys2Proof.Machine.execReplyTaken octets s
  | .replyTimeout => Sys2Proof.Machine.execReplyTimeout s
  | .pollTimerExpiry => Sys2Proof.Machine.execPollTimerExpiry s
  | .speedPulse sinceCounted => Sys2Proof.Machine.execSpeedPulse sinceCounted s
  | .gateEnd => Sys2Proof.Machine.execGateEnd s
  | .silenceTimerExpiry => Sys2Proof.Machine.execSilenceTimerExpiry s
  | .batterySample milliVolts => Sys2Proof.Machine.execBatterySample milliVolts s
  | .sagEvent => Sys2Proof.Machine.execSagEvent s
  | .sagRecovery => Sys2Proof.Machine.execSagRecovery s
  | .crankFailHoldExpiry => Sys2Proof.Machine.execCrankFailHoldExpiry s
  | .configTimerExpiry => Sys2Proof.Machine.execConfigTimerExpiry s
  | .portPointerSet addr value => Sys2Proof.Machine.execPortPointerSet addr value s
  | .overrideWrite addr value => Sys2Proof.Machine.execOverrideWrite addr value s
  | .commitWrite addr => Sys2Proof.Machine.execCommitWrite addr s
  | .writeRefused addr value => Sys2Proof.Machine.execWriteRefused addr value s
  | .coherentEntryRead addr => Sys2Proof.Machine.execCoherentEntryRead addr s
  | .counterLatchRead addr => Sys2Proof.Machine.execCounterLatchRead addr s
  | .portOctetRead addr => Sys2Proof.Machine.execPortOctetRead addr s

end Sys2Proof.Machine
end

