-- ==== Sys2Proof/Machine/Time.lean ====
section
/-! DEFINITION. The passing of one ms, which is what a step does while no command waits (log entry 3): every running timer,
clock and age moves on; what a timer's expiry brings comes with its own command. -/

namespace Sys2Proof.Machine

/-- A running timer with one ms less; it stands at 0 until its expiry is taken. -/
def tickTimer (t : Timer) : Timer := t.map (fun n => n - 1)

/-- A running clock with `n` more. -/
def tickClock (n : Nat) (t : Option Nat) : Option Nat := t.map (· + n)

/-- The record on the pair: it has gone out when no time is left. A CHECK record waits for CHECK_RECORD_SENT (R15, log
entry 27). -/
def tickTx (t : Tx) : Tx :=
  match t with
  | .sending r =>
    match r.kind with
    | .check _ => .sending { r with leftUs := r.leftUs - 1000 }
    | _ => if r.leftUs ≤ 1000 then .idle else .sending { r with leftUs := r.leftUs - 1000 }
  | t => t

/-- The µs until the pair is quiet: 80 µs after the own record's last octet while one is going out, else 1 ms less (R1). -/
def tickBusy (t : Tx) (busyUs : Nat) : Nat :=
  match t with
  | .sending r => if 0 < r.leftUs then r.leftUs + 80 else busyUs - 1000
  | _ => busyUs - 1000

/-- One ms in CLC: window timer, record on the pair, the time until the pair is quiet, and the quiet that reception waits for (R1,
R3, R9). -/
def Clc.tick (c : Clc) : Clc :=
  { c with
    windowTimer := tickClock 1000 c.windowTimer, tx := tickTx c.tx, busyUs := tickBusy (tickTx c.tx) c.busyUs
    reception := c.reception.pass 1000 }

/-- One ms in CPA (R63). -/
def Cpa.tick (c : Cpa) : Cpa := { c with holds := PerPosition.build (fun p => tickTimer (c.holds.get p)) }

/-- One ms in SSQ (R73, R90). -/
def Ssq.tick (q : Ssq) : Ssq :=
  { q with
    prelube := tickTimer q.prelube, prelubeTick := tickTimer q.prelubeTick, crank := tickTimer q.crank,
    turnCheck := tickTimer q.turnCheck, firingHold := tickTimer q.firingHold, rest := tickTimer q.rest,
    firing := tickTimer q.firing, warmUp := tickTimer q.warmUp, cooldown := tickTimer q.cooldown,
    autostopIdle := tickTimer q.autostopIdle }

/-- One ms of a derate condition (R108). -/
def DerateCond.tick (c : DerateCond) : DerateCond := ⟨c.applied, tickTimer c.applyTimer, tickTimer c.releaseTimer⟩

/-- One ms in NSP (R103, R106, R112, R119, R121). -/
def Nsp.tick (n : Nsp) : Nsp :=
  let d := n.derates
  { n with
    demandTimer := tickTimer n.demandTimer, disagreeTimer := tickTimer n.disagreeTimer,
    derates := ⟨d.coolantWarm.tick, d.coolantHigh.tick, d.coolantVeryHigh.tick, d.intakeWarm.tick, d.intakeHigh.tick,
      d.intakeVeryHigh.tick⟩
    dwell := tickClock 1 n.dwell, abandonHold := tickTimer n.abandonHold,
    watch := n.watch.map (fun w => { w with left := w.left - 1 }) }

/-- One ms in ERC (R132, R133, R136, R143, R144). -/
def Erc.tick (e : Erc) : Erc :=
  { e with
    replyTimer := tickTimer e.replyTimer, pollTimer := tickTimer e.pollTimer,
    sinceSent := if e.sequencer = .awaiting then e.sinceSent + 1 else e.sinceSent, replyLine := e.replyLine.pass 1,
    sensor := { e.sensor with age := satAdd 65535 e.sensor.age 1 } }

/-- One ms of a command line (R154). -/
def DebouncedLine.tick (l : DebouncedLine) : DebouncedLine := ⟨l.level, tickTimer l.timer⟩

/-- One ms in LMN (R147, R148, R150, R154). -/
def Lmn.tick (m : Lmn) : Lmn :=
  let l := m.lines
  { m with
    gateTimer := tickTimer m.gateTimer, silenceTimer := tickTimer m.silenceTimer, sampleTimer := tickTimer m.sampleTimer,
    lines := ⟨l.start.tick, l.stop.tick, l.freset.tick, l.estop.tick, l.runIso.tick⟩ }

/-- One ms in FCL (R161). -/
def Fcl.tick (f : Fcl) : Fcl := { f with crankFailTimer := tickTimer f.crankFailTimer }

/-- One ms in MPT (R167). -/
def Mpt.tick (m : Mpt) : Mpt := { m with configTimer := tickTimer m.configTimer }

/-- One ms passes; in power-on reset no timer runs. -/
def tick (s : State) : State :=
  if s.inReset then s
  else
    { s with clc := s.clc.tick, cpa := s.cpa.tick, ssq := s.ssq.tick, nsp := s.nsp.tick, erc := s.erc.tick, lmn := s.lmn.tick,
             fcl := s.fcl.tick, mpt := s.mpt.tick }

end Sys2Proof.Machine
end

