-- ==== Sys2Proof/Machine/Step.lean ====
section
/-! DEFINITION. One step: the command at the front of the queue, taken whole; with an empty queue one ms passes. -/

namespace Sys2Proof.Machine

/-- One step of the station. -/
def step (s : State) : Host.Outcome State Fault Refusal :=
  match s.pending with
  | [] => .next (tick s)
  | c :: rest => exec c { s with pending := rest }

/-- The state with the command that a word spells put at the front of its queue. -/
def State.withFetchWord (s : State) (nbits w : Nat) : State :=
  match decodeTableWord nbits w with
  | some c => { s with pending := c :: s.pending }
  | none => s

end Sys2Proof.Machine
end

