-- ==== Sys2Proof/Laws/State.lean ====
section
/-! SUPPORT. Each plain update of State, field by field, so that no proof unfolds a record update; and the groups of like things
under a set. -/

namespace Sys2Proof.Machine

/-! `setSlot` changes `erc` alone. -/
@[simp] theorem setSlot_clc (c : Client) (v : Slot) (s : State) : (setSlot c v s).clc = s.clc := rfl
@[simp] theorem setSlot_table (c : Client) (v : Slot) (s : State) : (setSlot c v s).table = s.table := rfl
@[simp] theorem setSlot_cpa (c : Client) (v : Slot) (s : State) : (setSlot c v s).cpa = s.cpa := rfl
@[simp] theorem setSlot_ssq (c : Client) (v : Slot) (s : State) : (setSlot c v s).ssq = s.ssq := rfl
@[simp] theorem setSlot_nsp (c : Client) (v : Slot) (s : State) : (setSlot c v s).nsp = s.nsp := rfl
@[simp] theorem setSlot_erc (c : Client) (v : Slot) (s : State) : (setSlot c v s).erc = { s.erc with slots := s.erc.slots.set c v } := rfl
@[simp] theorem setSlot_lmn (c : Client) (v : Slot) (s : State) : (setSlot c v s).lmn = s.lmn := rfl
@[simp] theorem setSlot_fcl (c : Client) (v : Slot) (s : State) : (setSlot c v s).fcl = s.fcl := rfl
@[simp] theorem setSlot_mpt (c : Client) (v : Slot) (s : State) : (setSlot c v s).mpt = s.mpt := rfl
@[simp] theorem setSlot_pins (c : Client) (v : Slot) (s : State) : (setSlot c v s).pins = s.pins := rfl
@[simp] theorem setSlot_inReset (c : Client) (v : Slot) (s : State) : (setSlot c v s).inReset = s.inReset := rfl
@[simp] theorem setSlot_freeCount (c : Client) (v : Slot) (s : State) : (setSlot c v s).freeCount = s.freeCount := rfl
@[simp] theorem setSlot_pending (c : Client) (v : Slot) (s : State) : (setSlot c v s).pending = s.pending := rfl

/-! `setReason` changes `ssq` alone. -/
@[simp] theorem setReason_clc (r : StopReason) (s : State) : (setReason r s).clc = s.clc := rfl
@[simp] theorem setReason_table (r : StopReason) (s : State) : (setReason r s).table = s.table := rfl
@[simp] theorem setReason_cpa (r : StopReason) (s : State) : (setReason r s).cpa = s.cpa := rfl
@[simp] theorem setReason_ssq (r : StopReason) (s : State) : (setReason r s).ssq = { s.ssq with stopReason := r } := rfl
@[simp] theorem setReason_nsp (r : StopReason) (s : State) : (setReason r s).nsp = s.nsp := rfl
@[simp] theorem setReason_erc (r : StopReason) (s : State) : (setReason r s).erc = s.erc := rfl
@[simp] theorem setReason_lmn (r : StopReason) (s : State) : (setReason r s).lmn = s.lmn := rfl
@[simp] theorem setReason_fcl (r : StopReason) (s : State) : (setReason r s).fcl = s.fcl := rfl
@[simp] theorem setReason_mpt (r : StopReason) (s : State) : (setReason r s).mpt = s.mpt := rfl
@[simp] theorem setReason_pins (r : StopReason) (s : State) : (setReason r s).pins = s.pins := rfl
@[simp] theorem setReason_inReset (r : StopReason) (s : State) : (setReason r s).inReset = s.inReset := rfl
@[simp] theorem setReason_freeCount (r : StopReason) (s : State) : (setReason r s).freeCount = s.freeCount := rfl
@[simp] theorem setReason_pending (r : StopReason) (s : State) : (setReason r s).pending = s.pending := rfl

/-! `clearFuel` changes `ssq` alone. -/
@[simp] theorem clearFuel_clc (s : State) : (clearFuel s).clc = s.clc := rfl
@[simp] theorem clearFuel_table (s : State) : (clearFuel s).table = s.table := rfl
@[simp] theorem clearFuel_cpa (s : State) : (clearFuel s).cpa = s.cpa := rfl
@[simp] theorem clearFuel_ssq (s : State) : (clearFuel s).ssq = { s.ssq with fuelOrder := false } := rfl
@[simp] theorem clearFuel_nsp (s : State) : (clearFuel s).nsp = s.nsp := rfl
@[simp] theorem clearFuel_erc (s : State) : (clearFuel s).erc = s.erc := rfl
@[simp] theorem clearFuel_lmn (s : State) : (clearFuel s).lmn = s.lmn := rfl
@[simp] theorem clearFuel_fcl (s : State) : (clearFuel s).fcl = s.fcl := rfl
@[simp] theorem clearFuel_mpt (s : State) : (clearFuel s).mpt = s.mpt := rfl
@[simp] theorem clearFuel_pins (s : State) : (clearFuel s).pins = s.pins := rfl
@[simp] theorem clearFuel_inReset (s : State) : (clearFuel s).inReset = s.inReset := rfl
@[simp] theorem clearFuel_freeCount (s : State) : (clearFuel s).freeCount = s.freeCount := rfl
@[simp] theorem clearFuel_pending (s : State) : (clearFuel s).pending = s.pending := rfl

/-! `setStep` changes `nsp` alone. -/
@[simp] theorem setStep_clc (st : Option Step) (s : State) : (setStep st s).clc = s.clc := rfl
@[simp] theorem setStep_table (st : Option Step) (s : State) : (setStep st s).table = s.table := rfl
@[simp] theorem setStep_cpa (st : Option Step) (s : State) : (setStep st s).cpa = s.cpa := rfl
@[simp] theorem setStep_ssq (st : Option Step) (s : State) : (setStep st s).ssq = s.ssq := rfl
@[simp] theorem setStep_nsp (st : Option Step) (s : State) : (setStep st s).nsp = { s.nsp with step := st } := rfl
@[simp] theorem setStep_erc (st : Option Step) (s : State) : (setStep st s).erc = s.erc := rfl
@[simp] theorem setStep_lmn (st : Option Step) (s : State) : (setStep st s).lmn = s.lmn := rfl
@[simp] theorem setStep_fcl (st : Option Step) (s : State) : (setStep st s).fcl = s.fcl := rfl
@[simp] theorem setStep_mpt (st : Option Step) (s : State) : (setStep st s).mpt = s.mpt := rfl
@[simp] theorem setStep_pins (st : Option Step) (s : State) : (setStep st s).pins = s.pins := rfl
@[simp] theorem setStep_inReset (st : Option Step) (s : State) : (setStep st s).inReset = s.inReset := rfl
@[simp] theorem setStep_freeCount (st : Option Step) (s : State) : (setStep st s).freeCount = s.freeCount := rfl
@[simp] theorem setStep_pending (st : Option Step) (s : State) : (setStep st s).pending = s.pending := rfl

/-! `endStep` changes `nsp` alone. -/
@[simp] theorem endStep_clc (s : State) : (endStep s).clc = s.clc := rfl
@[simp] theorem endStep_table (s : State) : (endStep s).table = s.table := rfl
@[simp] theorem endStep_cpa (s : State) : (endStep s).cpa = s.cpa := rfl
@[simp] theorem endStep_ssq (s : State) : (endStep s).ssq = s.ssq := rfl
@[simp] theorem endStep_nsp (s : State) : (endStep s).nsp = { s.nsp with step := none, dwell := some 0 } := rfl
@[simp] theorem endStep_erc (s : State) : (endStep s).erc = s.erc := rfl
@[simp] theorem endStep_lmn (s : State) : (endStep s).lmn = s.lmn := rfl
@[simp] theorem endStep_fcl (s : State) : (endStep s).fcl = s.fcl := rfl
@[simp] theorem endStep_mpt (s : State) : (endStep s).mpt = s.mpt := rfl
@[simp] theorem endStep_pins (s : State) : (endStep s).pins = s.pins := rfl
@[simp] theorem endStep_inReset (s : State) : (endStep s).inReset = s.inReset := rfl
@[simp] theorem endStep_freeCount (s : State) : (endStep s).freeCount = s.freeCount := rfl
@[simp] theorem endStep_pending (s : State) : (endStep s).pending = s.pending := rfl

/-! `startWatch` changes `nsp` alone. -/
@[simp] theorem startWatch_clc (n : Nat) (s : State) : (startWatch n s).clc = s.clc := rfl
@[simp] theorem startWatch_table (n : Nat) (s : State) : (startWatch n s).table = s.table := rfl
@[simp] theorem startWatch_cpa (n : Nat) (s : State) : (startWatch n s).cpa = s.cpa := rfl
@[simp] theorem startWatch_ssq (n : Nat) (s : State) : (startWatch n s).ssq = s.ssq := rfl
@[simp] theorem startWatch_nsp (n : Nat) (s : State) : (startWatch n s).nsp = { s.nsp with watch := some ⟨n, 10000⟩ } := rfl
@[simp] theorem startWatch_erc (n : Nat) (s : State) : (startWatch n s).erc = s.erc := rfl
@[simp] theorem startWatch_lmn (n : Nat) (s : State) : (startWatch n s).lmn = s.lmn := rfl
@[simp] theorem startWatch_fcl (n : Nat) (s : State) : (startWatch n s).fcl = s.fcl := rfl
@[simp] theorem startWatch_mpt (n : Nat) (s : State) : (startWatch n s).mpt = s.mpt := rfl
@[simp] theorem startWatch_pins (n : Nat) (s : State) : (startWatch n s).pins = s.pins := rfl
@[simp] theorem startWatch_inReset (n : Nat) (s : State) : (startWatch n s).inReset = s.inReset := rfl
@[simp] theorem startWatch_freeCount (n : Nat) (s : State) : (startWatch n s).freeCount = s.freeCount := rfl
@[simp] theorem startWatch_pending (n : Nat) (s : State) : (startWatch n s).pending = s.pending := rfl

/-! `setOwed` changes `nsp` alone. -/
@[simp] theorem setOwed_clc (b : Bool) (s : State) : (setOwed b s).clc = s.clc := rfl
@[simp] theorem setOwed_table (b : Bool) (s : State) : (setOwed b s).table = s.table := rfl
@[simp] theorem setOwed_cpa (b : Bool) (s : State) : (setOwed b s).cpa = s.cpa := rfl
@[simp] theorem setOwed_ssq (b : Bool) (s : State) : (setOwed b s).ssq = s.ssq := rfl
@[simp] theorem setOwed_nsp (b : Bool) (s : State) : (setOwed b s).nsp = { s.nsp with governorOwed := b } := rfl
@[simp] theorem setOwed_erc (b : Bool) (s : State) : (setOwed b s).erc = s.erc := rfl
@[simp] theorem setOwed_lmn (b : Bool) (s : State) : (setOwed b s).lmn = s.lmn := rfl
@[simp] theorem setOwed_fcl (b : Bool) (s : State) : (setOwed b s).fcl = s.fcl := rfl
@[simp] theorem setOwed_mpt (b : Bool) (s : State) : (setOwed b s).mpt = s.mpt := rfl
@[simp] theorem setOwed_pins (b : Bool) (s : State) : (setOwed b s).pins = s.pins := rfl
@[simp] theorem setOwed_inReset (b : Bool) (s : State) : (setOwed b s).inReset = s.inReset := rfl
@[simp] theorem setOwed_freeCount (b : Bool) (s : State) : (setOwed b s).freeCount = s.freeCount := rfl
@[simp] theorem setOwed_pending (b : Bool) (s : State) : (setOwed b s).pending = s.pending := rfl

/-! `setCompleted` changes `nsp` alone. -/
@[simp] theorem setCompleted_clc (n : Nat) (s : State) : (setCompleted n s).clc = s.clc := rfl
@[simp] theorem setCompleted_table (n : Nat) (s : State) : (setCompleted n s).table = s.table := rfl
@[simp] theorem setCompleted_cpa (n : Nat) (s : State) : (setCompleted n s).cpa = s.cpa := rfl
@[simp] theorem setCompleted_ssq (n : Nat) (s : State) : (setCompleted n s).ssq = s.ssq := rfl
@[simp] theorem setCompleted_nsp (n : Nat) (s : State) : (setCompleted n s).nsp = { s.nsp with completed := n } := rfl
@[simp] theorem setCompleted_erc (n : Nat) (s : State) : (setCompleted n s).erc = s.erc := rfl
@[simp] theorem setCompleted_lmn (n : Nat) (s : State) : (setCompleted n s).lmn = s.lmn := rfl
@[simp] theorem setCompleted_fcl (n : Nat) (s : State) : (setCompleted n s).fcl = s.fcl := rfl
@[simp] theorem setCompleted_mpt (n : Nat) (s : State) : (setCompleted n s).mpt = s.mpt := rfl
@[simp] theorem setCompleted_pins (n : Nat) (s : State) : (setCompleted n s).pins = s.pins := rfl
@[simp] theorem setCompleted_inReset (n : Nat) (s : State) : (setCompleted n s).inReset = s.inReset := rfl
@[simp] theorem setCompleted_freeCount (n : Nat) (s : State) : (setCompleted n s).freeCount = s.freeCount := rfl
@[simp] theorem setCompleted_pending (n : Nat) (s : State) : (setCompleted n s).pending = s.pending := rfl

/-! `setLink` changes `clc` alone. -/
@[simp] theorem setLink_clc (l : LinkState) (s : State) : (setLink l s).clc = { s.clc with linkState := l } := rfl
@[simp] theorem setLink_table (l : LinkState) (s : State) : (setLink l s).table = s.table := rfl
@[simp] theorem setLink_cpa (l : LinkState) (s : State) : (setLink l s).cpa = s.cpa := rfl
@[simp] theorem setLink_ssq (l : LinkState) (s : State) : (setLink l s).ssq = s.ssq := rfl
@[simp] theorem setLink_nsp (l : LinkState) (s : State) : (setLink l s).nsp = s.nsp := rfl
@[simp] theorem setLink_erc (l : LinkState) (s : State) : (setLink l s).erc = s.erc := rfl
@[simp] theorem setLink_lmn (l : LinkState) (s : State) : (setLink l s).lmn = s.lmn := rfl
@[simp] theorem setLink_fcl (l : LinkState) (s : State) : (setLink l s).fcl = s.fcl := rfl
@[simp] theorem setLink_mpt (l : LinkState) (s : State) : (setLink l s).mpt = s.mpt := rfl
@[simp] theorem setLink_pins (l : LinkState) (s : State) : (setLink l s).pins = s.pins := rfl
@[simp] theorem setLink_inReset (l : LinkState) (s : State) : (setLink l s).inReset = s.inReset := rfl
@[simp] theorem setLink_freeCount (l : LinkState) (s : State) : (setLink l s).freeCount = s.freeCount := rfl
@[simp] theorem setLink_pending (l : LinkState) (s : State) : (setLink l s).pending = s.pending := rfl

/-! `setEntry` changes `table` alone. -/
@[simp] theorem setEntry_clc (p : Fin 8) (e : Entry) (s : State) : (setEntry p e s).clc = s.clc := rfl
@[simp] theorem setEntry_table (p : Fin 8) (e : Entry) (s : State) : (setEntry p e s).table = s.table.set p e := rfl
@[simp] theorem setEntry_cpa (p : Fin 8) (e : Entry) (s : State) : (setEntry p e s).cpa = s.cpa := rfl
@[simp] theorem setEntry_ssq (p : Fin 8) (e : Entry) (s : State) : (setEntry p e s).ssq = s.ssq := rfl
@[simp] theorem setEntry_nsp (p : Fin 8) (e : Entry) (s : State) : (setEntry p e s).nsp = s.nsp := rfl
@[simp] theorem setEntry_erc (p : Fin 8) (e : Entry) (s : State) : (setEntry p e s).erc = s.erc := rfl
@[simp] theorem setEntry_lmn (p : Fin 8) (e : Entry) (s : State) : (setEntry p e s).lmn = s.lmn := rfl
@[simp] theorem setEntry_fcl (p : Fin 8) (e : Entry) (s : State) : (setEntry p e s).fcl = s.fcl := rfl
@[simp] theorem setEntry_mpt (p : Fin 8) (e : Entry) (s : State) : (setEntry p e s).mpt = s.mpt := rfl
@[simp] theorem setEntry_pins (p : Fin 8) (e : Entry) (s : State) : (setEntry p e s).pins = s.pins := rfl
@[simp] theorem setEntry_inReset (p : Fin 8) (e : Entry) (s : State) : (setEntry p e s).inReset = s.inReset := rfl
@[simp] theorem setEntry_freeCount (p : Fin 8) (e : Entry) (s : State) : (setEntry p e s).freeCount = s.freeCount := rfl
@[simp] theorem setEntry_pending (p : Fin 8) (e : Entry) (s : State) : (setEntry p e s).pending = s.pending := rfl

/-! `endHold` changes `cpa` alone. -/
@[simp] theorem endHold_clc (p : Fin 8) (s : State) : (endHold p s).clc = s.clc := rfl
@[simp] theorem endHold_table (p : Fin 8) (s : State) : (endHold p s).table = s.table := rfl
@[simp] theorem endHold_cpa (p : Fin 8) (s : State) : (endHold p s).cpa = { s.cpa with holds := s.cpa.holds.set p none } := rfl
@[simp] theorem endHold_ssq (p : Fin 8) (s : State) : (endHold p s).ssq = s.ssq := rfl
@[simp] theorem endHold_nsp (p : Fin 8) (s : State) : (endHold p s).nsp = s.nsp := rfl
@[simp] theorem endHold_erc (p : Fin 8) (s : State) : (endHold p s).erc = s.erc := rfl
@[simp] theorem endHold_lmn (p : Fin 8) (s : State) : (endHold p s).lmn = s.lmn := rfl
@[simp] theorem endHold_fcl (p : Fin 8) (s : State) : (endHold p s).fcl = s.fcl := rfl
@[simp] theorem endHold_mpt (p : Fin 8) (s : State) : (endHold p s).mpt = s.mpt := rfl
@[simp] theorem endHold_pins (p : Fin 8) (s : State) : (endHold p s).pins = s.pins := rfl
@[simp] theorem endHold_inReset (p : Fin 8) (s : State) : (endHold p s).inReset = s.inReset := rfl
@[simp] theorem endHold_freeCount (p : Fin 8) (s : State) : (endHold p s).freeCount = s.freeCount := rfl
@[simp] theorem endHold_pending (p : Fin 8) (s : State) : (endHold p s).pending = s.pending := rfl

/-! `mapCounters` changes `clc` alone. -/
@[simp] theorem mapCounters_clc (f : LinkCounters → LinkCounters) (s : State) : (mapCounters f s).clc = { s.clc with counters := f s.clc.counters } := rfl
@[simp] theorem mapCounters_table (f : LinkCounters → LinkCounters) (s : State) : (mapCounters f s).table = s.table := rfl
@[simp] theorem mapCounters_cpa (f : LinkCounters → LinkCounters) (s : State) : (mapCounters f s).cpa = s.cpa := rfl
@[simp] theorem mapCounters_ssq (f : LinkCounters → LinkCounters) (s : State) : (mapCounters f s).ssq = s.ssq := rfl
@[simp] theorem mapCounters_nsp (f : LinkCounters → LinkCounters) (s : State) : (mapCounters f s).nsp = s.nsp := rfl
@[simp] theorem mapCounters_erc (f : LinkCounters → LinkCounters) (s : State) : (mapCounters f s).erc = s.erc := rfl
@[simp] theorem mapCounters_lmn (f : LinkCounters → LinkCounters) (s : State) : (mapCounters f s).lmn = s.lmn := rfl
@[simp] theorem mapCounters_fcl (f : LinkCounters → LinkCounters) (s : State) : (mapCounters f s).fcl = s.fcl := rfl
@[simp] theorem mapCounters_mpt (f : LinkCounters → LinkCounters) (s : State) : (mapCounters f s).mpt = s.mpt := rfl
@[simp] theorem mapCounters_pins (f : LinkCounters → LinkCounters) (s : State) : (mapCounters f s).pins = s.pins := rfl
@[simp] theorem mapCounters_inReset (f : LinkCounters → LinkCounters) (s : State) : (mapCounters f s).inReset = s.inReset := rfl
@[simp] theorem mapCounters_freeCount (f : LinkCounters → LinkCounters) (s : State) : (mapCounters f s).freeCount = s.freeCount := rfl
@[simp] theorem mapCounters_pending (f : LinkCounters → LinkCounters) (s : State) : (mapCounters f s).pending = s.pending := rfl

/-! `setTx` changes `clc` alone. -/
@[simp] theorem setTx_clc (t : Tx) (s : State) : (setTx t s).clc = { s.clc with tx := t } := rfl
@[simp] theorem setTx_table (t : Tx) (s : State) : (setTx t s).table = s.table := rfl
@[simp] theorem setTx_cpa (t : Tx) (s : State) : (setTx t s).cpa = s.cpa := rfl
@[simp] theorem setTx_ssq (t : Tx) (s : State) : (setTx t s).ssq = s.ssq := rfl
@[simp] theorem setTx_nsp (t : Tx) (s : State) : (setTx t s).nsp = s.nsp := rfl
@[simp] theorem setTx_erc (t : Tx) (s : State) : (setTx t s).erc = s.erc := rfl
@[simp] theorem setTx_lmn (t : Tx) (s : State) : (setTx t s).lmn = s.lmn := rfl
@[simp] theorem setTx_fcl (t : Tx) (s : State) : (setTx t s).fcl = s.fcl := rfl
@[simp] theorem setTx_mpt (t : Tx) (s : State) : (setTx t s).mpt = s.mpt := rfl
@[simp] theorem setTx_pins (t : Tx) (s : State) : (setTx t s).pins = s.pins := rfl
@[simp] theorem setTx_inReset (t : Tx) (s : State) : (setTx t s).inReset = s.inReset := rfl
@[simp] theorem setTx_freeCount (t : Tx) (s : State) : (setTx t s).freeCount = s.freeCount := rfl
@[simp] theorem setTx_pending (t : Tx) (s : State) : (setTx t s).pending = s.pending := rfl

/-! `setWindow` changes `clc` alone. -/
@[simp] theorem setWindow_clc (i : Fin 8) (us : Nat) (s : State) : (setWindow i us s).clc = { s.clc with windowIndex := i, windowTimer := some us } := rfl
@[simp] theorem setWindow_table (i : Fin 8) (us : Nat) (s : State) : (setWindow i us s).table = s.table := rfl
@[simp] theorem setWindow_cpa (i : Fin 8) (us : Nat) (s : State) : (setWindow i us s).cpa = s.cpa := rfl
@[simp] theorem setWindow_ssq (i : Fin 8) (us : Nat) (s : State) : (setWindow i us s).ssq = s.ssq := rfl
@[simp] theorem setWindow_nsp (i : Fin 8) (us : Nat) (s : State) : (setWindow i us s).nsp = s.nsp := rfl
@[simp] theorem setWindow_erc (i : Fin 8) (us : Nat) (s : State) : (setWindow i us s).erc = s.erc := rfl
@[simp] theorem setWindow_lmn (i : Fin 8) (us : Nat) (s : State) : (setWindow i us s).lmn = s.lmn := rfl
@[simp] theorem setWindow_fcl (i : Fin 8) (us : Nat) (s : State) : (setWindow i us s).fcl = s.fcl := rfl
@[simp] theorem setWindow_mpt (i : Fin 8) (us : Nat) (s : State) : (setWindow i us s).mpt = s.mpt := rfl
@[simp] theorem setWindow_pins (i : Fin 8) (us : Nat) (s : State) : (setWindow i us s).pins = s.pins := rfl
@[simp] theorem setWindow_inReset (i : Fin 8) (us : Nat) (s : State) : (setWindow i us s).inReset = s.inReset := rfl
@[simp] theorem setWindow_freeCount (i : Fin 8) (us : Nat) (s : State) : (setWindow i us s).freeCount = s.freeCount := rfl
@[simp] theorem setWindow_pending (i : Fin 8) (us : Nat) (s : State) : (setWindow i us s).pending = s.pending := rfl

/-! `setHealth` changes `erc` alone. -/
@[simp] theorem setHealth_clc (d : Device) (h : Health) (s : State) : (setHealth d h s).clc = s.clc := rfl
@[simp] theorem setHealth_table (d : Device) (h : Health) (s : State) : (setHealth d h s).table = s.table := rfl
@[simp] theorem setHealth_cpa (d : Device) (h : Health) (s : State) : (setHealth d h s).cpa = s.cpa := rfl
@[simp] theorem setHealth_ssq (d : Device) (h : Health) (s : State) : (setHealth d h s).ssq = s.ssq := rfl
@[simp] theorem setHealth_nsp (d : Device) (h : Health) (s : State) : (setHealth d h s).nsp = s.nsp := rfl
@[simp] theorem setHealth_erc (d : Device) (h : Health) (s : State) : (setHealth d h s).erc = { s.erc with health := s.erc.health.set d h } := rfl
@[simp] theorem setHealth_lmn (d : Device) (h : Health) (s : State) : (setHealth d h s).lmn = s.lmn := rfl
@[simp] theorem setHealth_fcl (d : Device) (h : Health) (s : State) : (setHealth d h s).fcl = s.fcl := rfl
@[simp] theorem setHealth_mpt (d : Device) (h : Health) (s : State) : (setHealth d h s).mpt = s.mpt := rfl
@[simp] theorem setHealth_pins (d : Device) (h : Health) (s : State) : (setHealth d h s).pins = s.pins := rfl
@[simp] theorem setHealth_inReset (d : Device) (h : Health) (s : State) : (setHealth d h s).inReset = s.inReset := rfl
@[simp] theorem setHealth_freeCount (d : Device) (h : Health) (s : State) : (setHealth d h s).freeCount = s.freeCount := rfl
@[simp] theorem setHealth_pending (d : Device) (h : Health) (s : State) : (setHealth d h s).pending = s.pending := rfl

/-! `replyQuiet` changes `erc` alone. -/

@[simp] theorem replyQuiet_clc (s : State) : (replyQuiet s).clc = s.clc := rfl
@[simp] theorem replyQuiet_table (s : State) : (replyQuiet s).table = s.table := rfl
@[simp] theorem replyQuiet_cpa (s : State) : (replyQuiet s).cpa = s.cpa := rfl
@[simp] theorem replyQuiet_ssq (s : State) : (replyQuiet s).ssq = s.ssq := rfl
@[simp] theorem replyQuiet_nsp (s : State) : (replyQuiet s).nsp = s.nsp := rfl
@[simp] theorem replyQuiet_erc (s : State) : (replyQuiet s).erc = { s.erc with replyLine := .clear } := rfl
@[simp] theorem replyQuiet_lmn (s : State) : (replyQuiet s).lmn = s.lmn := rfl
@[simp] theorem replyQuiet_fcl (s : State) : (replyQuiet s).fcl = s.fcl := rfl
@[simp] theorem replyQuiet_mpt (s : State) : (replyQuiet s).mpt = s.mpt := rfl
@[simp] theorem replyQuiet_pins (s : State) : (replyQuiet s).pins = s.pins := rfl
@[simp] theorem replyQuiet_inReset (s : State) : (replyQuiet s).inReset = s.inReset := rfl
@[simp] theorem replyQuiet_freeCount (s : State) : (replyQuiet s).freeCount = s.freeCount := rfl
@[simp] theorem replyQuiet_pending (s : State) : (replyQuiet s).pending = s.pending := rfl

/-! `countLateReply` changes `erc` alone. -/

@[simp] theorem countLateReply_clc (s : State) : (countLateReply s).clc = s.clc := rfl
@[simp] theorem countLateReply_table (s : State) : (countLateReply s).table = s.table := rfl
@[simp] theorem countLateReply_cpa (s : State) : (countLateReply s).cpa = s.cpa := rfl
@[simp] theorem countLateReply_ssq (s : State) : (countLateReply s).ssq = s.ssq := rfl
@[simp] theorem countLateReply_nsp (s : State) : (countLateReply s).nsp = s.nsp := rfl
@[simp] theorem countLateReply_erc (s : State) : (countLateReply s).erc = { s.erc with lateReply := sat16 s.erc.lateReply } := rfl
@[simp] theorem countLateReply_lmn (s : State) : (countLateReply s).lmn = s.lmn := rfl
@[simp] theorem countLateReply_fcl (s : State) : (countLateReply s).fcl = s.fcl := rfl
@[simp] theorem countLateReply_mpt (s : State) : (countLateReply s).mpt = s.mpt := rfl
@[simp] theorem countLateReply_pins (s : State) : (countLateReply s).pins = s.pins := rfl
@[simp] theorem countLateReply_inReset (s : State) : (countLateReply s).inReset = s.inReset := rfl
@[simp] theorem countLateReply_freeCount (s : State) : (countLateReply s).freeCount = s.freeCount := rfl
@[simp] theorem countLateReply_pending (s : State) : (countLateReply s).pending = s.pending := rfl

/-! `setRecordState` changes `erc` alone. -/
@[simp] theorem setRecordState_clc (r : RecordState) (s : State) : (setRecordState r s).clc = s.clc := rfl
@[simp] theorem setRecordState_table (r : RecordState) (s : State) : (setRecordState r s).table = s.table := rfl
@[simp] theorem setRecordState_cpa (r : RecordState) (s : State) : (setRecordState r s).cpa = s.cpa := rfl
@[simp] theorem setRecordState_ssq (r : RecordState) (s : State) : (setRecordState r s).ssq = s.ssq := rfl
@[simp] theorem setRecordState_nsp (r : RecordState) (s : State) : (setRecordState r s).nsp = s.nsp := rfl
@[simp] theorem setRecordState_erc (r : RecordState) (s : State) : (setRecordState r s).erc = { s.erc with sensor := { s.erc.sensor with state := r } } := rfl
@[simp] theorem setRecordState_lmn (r : RecordState) (s : State) : (setRecordState r s).lmn = s.lmn := rfl
@[simp] theorem setRecordState_fcl (r : RecordState) (s : State) : (setRecordState r s).fcl = s.fcl := rfl
@[simp] theorem setRecordState_mpt (r : RecordState) (s : State) : (setRecordState r s).mpt = s.mpt := rfl
@[simp] theorem setRecordState_pins (r : RecordState) (s : State) : (setRecordState r s).pins = s.pins := rfl
@[simp] theorem setRecordState_inReset (r : RecordState) (s : State) : (setRecordState r s).inReset = s.inReset := rfl
@[simp] theorem setRecordState_freeCount (r : RecordState) (s : State) : (setRecordState r s).freeCount = s.freeCount := rfl
@[simp] theorem setRecordState_pending (r : RecordState) (s : State) : (setRecordState r s).pending = s.pending := rfl

/-! `setLevel` changes `lmn` alone. -/
@[simp] theorem setLevel_clc (l : Line) (v : Bool) (s : State) : (setLevel l v s).clc = s.clc := rfl
@[simp] theorem setLevel_table (l : Line) (v : Bool) (s : State) : (setLevel l v s).table = s.table := rfl
@[simp] theorem setLevel_cpa (l : Line) (v : Bool) (s : State) : (setLevel l v s).cpa = s.cpa := rfl
@[simp] theorem setLevel_ssq (l : Line) (v : Bool) (s : State) : (setLevel l v s).ssq = s.ssq := rfl
@[simp] theorem setLevel_nsp (l : Line) (v : Bool) (s : State) : (setLevel l v s).nsp = s.nsp := rfl
@[simp] theorem setLevel_erc (l : Line) (v : Bool) (s : State) : (setLevel l v s).erc = s.erc := rfl
@[simp] theorem setLevel_lmn (l : Line) (v : Bool) (s : State) : (setLevel l v s).lmn = { s.lmn with lines := s.lmn.lines.set l ⟨some v, none⟩ } := rfl
@[simp] theorem setLevel_fcl (l : Line) (v : Bool) (s : State) : (setLevel l v s).fcl = s.fcl := rfl
@[simp] theorem setLevel_mpt (l : Line) (v : Bool) (s : State) : (setLevel l v s).mpt = s.mpt := rfl
@[simp] theorem setLevel_pins (l : Line) (v : Bool) (s : State) : (setLevel l v s).pins = s.pins := rfl
@[simp] theorem setLevel_inReset (l : Line) (v : Bool) (s : State) : (setLevel l v s).inReset = s.inReset := rfl
@[simp] theorem setLevel_freeCount (l : Line) (v : Bool) (s : State) : (setLevel l v s).freeCount = s.freeCount := rfl
@[simp] theorem setLevel_pending (l : Line) (v : Bool) (s : State) : (setLevel l v s).pending = s.pending := rfl

/-! `setDerate` changes `nsp` alone. -/
@[simp] theorem setDerate_clc (c : Derate) (v : DerateCond) (s : State) : (setDerate c v s).clc = s.clc := rfl
@[simp] theorem setDerate_table (c : Derate) (v : DerateCond) (s : State) : (setDerate c v s).table = s.table := rfl
@[simp] theorem setDerate_cpa (c : Derate) (v : DerateCond) (s : State) : (setDerate c v s).cpa = s.cpa := rfl
@[simp] theorem setDerate_ssq (c : Derate) (v : DerateCond) (s : State) : (setDerate c v s).ssq = s.ssq := rfl
@[simp] theorem setDerate_nsp (c : Derate) (v : DerateCond) (s : State) : (setDerate c v s).nsp = { s.nsp with derates := s.nsp.derates.set c v } := rfl
@[simp] theorem setDerate_erc (c : Derate) (v : DerateCond) (s : State) : (setDerate c v s).erc = s.erc := rfl
@[simp] theorem setDerate_lmn (c : Derate) (v : DerateCond) (s : State) : (setDerate c v s).lmn = s.lmn := rfl
@[simp] theorem setDerate_fcl (c : Derate) (v : DerateCond) (s : State) : (setDerate c v s).fcl = s.fcl := rfl
@[simp] theorem setDerate_mpt (c : Derate) (v : DerateCond) (s : State) : (setDerate c v s).mpt = s.mpt := rfl
@[simp] theorem setDerate_pins (c : Derate) (v : DerateCond) (s : State) : (setDerate c v s).pins = s.pins := rfl
@[simp] theorem setDerate_inReset (c : Derate) (v : DerateCond) (s : State) : (setDerate c v s).inReset = s.inReset := rfl
@[simp] theorem setDerate_freeCount (c : Derate) (v : DerateCond) (s : State) : (setDerate c v s).freeCount = s.freeCount := rfl
@[simp] theorem setDerate_pending (c : Derate) (v : DerateCond) (s : State) : (setDerate c v s).pending = s.pending := rfl

/-! `setForce` changes `lmn` alone. -/
@[simp] theorem setForce_clc (b : Bool) (s : State) : (setForce b s).clc = s.clc := rfl
@[simp] theorem setForce_table (b : Bool) (s : State) : (setForce b s).table = s.table := rfl
@[simp] theorem setForce_cpa (b : Bool) (s : State) : (setForce b s).cpa = s.cpa := rfl
@[simp] theorem setForce_ssq (b : Bool) (s : State) : (setForce b s).ssq = s.ssq := rfl
@[simp] theorem setForce_nsp (b : Bool) (s : State) : (setForce b s).nsp = s.nsp := rfl
@[simp] theorem setForce_erc (b : Bool) (s : State) : (setForce b s).erc = s.erc := rfl
@[simp] theorem setForce_lmn (b : Bool) (s : State) : (setForce b s).lmn = { s.lmn with overspeedForce := b } := rfl
@[simp] theorem setForce_fcl (b : Bool) (s : State) : (setForce b s).fcl = s.fcl := rfl
@[simp] theorem setForce_mpt (b : Bool) (s : State) : (setForce b s).mpt = s.mpt := rfl
@[simp] theorem setForce_pins (b : Bool) (s : State) : (setForce b s).pins = s.pins := rfl
@[simp] theorem setForce_inReset (b : Bool) (s : State) : (setForce b s).inReset = s.inReset := rfl
@[simp] theorem setForce_freeCount (b : Bool) (s : State) : (setForce b s).freeCount = s.freeCount := rfl
@[simp] theorem setForce_pending (b : Bool) (s : State) : (setForce b s).pending = s.pending := rfl

/-! `setAck` changes `pins` alone. -/
@[simp] theorem setAck_clc (b : Bool) (s : State) : (setAck b s).clc = s.clc := rfl
@[simp] theorem setAck_table (b : Bool) (s : State) : (setAck b s).table = s.table := rfl
@[simp] theorem setAck_cpa (b : Bool) (s : State) : (setAck b s).cpa = s.cpa := rfl
@[simp] theorem setAck_ssq (b : Bool) (s : State) : (setAck b s).ssq = s.ssq := rfl
@[simp] theorem setAck_nsp (b : Bool) (s : State) : (setAck b s).nsp = s.nsp := rfl
@[simp] theorem setAck_erc (b : Bool) (s : State) : (setAck b s).erc = s.erc := rfl
@[simp] theorem setAck_lmn (b : Bool) (s : State) : (setAck b s).lmn = s.lmn := rfl
@[simp] theorem setAck_fcl (b : Bool) (s : State) : (setAck b s).fcl = s.fcl := rfl
@[simp] theorem setAck_mpt (b : Bool) (s : State) : (setAck b s).mpt = s.mpt := rfl
@[simp] theorem setAck_pins (b : Bool) (s : State) : (setAck b s).pins = { s.pins with portAck := b } := rfl
@[simp] theorem setAck_inReset (b : Bool) (s : State) : (setAck b s).inReset = s.inReset := rfl
@[simp] theorem setAck_freeCount (b : Bool) (s : State) : (setAck b s).freeCount = s.freeCount := rfl
@[simp] theorem setAck_pending (b : Bool) (s : State) : (setAck b s).pending = s.pending := rfl

/-! `bumpPointer` changes `mpt` alone. -/
@[simp] theorem bumpPointer_clc (s : State) : (bumpPointer s).clc = s.clc := rfl
@[simp] theorem bumpPointer_table (s : State) : (bumpPointer s).table = s.table := rfl
@[simp] theorem bumpPointer_cpa (s : State) : (bumpPointer s).cpa = s.cpa := rfl
@[simp] theorem bumpPointer_ssq (s : State) : (bumpPointer s).ssq = s.ssq := rfl
@[simp] theorem bumpPointer_nsp (s : State) : (bumpPointer s).nsp = s.nsp := rfl
@[simp] theorem bumpPointer_erc (s : State) : (bumpPointer s).erc = s.erc := rfl
@[simp] theorem bumpPointer_lmn (s : State) : (bumpPointer s).lmn = s.lmn := rfl
@[simp] theorem bumpPointer_fcl (s : State) : (bumpPointer s).fcl = s.fcl := rfl
@[simp] theorem bumpPointer_mpt (s : State) : (bumpPointer s).mpt = { s.mpt with pointer := s.mpt.pointer + 1 } := rfl
@[simp] theorem bumpPointer_pins (s : State) : (bumpPointer s).pins = s.pins := rfl
@[simp] theorem bumpPointer_inReset (s : State) : (bumpPointer s).inReset = s.inReset := rfl
@[simp] theorem bumpPointer_freeCount (s : State) : (bumpPointer s).freeCount = s.freeCount := rfl
@[simp] theorem bumpPointer_pending (s : State) : (bumpPointer s).pending = s.pending := rfl

/-! `stopSending` changes `clc` alone. -/
@[simp] theorem stopSending_clc (s : State) : (stopSending s).clc = { s.clc with tx := .idle, busyUs := 80, reception := .suspended 80 0 } := rfl
@[simp] theorem stopSending_table (s : State) : (stopSending s).table = s.table := rfl
@[simp] theorem stopSending_cpa (s : State) : (stopSending s).cpa = s.cpa := rfl
@[simp] theorem stopSending_ssq (s : State) : (stopSending s).ssq = s.ssq := rfl
@[simp] theorem stopSending_nsp (s : State) : (stopSending s).nsp = s.nsp := rfl
@[simp] theorem stopSending_erc (s : State) : (stopSending s).erc = s.erc := rfl
@[simp] theorem stopSending_lmn (s : State) : (stopSending s).lmn = s.lmn := rfl
@[simp] theorem stopSending_fcl (s : State) : (stopSending s).fcl = s.fcl := rfl
@[simp] theorem stopSending_mpt (s : State) : (stopSending s).mpt = s.mpt := rfl
@[simp] theorem stopSending_pins (s : State) : (stopSending s).pins = s.pins := rfl
@[simp] theorem stopSending_inReset (s : State) : (stopSending s).inReset = s.inReset := rfl
@[simp] theorem stopSending_freeCount (s : State) : (stopSending s).freeCount = s.freeCount := rfl
@[simp] theorem stopSending_pending (s : State) : (stopSending s).pending = s.pending := rfl

/-! `countCheckSent` changes `clc` alone. -/
@[simp] theorem countCheckSent_table (b : Bool) (s : State) : (countCheckSent b s).table = s.table := rfl
@[simp] theorem countCheckSent_cpa (b : Bool) (s : State) : (countCheckSent b s).cpa = s.cpa := rfl
@[simp] theorem countCheckSent_ssq (b : Bool) (s : State) : (countCheckSent b s).ssq = s.ssq := rfl
@[simp] theorem countCheckSent_nsp (b : Bool) (s : State) : (countCheckSent b s).nsp = s.nsp := rfl
@[simp] theorem countCheckSent_erc (b : Bool) (s : State) : (countCheckSent b s).erc = s.erc := rfl
@[simp] theorem countCheckSent_lmn (b : Bool) (s : State) : (countCheckSent b s).lmn = s.lmn := rfl
@[simp] theorem countCheckSent_fcl (b : Bool) (s : State) : (countCheckSent b s).fcl = s.fcl := rfl
@[simp] theorem countCheckSent_mpt (b : Bool) (s : State) : (countCheckSent b s).mpt = s.mpt := rfl
@[simp] theorem countCheckSent_pins (b : Bool) (s : State) : (countCheckSent b s).pins = s.pins := rfl
@[simp] theorem countCheckSent_inReset (b : Bool) (s : State) : (countCheckSent b s).inReset = s.inReset := rfl
@[simp] theorem countCheckSent_freeCount (b : Bool) (s : State) : (countCheckSent b s).freeCount = s.freeCount := rfl
@[simp] theorem countCheckSent_pending (b : Bool) (s : State) : (countCheckSent b s).pending = s.pending := rfl
@[simp] theorem countCheckSent_tx (b : Bool) (s : State) : (countCheckSent b s).clc.tx = s.clc.tx := rfl
@[simp] theorem countCheckSent_linkState (b : Bool) (s : State) : (countCheckSent b s).clc.linkState = s.clc.linkState := rfl
@[simp] theorem countCheckSent_counters (b : Bool) (s : State) : (countCheckSent b s).clc.counters = s.clc.counters := rfl

/-! `setSilence` changes `lmn` alone. -/
@[simp] theorem setSilence_clc (s : State) : (setSilence s).clc = s.clc := rfl
@[simp] theorem setSilence_table (s : State) : (setSilence s).table = s.table := rfl
@[simp] theorem setSilence_cpa (s : State) : (setSilence s).cpa = s.cpa := rfl
@[simp] theorem setSilence_ssq (s : State) : (setSilence s).ssq = s.ssq := rfl
@[simp] theorem setSilence_nsp (s : State) : (setSilence s).nsp = s.nsp := rfl
@[simp] theorem setSilence_erc (s : State) : (setSilence s).erc = s.erc := rfl
@[simp] theorem setSilence_lmn (s : State) : (setSilence s).lmn = { s.lmn with silenceTimer := none, silence := true, measured := 0 } := rfl
@[simp] theorem setSilence_fcl (s : State) : (setSilence s).fcl = s.fcl := rfl
@[simp] theorem setSilence_mpt (s : State) : (setSilence s).mpt = s.mpt := rfl
@[simp] theorem setSilence_pins (s : State) : (setSilence s).pins = s.pins := rfl
@[simp] theorem setSilence_inReset (s : State) : (setSilence s).inReset = s.inReset := rfl
@[simp] theorem setSilence_freeCount (s : State) : (setSilence s).freeCount = s.freeCount := rfl
@[simp] theorem setSilence_pending (s : State) : (setSilence s).pending = s.pending := rfl

/-! `addProtDisengage` changes `ssq` alone. -/
@[simp] theorem addProtDisengage_clc (s : State) : (addProtDisengage s).clc = s.clc := rfl
@[simp] theorem addProtDisengage_table (s : State) : (addProtDisengage s).table = s.table := rfl
@[simp] theorem addProtDisengage_cpa (s : State) : (addProtDisengage s).cpa = s.cpa := rfl
@[simp] theorem addProtDisengage_ssq (s : State) : (addProtDisengage s).ssq = { s.ssq with
    protList := if s.ssq.protList.contains .disengage then s.ssq.protList else .disengage :: s.ssq.protList,
    releasePending := true } := rfl
@[simp] theorem addProtDisengage_nsp (s : State) : (addProtDisengage s).nsp = s.nsp := rfl
@[simp] theorem addProtDisengage_erc (s : State) : (addProtDisengage s).erc = s.erc := rfl
@[simp] theorem addProtDisengage_lmn (s : State) : (addProtDisengage s).lmn = s.lmn := rfl
@[simp] theorem addProtDisengage_fcl (s : State) : (addProtDisengage s).fcl = s.fcl := rfl
@[simp] theorem addProtDisengage_mpt (s : State) : (addProtDisengage s).mpt = s.mpt := rfl
@[simp] theorem addProtDisengage_pins (s : State) : (addProtDisengage s).pins = s.pins := rfl
@[simp] theorem addProtDisengage_inReset (s : State) : (addProtDisengage s).inReset = s.inReset := rfl
@[simp] theorem addProtDisengage_freeCount (s : State) : (addProtDisengage s).freeCount = s.freeCount := rfl
@[simp] theorem addProtDisengage_pending (s : State) : (addProtDisengage s).pending = s.pending := rfl

/-! `useFree` changes `freeCount` alone. -/
@[simp] theorem useFree_clc (s : State) : (useFree s).clc = s.clc := rfl
@[simp] theorem useFree_table (s : State) : (useFree s).table = s.table := rfl
@[simp] theorem useFree_cpa (s : State) : (useFree s).cpa = s.cpa := rfl
@[simp] theorem useFree_ssq (s : State) : (useFree s).ssq = s.ssq := rfl
@[simp] theorem useFree_nsp (s : State) : (useFree s).nsp = s.nsp := rfl
@[simp] theorem useFree_erc (s : State) : (useFree s).erc = s.erc := rfl
@[simp] theorem useFree_lmn (s : State) : (useFree s).lmn = s.lmn := rfl
@[simp] theorem useFree_fcl (s : State) : (useFree s).fcl = s.fcl := rfl
@[simp] theorem useFree_mpt (s : State) : (useFree s).mpt = s.mpt := rfl
@[simp] theorem useFree_pins (s : State) : (useFree s).pins = s.pins := rfl
@[simp] theorem useFree_inReset (s : State) : (useFree s).inReset = s.inReset := rfl
@[simp] theorem useFree_freeCount (s : State) : (useFree s).freeCount = s.freeCount + 1 := rfl
@[simp] theorem useFree_pending (s : State) : (useFree s).pending = s.pending := rfl

/-- Reading back what was set. -/
@[simp] theorem PerPosition.get_set {α : Type} (t : PerPosition α) (p : Fin 8) (v : α) : (t.set p v).get p = v := by
  fin_cases p <;> rfl

/-- Reading another one than the one set. -/
theorem PerPosition.get_set_ne {α : Type} (t : PerPosition α) {p q : Fin 8} (v : α) (h : q ≠ p) :
    (t.set p v).get q = t.get q := by
  fin_cases p <;> fin_cases q <;> first | rfl | exact absurd rfl h

/-- Reading back what was set. -/
@[simp] theorem PerDevice.get_set {α : Type} (t : PerDevice α) (p : Device) (v : α) : (t.set p v).get p = v := by
  cases p <;> rfl

/-- Reading another one than the one set. -/
theorem PerDevice.get_set_ne {α : Type} (t : PerDevice α) {p q : Device} (v : α) (h : q ≠ p) :
    (t.set p v).get q = t.get q := by
  cases p <;> cases q <;> first | rfl | exact absurd rfl h

/-- Reading back what was set. -/
@[simp] theorem PerLine.get_set {α : Type} (t : PerLine α) (p : Line) (v : α) : (t.set p v).get p = v := by
  cases p <;> rfl

/-- Reading another one than the one set. -/
theorem PerLine.get_set_ne {α : Type} (t : PerLine α) {p q : Line} (v : α) (h : q ≠ p) :
    (t.set p v).get q = t.get q := by
  cases p <;> cases q <;> first | rfl | exact absurd rfl h

/-- Reading back what was set. -/
@[simp] theorem PerClient.get_set {α : Type} (t : PerClient α) (p : Client) (v : α) : (t.set p v).get p = v := by
  cases p <;> rfl

/-- Reading another one than the one set. -/
theorem PerClient.get_set_ne {α : Type} (t : PerClient α) {p q : Client} (v : α) (h : q ≠ p) :
    (t.set p v).get q = t.get q := by
  cases p <;> cases q <;> first | rfl | exact absurd rfl h

/-- Reading back what was set. -/
@[simp] theorem PerDerate.get_set {α : Type} (t : PerDerate α) (p : Derate) (v : α) : (t.set p v).get p = v := by
  cases p <;> rfl

/-- Reading another one than the one set. -/
theorem PerDerate.get_set_ne {α : Type} (t : PerDerate α) {p q : Derate} (v : α) (h : q ≠ p) :
    (t.set p v).get q = t.get q := by
  cases p <;> cases q <;> first | rfl | exact absurd rfl h

/-- The group built from a function holds the function's values. -/
@[simp] theorem PerPosition.get_build {α : Type} (f : Fin 8 → α) (p : Fin 8) : (PerPosition.build f).get p = f p := by
  fin_cases p <;> rfl

/-! ## Waiting for quiet -/

/-- Reception counts time as one, however it is cut. -/
theorem reception_pass_pass (a b : Nat) (r : Reception) : (r.pass a).pass b = r.pass (a + b) := by
  cases r with
  | ready => rfl
  | suspended own quiet => simp only [Reception.pass, Reception.suspended.injEq]; omega

/-- The reply line counts time as one, however it is cut. -/
theorem replyLine_pass_pass (a b : Nat) (r : ReplyLine) : (r.pass a).pass b = r.pass (a + b) := by
  cases r with
  | clear => rfl
  | waiting n => simp only [ReplyLine.pass, ReplyLine.waiting.injEq, bitTimesPerMs]; omega

/-- Outside SENDING whatever is taken is a reply. -/
theorem replyFramed_of_not_sending {s : State} (h : s.erc.sequencer ≠ .sending) (n : Nat) : s.replyFramed n = true := by
  simp [State.replyFramed, State.inFirstRequest, h]

/-- On a line known to have been quiet whatever is taken is a reply. -/
theorem replyFramed_of_clear {s : State} (h : s.erc.replyLine = .clear) (n : Nat) : s.replyFramed n = true := by
  simp [State.replyFramed, State.inFirstRequest, h]

/-- Once the 54 bit times of a request have passed whatever is taken is a reply. -/
theorem replyFramed_of_le {s : State} {b : Nat} (h : s.erc.replyLine = .waiting b) (hb : 54 ≤ b) (n : Nat) :
    s.replyFramed n = true := by
  simp [State.replyFramed, State.inFirstRequest, h, Nat.not_lt.mpr hb]

/-- Two octets or more while the first request goes out are the rest of a lost reply. -/
theorem not_replyFramed_in_first_request {s : State} {n : Nat} (h : s.inFirstRequest = true) (hn : 54 < replyBitTimes n) :
    s.replyFramed n = false := by
  simp [State.replyFramed, h, hn]

end Sys2Proof.Machine
end

