-- ==== Sys2Proof/Safety.lean ====
section
/-! DEFINITION. What the station must hold whatever commands come: the properties of State that the spec states of every moment.
They are claims for the provers; nothing here is assumed. -/

namespace Sys2Proof.Machine

/-- The engine states in which the own claim is present (R55). -/
def EngineState.claims : EngineState → Bool
  | .claiming | .prelube | .cranking => true
  | _ => false

/-- The engine states in which FUEL_RUN may be asserted (R79). -/
def EngineState.mayFuel : EngineState → Bool
  | .cranking | .firing | .idleWarm | .running | .cooldown => true
  | _ => false

/-- The claim is present in CLAIMING, PRELUBE and CRANKING, and absent in every other engine state (R55). -/
def ClaimFitsEngine (s : State) : Prop := s.cpa.claim.isSome = s.ssq.engine.claims

/-- The fuel order is set only in the engine states in which FUEL_RUN may be asserted (R79). -/
def FuelFitsEngine (s : State) : Prop := s.ssq.fuelOrder = true → s.ssq.engine.mayFuel = true

/-- While ESTOP is asserted the engine stands in STOPPED, SHUTDOWN or LOCKED_OUT (R95, R96). -/
def EstopFitsEngine (s : State) : Prop :=
  s.estop = true → s.ssq.engine = .stopped ∨ s.ssq.engine = .shutdown ∨ s.ssq.engine = .lockedOut

/-- The active fault set is listed once each, in the order of the codes, so that equal sets are equal lists (R165). -/
def FaultSetListed (s : State) : Prop := s.fcl.active = FaultKind.all.filter (fun k => s.fcl.active.contains k)

/-- The notice-pending set holds each kind at most once (R163). -/
def NoticesListed (s : State) : Prop := s.fcl.notices.Nodup

/-- CRANK_FAIL's cause and hold timer stand exactly while the kind is active (R161). -/
def CrankFailTimed (s : State) : Prop :=
  s.fcl.crankFailTimer.isSome = s.faultActive .crankFail ∧ s.fcl.crankFailCause.isSome = s.faultActive .crankFail

/-- A slot is in flight. -/
def Slot.isInFlight : Slot → Bool
  | .inFlight _ => true
  | _ => false

/-- At most one transaction is in flight (R130): with the sequencer IDLE no slot is in flight, and otherwise exactly the
slot of the current transaction is, with its request. -/
def OneTransaction (s : State) : Prop :=
  match s.erc.sequencer with
  | .idle => ∀ c, (s.erc.slots.get c).isInFlight = false
  | _ => ∃ t, s.erc.current = some t ∧ s.erc.slots.get t.client = .inFlight t.request
      ∧ ∀ c, c ≠ t.client → (s.erc.slots.get c).isInFlight = false

/-- Nothing is committed while the station is held in reset; the link state is CONFIG and no configuration stands until the commit,
and neither from it on (R13, R19, R167, R170). -/
def CommitFitsLink (s : State) : Prop :=
  (s.inReset = true → s.mpt.commitState = .cleared)
    ∧ ((s.clc.linkState = .config ∧ s.mpt.committed = none)
      ∨ (s.clc.linkState ≠ .config ∧ s.mpt.committed.isSome = true ∧ ∃ cause, s.mpt.commitState = .committed cause))

/-! ## What a command leaves unchanged -/

/-- Nothing outside SSQ, NSP, CPA's claim and count, ERC and FCL has changed, but for the link state. -/
def KeepsOutside (s t : State) : Prop :=
  { t.clc with linkState := s.clc.linkState } = s.clc ∧ t.table = s.table ∧ t.cpa.holds = s.cpa.holds ∧ t.lmn = s.lmn
    ∧ t.mpt = s.mpt ∧ t.pins = s.pins ∧ t.inReset = s.inReset ∧ t.freeCount = s.freeCount ∧ t.pending = s.pending

/-- The channel's tag, health and sensor records, timers, reply line and count have not changed; its slots and sequencer may have.
-/
def KeepsDevices (s t : State) : Prop :=
  t.erc.tag = s.erc.tag ∧ t.erc.health = s.erc.health ∧ t.erc.sensor = s.erc.sensor ∧ t.erc.pollTimer = s.erc.pollTimer
    ∧ t.erc.replyTimer = s.erc.replyTimer ∧ t.erc.replyLine = s.erc.replyLine ∧ t.erc.lateReply = s.erc.lateReply

/-- The demand reading with its timers, and the derate conditions, have not changed. -/
def KeepsDemandAndDerates (s t : State) : Prop :=
  t.nsp.reading = s.nsp.reading ∧ t.nsp.demandTimer = s.nsp.demandTimer ∧ t.nsp.derates = s.nsp.derates

/-! ## Answers -/

/-- A step answers with a next state: no command stops the station. -/
def Answers (o : Host.Outcome State Fault Refusal) : Prop := ∃ t, o = .next t

end Sys2Proof.Machine
end

