-- ==== Sys2Proof/Laws/Engine.lean ====
section
/-! SUPPORT. The engine state with its claim and fuel order: which shared operations leave them as they are, and that each one that
moves the engine keeps the claim and the fuel order fitting its state (R55, R79). -/

namespace Sys2Proof.Machine

/-- The engine state, whether a claim is present, and the fuel order. -/
def State.drive (s : State) : EngineState × Bool × Bool := (s.ssq.engine, s.cpa.claim.isSome, s.ssq.fuelOrder)

/-- The claim and the fuel order both fit the engine state. -/
def DriveFits (s : State) : Prop := ClaimFitsEngine s ∧ FuelFitsEngine s

/-- Whether they fit is read from the drive alone. -/
theorem DriveFits.of_drive {s t : State} (h : t.drive = s.drive) (hs : DriveFits s) : DriveFits t := by
  simp only [State.drive, Prod.mk.injEq] at h
  obtain ⟨h1, h2, h3⟩ := h
  unfold DriveFits ClaimFitsEngine FuelFitsEngine at *
  rw [h1, h2, h3]; exact hs

/-! ## Operations that leave the drive as it is -/

@[simp] theorem drive_setSlot (c : Client) (v : Slot) (s : State) : (setSlot c v s).drive = s.drive := rfl
@[simp] theorem drive_setReason (r : StopReason) (s : State) : (setReason r s).drive = s.drive := rfl
@[simp] theorem drive_setStep (st : Option Step) (s : State) : (setStep st s).drive = s.drive := rfl
@[simp] theorem drive_endStep (s : State) : (endStep s).drive = s.drive := rfl
@[simp] theorem drive_startWatch (n : Nat) (s : State) : (startWatch n s).drive = s.drive := rfl
@[simp] theorem drive_setOwed (b : Bool) (s : State) : (setOwed b s).drive = s.drive := rfl
@[simp] theorem drive_setCompleted (n : Nat) (s : State) : (setCompleted n s).drive = s.drive := rfl
@[simp] theorem drive_setLink (l : LinkState) (s : State) : (setLink l s).drive = s.drive := rfl
@[simp] theorem drive_setNsp (n : Nsp) (s : State) : State.drive { s with nsp := n } = s.drive := rfl
@[simp] theorem drive_setFcl (f : Fcl) (s : State) : State.drive { s with fcl := f } = s.drive := rfl
@[simp] theorem drive_setErc (e : Erc) (s : State) : State.drive { s with erc := e } = s.drive := rfl
@[simp] theorem drive_setLmn (m : Lmn) (s : State) : State.drive { s with lmn := m } = s.drive := rfl
@[simp] theorem drive_setClc (c : Clc) (s : State) : State.drive { s with clc := c } = s.drive := rfl
@[simp] theorem drive_setEntry (p : Fin 8) (e : Entry) (s : State) : (setEntry p e s).drive = s.drive := rfl
@[simp] theorem drive_endHold (p : Fin 8) (s : State) : (endHold p s).drive = s.drive := rfl

@[simp] theorem drive_raiseFault (k : FaultKind) (s : State) : (raiseFault k s).drive = s.drive := by
  unfold raiseFault; split <;> rfl
@[simp] theorem drive_clearFault (k : FaultKind) (s : State) : (clearFault k s).drive = s.drive := by
  unfold clearFault; split <;> rfl
@[simp] theorem drive_raiseCrankFail (c : Cause) (s : State) : (raiseCrankFail c s).drive = s.drive := by
  simp [raiseCrankFail]
@[simp] theorem drive_grantSlot (c : Client) (s : State) : (grantSlot c s).drive = s.drive := by
  unfold grantSlot; split <;> rfl
@[simp] theorem drive_enterIdle (s : State) : (enterIdle s).drive = s.drive := by
  unfold enterIdle; simp only []; split <;> simp
@[simp] theorem drive_post (c : Client) (r : Request) (s : State) : (post c r s).drive = s.drive := by
  unfold post; simp only []; split <;> simp
@[simp] theorem drive_withdraw (c : Client) (s : State) : (withdraw c s).drive = s.drive := by
  unfold withdraw; split <;> simp
@[simp] theorem drive_notePosted (o : Order) (s : State) : (notePosted o s).drive = s.drive := by
  cases o <;> rfl
@[simp] theorem drive_addSeq (o : Order) (s : State) : (addSeq o s).drive = s.drive := by
  unfold addSeq; split
  · rfl
  · cases o <;> rfl
@[simp] theorem drive_addStopIfHeld (s : State) : (addStopIfHeld s).drive = s.drive := by
  unfold addStopIfHeld; split <;> simp
@[simp] theorem drive_dropStep (s : State) : (dropStep s).drive = s.drive := by simp [dropStep]
@[simp] theorem drive_endWatch (s : State) : (endWatch s).drive = s.drive := by simp [endWatch]
@[simp] theorem drive_nspOnLeave (a b : EngineState) (s : State) : (nspOnLeave a b s).drive = s.drive := by
  unfold nspOnLeave; split
  · split <;> simp
  · split <;> simp
@[simp] theorem drive_idleUpkeep (s : State) : (idleUpkeep s).drive = s.drive := by
  unfold idleUpkeep; repeat' split
  all_goals rfl
@[simp] theorem drive_clearRefusal (n : EngineState) (s : State) : (clearRefusal n s).drive = s.drive := by
  unfold clearRefusal; split <;> simp
@[simp] theorem drive_startRunning (n : EngineState) (s : State) : (startRunning n s).drive = s.drive := by
  unfold startRunning; split <;> simp
@[simp] theorem drive_abandonStep (s : State) : (abandonStep s).drive = s.drive := rfl
@[simp] theorem drive_postSpeed (n : Nat) (s : State) : (postSpeed n s).drive = s.drive := by simp [postSpeed]
@[simp] theorem drive_postLoad (n : Nat) (s : State) : (postLoad n s).drive = s.drive := by simp [postLoad]
@[simp] theorem drive_endRestore (ok : Bool) (s : State) : (endRestore ok s).drive = s.drive := by simp [endRestore]
@[simp] theorem drive_endUpSecond (st : Step) (ok : Bool) (s : State) : (endUpSecond st ok s).drive = s.drive := by
  unfold endUpSecond; simp only []; repeat' split
  all_goals simp
@[simp] theorem drive_endUpFirst (st : Step) (ok : Bool) (s : State) : (endUpFirst st ok s).drive = s.drive := by
  unfold endUpFirst; simp only []; repeat' split
  all_goals simp
@[simp] theorem drive_endDownSecond (st : Step) (ok : Bool) (s : State) : (endDownSecond st ok s).drive = s.drive := by
  unfold endDownSecond; simp only []; split <;> simp
@[simp] theorem drive_endDownFirst (st : Step) (ok : Bool) (s : State) : (endDownFirst st ok s).drive = s.drive := by
  unfold endDownFirst; simp only []; repeat' split
  all_goals simp
@[simp] theorem drive_endRetry (st : Step) (ok : Bool) (s : State) : (endRetry st ok s).drive = s.drive := by
  unfold endRetry; simp only []; split <;> simp
@[simp] theorem drive_notchEnding (e : Ending) (s : State) : (notchEnding e s).drive = s.drive := by
  unfold notchEnding; repeat' split
  all_goals simp
@[simp] theorem drive_startUp (s : State) : (startUp s).drive = s.drive := by
  unfold startUp; simp only []; split <;> simp
@[simp] theorem drive_startDown (s : State) : (startDown s).drive = s.drive := by
  unfold startDown; simp only []; split <;> simp
@[simp] theorem drive_startRetry (s : State) : (startRetry s).drive = s.drive := by
  unfold startRetry; simp only []; split <;> simp
@[simp] theorem drive_stepTest (s : State) : (stepTest s).drive = s.drive := by
  unfold stepTest; repeat' split
  all_goals simp
@[simp] theorem drive_urgentUnload (s : State) : (urgentUnload s).drive = s.drive := by simp [urgentUnload]
@[simp] theorem drive_urgentTest (s : State) : (urgentTest s).drive = s.drive := by
  unfold urgentTest; split <;> simp
@[simp] theorem drive_protectiveSequence (b : Bool) (s : State) : (protectiveSequence b s).drive = s.drive := by
  simp only [protectiveSequence]; exact drive_withdraw .sequence s
@[simp] theorem drive_countAttempt (c : Cause) (s : State) : (countAttempt c s).drive = s.drive := rfl
@[simp] theorem drive_unloadEnding (o : Order) (e : Ending) (s : State) : (unloadEnding o e s).drive = s.drive := by
  unfold unloadEnding; split <;> simp
@[simp] theorem drive_pumpProtect (s : State) : (pumpProtect s).drive = s.drive := by
  unfold pumpProtect; repeat' split
  all_goals first
    | rfl
    | (simp only [drive_post, drive_notePosted]; rfl)
@[simp] theorem drive_linkUpdate (s : State) : (linkUpdate s).drive = s.drive := by
  unfold linkUpdate; split <;> simp
@[simp] theorem drive_disagreeUpkeep (s : State) : (disagreeUpkeep s).drive = s.drive := by
  unfold disagreeUpkeep; repeat' split
  all_goals simp

/-! ## Entering a state -/

/-- The drive after an entry (R55, R57, R79). -/
theorem drive_enter (n : EngineState) (s : State) :
    (enter n s).drive
      = (n, (claimOnEnter s.ssq.engine n s.cpa.claim).isSome, s.ssq.fuelOrder && n.keepsFuel) := by
  have h : (nspOnLeave s.ssq.engine n s).drive = s.drive := drive_nspOnLeave _ _ _
  simp only [State.drive, Prod.mk.injEq] at h
  obtain ⟨-, -, h3⟩ := h
  have hc : (nspOnLeave s.ssq.engine n s).cpa = s.cpa := by
    unfold nspOnLeave dropStep endWatch withdraw clearFault
    repeat' split
    all_goals rfl
  unfold enter
  simp only [drive_startRunning, drive_clearRefusal]
  simp only [State.drive, hc, Prod.mk.injEq, true_and]
  rw [← h3]; cases n <;> rfl

/-- The engine state after an entry. -/
@[simp] theorem engine_enter (n : EngineState) (s : State) : (enter n s).ssq.engine = n :=
  congrArg Prod.fst (drive_enter n s)

/-- An entry keeps the drive fitting: PRELUBE and CRANKING are entered with a claim held. -/
theorem fits_enter {n : EngineState} {s : State} (hs : DriveFits s)
    (hn : n = .prelube ∨ n = .cranking → s.ssq.engine.claims = true) : DriveFits (enter n s) := by
  have h := drive_enter n s
  simp only [State.drive, Prod.mk.injEq] at h
  obtain ⟨h1, h2, h3⟩ := h
  have hc : s.cpa.claim.isSome = s.ssq.engine.claims := hs.1
  refine ⟨?_, ?_⟩
  · unfold ClaimFitsEngine
    rw [h2, h1]
    cases n <;> simp only [claimOnEnter, EngineState.claims, Option.isSome_none]
    · split
      · next hp => rw [hc, hp]; rfl
      · rfl
    · rw [hc]; exact hn (Or.inl rfl)
    · rw [hc]; exact hn (Or.inr rfl)
  · unfold FuelFitsEngine
    rw [h3, h1]
    cases n <;> simp [EngineState.keepsFuel, EngineState.mayFuel]

/-- Fuel cleared keeps the drive fitting. -/
theorem fits_clearFuel {s : State} (hs : DriveFits s) : DriveFits (clearFuel s) := by
  refine ⟨hs.1, ?_⟩
  intro h
  exact absurd h Bool.false_ne_true

end Sys2Proof.Machine
end

