-- ==== Sys2Proof/Laws/Frame.lean ====
section
/-! SUPPORT. What the shared operations of the deciding blocks leave unchanged: for each one, one lemma that says it keeps
`State.outer`, the state outside SSQ, NSP, CPA's claim, ERC's slots and FCL. -/

namespace Sys2Proof.Machine

/-- What no shared operation of SSQ, NSP, CPA or FCL touches: link but for its state, table, phantom holds, inputs,
configuration and port, pins, reset, free values and queue. -/
structure Outer where
  clc : Clc
  table : PerPosition Entry
  holds : PerPosition Timer
  lmn : Lmn
  mpt : Mpt
  pins : Pins
  inReset : Bool
  freeCount : Nat
  pending : List Instr

/-- The outer part of a state. -/
def State.outer (s : State) : Outer :=
  ⟨{ s.clc with linkState := .config }, s.table, s.cpa.holds, s.lmn, s.mpt, s.pins, s.inReset, s.freeCount, s.pending⟩

/-! ## Setters -/

@[simp] theorem outer_setSlot (c : Client) (v : Slot) (s : State) : (setSlot c v s).outer = s.outer := rfl
@[simp] theorem outer_setReason (r : StopReason) (s : State) : (setReason r s).outer = s.outer := rfl
@[simp] theorem outer_clearFuel (s : State) : (clearFuel s).outer = s.outer := rfl
@[simp] theorem outer_setStep (st : Option Step) (s : State) : (setStep st s).outer = s.outer := rfl
@[simp] theorem outer_endStep (s : State) : (endStep s).outer = s.outer := rfl
@[simp] theorem outer_startWatch (n : Nat) (s : State) : (startWatch n s).outer = s.outer := rfl
@[simp] theorem outer_setOwed (b : Bool) (s : State) : (setOwed b s).outer = s.outer := rfl
@[simp] theorem outer_setCompleted (n : Nat) (s : State) : (setCompleted n s).outer = s.outer := rfl
@[simp] theorem outer_setLink (l : LinkState) (s : State) : (setLink l s).outer = s.outer := rfl
@[simp] theorem outer_setSsq (q : Ssq) (s : State) : State.outer { s with ssq := q } = s.outer := rfl
@[simp] theorem outer_setNsp (n : Nsp) (s : State) : State.outer { s with nsp := n } = s.outer := rfl
@[simp] theorem outer_setFcl (f : Fcl) (s : State) : State.outer { s with fcl := f } = s.outer := rfl
@[simp] theorem outer_setErc (e : Erc) (s : State) : State.outer { s with erc := e } = s.outer := rfl
@[simp] theorem outer_setSsqNsp (q : Ssq) (n : Nsp) (s : State) : State.outer { s with ssq := q, nsp := n } = s.outer := rfl

/-! ## Fault Collector -/

@[simp] theorem outer_raiseFault (k : FaultKind) (s : State) : (raiseFault k s).outer = s.outer := by
  unfold raiseFault; split <;> rfl
@[simp] theorem outer_clearFault (k : FaultKind) (s : State) : (clearFault k s).outer = s.outer := by
  unfold clearFault; split <;> rfl
@[simp] theorem outer_raiseCrankFail (c : Cause) (s : State) : (raiseCrankFail c s).outer = s.outer := by
  simp [raiseCrankFail]
@[simp] theorem outer_faultResetFaults (s : State) : (faultResetFaults s).outer = s.outer := rfl

/-! ## Slots and lists -/

@[simp] theorem outer_grantSlot (c : Client) (s : State) : (grantSlot c s).outer = s.outer := by
  unfold grantSlot; split <;> rfl
@[simp] theorem outer_enterIdle (s : State) : (enterIdle s).outer = s.outer := by
  unfold enterIdle; simp only []; split <;> simp
@[simp] theorem outer_post (c : Client) (r : Request) (s : State) : (post c r s).outer = s.outer := by
  unfold post; simp only []; split <;> simp
@[simp] theorem outer_withdraw (c : Client) (s : State) : (withdraw c s).outer = s.outer := by
  unfold withdraw; split <;> simp
@[simp] theorem outer_notePosted (o : Order) (s : State) : (notePosted o s).outer = s.outer := by
  cases o <;> rfl
@[simp] theorem outer_addSeq (o : Order) (s : State) : (addSeq o s).outer = s.outer := by
  unfold addSeq; split
  · rfl
  · cases o <;> rfl
@[simp] theorem outer_addStopIfHeld (s : State) : (addStopIfHeld s).outer = s.outer := by
  unfold addStopIfHeld; split <;> simp

/-! ## Entering a state -/

@[simp] theorem outer_dropStep (s : State) : (dropStep s).outer = s.outer := by simp [dropStep]
@[simp] theorem outer_endWatch (s : State) : (endWatch s).outer = s.outer := by simp [endWatch]
@[simp] theorem outer_nspOnLeave (a b : EngineState) (s : State) : (nspOnLeave a b s).outer = s.outer := by
  unfold nspOnLeave; split
  · split <;> simp
  · split <;> simp
@[simp] theorem outer_idleUpkeep (s : State) : (idleUpkeep s).outer = s.outer := by
  unfold idleUpkeep; repeat' split
  all_goals simp
@[simp] theorem outer_clearRefusal (n : EngineState) (s : State) : (clearRefusal n s).outer = s.outer := by
  unfold clearRefusal; split <;> simp
@[simp] theorem outer_startRunning (n : EngineState) (s : State) : (startRunning n s).outer = s.outer := by
  unfold startRunning; split <;> simp
@[simp] theorem outer_enter (n : EngineState) (s : State) : (enter n s).outer = s.outer := by
  unfold enter; simp only [outer_startRunning, outer_clearRefusal]
  exact outer_nspOnLeave s.ssq.engine n s

/-! ## Steps -/

@[simp] theorem outer_abandonStep (s : State) : (abandonStep s).outer = s.outer := rfl
@[simp] theorem outer_postSpeed (n : Nat) (s : State) : (postSpeed n s).outer = s.outer := by simp [postSpeed]
@[simp] theorem outer_postLoad (n : Nat) (s : State) : (postLoad n s).outer = s.outer := by simp [postLoad]
@[simp] theorem outer_endRestore (ok : Bool) (s : State) : (endRestore ok s).outer = s.outer := by simp [endRestore]
@[simp] theorem outer_endUpSecond (st : Step) (ok : Bool) (s : State) : (endUpSecond st ok s).outer = s.outer := by
  unfold endUpSecond; simp only []; repeat' split
  all_goals simp
@[simp] theorem outer_endUpFirst (st : Step) (ok : Bool) (s : State) : (endUpFirst st ok s).outer = s.outer := by
  unfold endUpFirst; simp only []; repeat' split
  all_goals simp
@[simp] theorem outer_endDownSecond (st : Step) (ok : Bool) (s : State) : (endDownSecond st ok s).outer = s.outer := by
  unfold endDownSecond; simp only []; split <;> simp
@[simp] theorem outer_endDownFirst (st : Step) (ok : Bool) (s : State) : (endDownFirst st ok s).outer = s.outer := by
  unfold endDownFirst; simp only []; repeat' split
  all_goals simp
@[simp] theorem outer_endRetry (st : Step) (ok : Bool) (s : State) : (endRetry st ok s).outer = s.outer := by
  unfold endRetry; simp only []; split <;> simp
@[simp] theorem outer_notchEnding (e : Ending) (s : State) : (notchEnding e s).outer = s.outer := by
  unfold notchEnding; repeat' split
  all_goals simp
@[simp] theorem outer_startUp (s : State) : (startUp s).outer = s.outer := by
  unfold startUp; simp only []; split <;> simp
@[simp] theorem outer_startDown (s : State) : (startDown s).outer = s.outer := by
  unfold startDown; simp only []; split <;> simp
@[simp] theorem outer_startRetry (s : State) : (startRetry s).outer = s.outer := by
  unfold startRetry; simp only []; split <;> simp
@[simp] theorem outer_stepTest (s : State) : (stepTest s).outer = s.outer := by
  unfold stepTest; repeat' split
  all_goals simp
@[simp] theorem outer_urgentUnload (s : State) : (urgentUnload s).outer = s.outer := by simp [urgentUnload]
@[simp] theorem outer_urgentTest (s : State) : (urgentTest s).outer = s.outer := by
  unfold urgentTest; split <;> simp

/-! ## Start Sequencer -/

@[simp] theorem outer_startRequest (s : State) : (startRequest s).outer = s.outer := by
  unfold startRequest; repeat' split
  all_goals simp
@[simp] theorem outer_triggerTest (s : State) : (triggerTest s).outer = s.outer := by
  unfold triggerTest; repeat' split
  all_goals simp
@[simp] theorem outer_enterStopped (s : State) : (enterStopped s).outer = s.outer := by simp [enterStopped]
@[simp] theorem outer_shutdownEnd (s : State) : (shutdownEnd s).outer = s.outer := by
  unfold shutdownEnd; split <;> simp
@[simp] theorem outer_enterShutdown (s : State) : (enterShutdown s).outer = s.outer := by
  unfold enterShutdown; simp only []; split <;> simp
@[simp] theorem outer_enterIdleWarm (s : State) : (enterIdleWarm s).outer = s.outer := by
  unfold enterIdleWarm; simp only []; split <;> simp
@[simp] theorem outer_protectiveSequence (b : Bool) (s : State) : (protectiveSequence b s).outer = s.outer := by
  simp [protectiveSequence]
@[simp] theorem outer_protectiveShutdown (s : State) : (protectiveShutdown s).outer = s.outer := by
  simp [protectiveShutdown]
@[simp] theorem outer_stall (s : State) : (stall s).outer = s.outer := by simp [stall]
@[simp] theorem outer_starterStuck (s : State) : (starterStuck s).outer = s.outer := by
  unfold starterStuck; simp only []; split <;> simp
@[simp] theorem outer_prelubeFail (s : State) : (prelubeFail s).outer = s.outer := by simp [prelubeFail]
@[simp] theorem outer_enterCrankRest (s : State) : (enterCrankRest s).outer = s.outer := by simp [enterCrankRest]
@[simp] theorem outer_countAttempt (c : Cause) (s : State) : (countAttempt c s).outer = s.outer := rfl
@[simp] theorem outer_failedAttempt (c : Cause) (s : State) : (failedAttempt c s).outer = s.outer := by
  unfold failedAttempt; simp only []; repeat' split
  all_goals simp
@[simp] theorem outer_stopToCooldown (s : State) : (stopToCooldown s).outer = s.outer := by
  unfold stopToCooldown; repeat' split
  all_goals simp
@[simp] theorem outer_stopRequest (s : State) : (stopRequest s).outer = s.outer := by
  unfold stopRequest; split <;> simp
@[simp] theorem outer_autostopTest (s : State) : (autostopTest s).outer = s.outer := by
  unfold autostopTest; split <;> simp
@[simp] theorem outer_contention (s : State) : (contention s).outer = s.outer := by
  unfold contention; repeat' split
  all_goals simp
@[simp] theorem outer_ssqSag (s : State) : (ssqSag s).outer = s.outer := by
  unfold ssqSag; split <;> simp
@[simp] theorem outer_ssqSilence (s : State) : (ssqSilence s).outer = s.outer := by
  unfold ssqSilence; repeat' split
  all_goals simp
@[simp] theorem outer_ssqGate (r : Nat) (s : State) : (ssqGate r s).outer = s.outer := by
  unfold ssqGate; repeat' split
  all_goals simp
@[simp] theorem outer_ssqOverspeed (s : State) : (ssqOverspeed s).outer = s.outer := by
  unfold ssqOverspeed; simp only []; split <;> simp
@[simp] theorem outer_ssqSensorUpdate (s : State) : (ssqSensorUpdate s).outer = s.outer := by
  unfold ssqSensorUpdate; simp only [outer_triggerTest, outer_autostopTest]; repeat' split
  all_goals simp
@[simp] theorem outer_ssqDeviceFailed (d : Device) (s : State) : (ssqDeviceFailed d s).outer = s.outer := by
  cases d <;> simp only [ssqDeviceFailed] <;> (try split) <;> simp
@[simp] theorem outer_oilOk (s : State) : (oilOk s).outer = s.outer := by
  unfold oilOk; split <;> simp
@[simp] theorem outer_engageAccepted (s : State) : (engageAccepted s).outer = s.outer := rfl
@[simp] theorem outer_disengageAnswered (e : Ending) (s : State) : (disengageAnswered e s).outer = s.outer := by
  unfold disengageAnswered; split <;> simp
@[simp] theorem outer_seqEnding (o : Order) (e : Ending) (s : State) : (seqEnding o e s).outer = s.outer := by
  unfold seqEnding; repeat' split
  all_goals simp
@[simp] theorem outer_addProtDisengage (s : State) : (addProtDisengage s).outer = s.outer := rfl
@[simp] theorem outer_protEnding (o : Order) (e : Ending) (s : State) : (protEnding o e s).outer = s.outer := by
  unfold protEnding; repeat' split
  all_goals simp
@[simp] theorem outer_unloadEnding (o : Order) (e : Ending) (s : State) : (unloadEnding o e s).outer = s.outer := by
  unfold unloadEnding; split <;> simp
@[simp] theorem outer_pumpProtect (s : State) : (pumpProtect s).outer = s.outer := by
  unfold pumpProtect; repeat' split
  all_goals simp
@[simp] theorem outer_pumpSequence (s : State) : (pumpSequence s).outer = s.outer := by
  unfold pumpSequence; simp only []; repeat' split
  all_goals simp

/-! ## The reaction -/

@[simp] theorem outer_grantTest (s : State) : (grantTest s).outer = s.outer := by
  unfold grantTest; split <;> simp [grantPermit]
@[simp] theorem outer_linkUpdate (s : State) : (linkUpdate s).outer = s.outer := by
  unfold linkUpdate; split <;> simp
@[simp] theorem outer_disagreeUpkeep (s : State) : (disagreeUpkeep s).outer = s.outer := by
  unfold disagreeUpkeep; repeat' split
  all_goals simp
@[simp] theorem outer_yieldPermit (s : State) : (yieldPermit s).outer = s.outer := by
  unfold yieldPermit; simp only []; split <;> first
    | rfl
    | (simp only [outer_enter, outer_addSeq, outer_enterCrankRest]; rfl)
@[simp] theorem outer_clashTest (s : State) : (clashTest s).outer = s.outer := by
  unfold clashTest; split <;> simp
@[simp] theorem outer_postOrders (old s : State) : (postOrders old s).outer = s.outer := by
  unfold postOrders; simp only []; split <;> simp
@[simp] theorem outer_decideBlocks (old s : State) : (decideBlocks old s).outer = s.outer := by
  unfold decideBlocks; simp only []; repeat' split
  all_goals simp

/-- The blocks' reaction to an event leaves the table, the phantom holds, the inputs, the configuration and port, the pins, the
queue, and of the link all but its state, as the event left them. -/
@[simp] theorem outer_react (old s : State) : (react old s).outer = s.outer := by simp [react]

/-! ## The engine-room channel -/

@[simp] theorem outer_setHealth (d : Device) (h : Health) (s : State) : (setHealth d h s).outer = s.outer := rfl
@[simp] theorem outer_setRecordState (r : RecordState) (s : State) : (setRecordState r s).outer = s.outer := rfl
@[simp] theorem outer_nspDeviceFailed (d : Device) (s : State) : (nspDeviceFailed d s).outer = s.outer := by
  cases d <;> simp [nspDeviceFailed, stopDerateTimers]
@[simp] theorem outer_becomeFailed (d : Device) (s : State) : (becomeFailed d s).outer = s.outer := by
  unfold becomeFailed; simp only []; split <;> simp
@[simp] theorem outer_changeHealth (d : Device) (h : Health) (s : State) : (changeHealth d h s).outer = s.outer := by
  unfold changeHealth; simp only []; repeat' split
  all_goals simp
@[simp] theorem outer_sensorsReturn (old s : State) : (sensorsReturn old s).outer = s.outer := by
  unfold sensorsReturn; split <;> simp
@[simp] theorem outer_healthStep (t : Transaction) (e : Ending) (s : State) : (healthStep t e s).outer = s.outer := by
  unfold healthStep; simp only []; repeat' split
  all_goals simp
@[simp] theorem outer_sensorStep (t : Transaction) (e : Ending) (s : State) : (sensorStep t e s).outer = s.outer := by
  unfold sensorStep; repeat' split
  all_goals simp [sensorUpdate, updateDerates]
@[simp] theorem outer_clientEnding (t : Transaction) (e : Ending) (s : State) : (clientEnding t e s).outer = s.outer := by
  unfold clientEnding; simp only []; repeat' split
  all_goals simp

/-- The ending of a transaction leaves everything outside the channel and the blocks it reaches as it was. -/
@[simp] theorem outer_transactionEnd (e : Ending) (s : State) : (transactionEnd e s).outer = s.outer := by
  unfold transactionEnd; split <;> simp

@[simp] theorem outer_replyQuiet (s : State) : (replyQuiet s).outer = s.outer := rfl
@[simp] theorem outer_countLateReply (s : State) : (countLateReply s).outer = s.outer := rfl
/-- A reply taken leaves everything outside the channel and the blocks it reaches as it was. -/
@[simp] theorem outer_takeReply (ws : List WireOctet) (s : State) : (takeReply ws s).outer = s.outer := by
  unfold takeReply; repeat' split
  all_goals simp

@[simp] theorem outer_ercFaultReset (s : State) : (ercFaultReset s).outer = s.outer := by simp [ercFaultReset]
@[simp] theorem outer_ssqFaultReset (s : State) : (ssqFaultReset s).outer = s.outer := by
  unfold ssqFaultReset; split <;> simp
/-- A fault reset leaves everything outside the channel, the Start Sequencer, the Notch Stepper and the Fault Collector. -/
@[simp] theorem outer_faultReset (s : State) : (faultReset s).outer = s.outer := by simp [faultReset]

/-! ## The refreshes of a record -/

/-- A refresh of an entry leaves outside the deciding blocks what the entry set and the hold ended leave. -/
theorem outer_refreshEntry (p : Fin 8) (e : Entry) (s : State) :
    (refreshEntry p e s).outer = (endHold p (setEntry p e s)).outer := by simp [refreshEntry]

/-- A refresh sets its entry and ends its hold, and leaves the configuration. -/
theorem refreshEntry_keeps (p : Fin 8) (e : Entry) (s : State) :
    (refreshEntry p e s).table = s.table.set p e ∧ (refreshEntry p e s).cpa.holds = s.cpa.holds.set p none ∧
    (refreshEntry p e s).mpt = s.mpt ∧ (refreshEntry p e s).lmn = s.lmn := by
  have o := outer_refreshEntry p e s
  simp only [State.outer, Outer.mk.injEq] at o
  obtain ⟨_, ht, hh, hl, hm, _⟩ := o
  exact ⟨ht, hh, hm, hl⟩

/-- A refresh sets the entry of its position. -/
theorem refreshEntry_entry (p : Fin 8) (e : Entry) (s : State) : (refreshEntry p e s).entry p = e := by
  simp [State.entry, (refreshEntry_keeps p e s).1]

/-- A refresh leaves the entries of the other positions. -/
theorem refreshEntry_entry_ne {p q : Fin 8} (e : Entry) (s : State) (h : q ≠ p) : (refreshEntry p e s).entry q = s.entry q := by
  simp [State.entry, (refreshEntry_keeps p e s).1, PerPosition.get_set_ne _ _ h]

/-- What a summary can do: nothing, or one refresh of its origin's entry. -/
theorem relayedRefresh_cases (v : Fin 8) (m : Summary) (s : State) :
    relayedRefresh v m s = s ∨ relayedRefresh v m s = refreshEntry m.origin ((s.entry m.origin).relayed v m) s := by
  unfold relayedRefresh; simp only []; split
  · exact Or.inl rfl
  · split
    · exact Or.inr rfl
    · exact Or.inl rfl

/-! ## The end of an own record -/

@[simp] theorem outer_leaveChecking (s : State) : (leaveChecking s).outer = s.outer := by
  unfold leaveChecking; split <;> simp
/-- A CHECK record sent completely leaves outside the deciding blocks what its counts leave. -/
theorem outer_checkSent (b : Bool) (s : State) : (checkSent b s).outer = (countCheckSent b (stopSending s)).outer := by
  unfold checkSent; simp only []; split <;> simp

/-- What the end of an own record can do: nothing while none is being sent, the end of a STATUS or NOTICE, or a CHECK record sent
completely. -/
theorem finishSending_cases (s : State) :
    finishSending s = s ∨ finishSending s = setTx .idle s ∨ ∃ b, finishSending s = checkSent b s := by
  unfold finishSending; split
  · split
    · exact Or.inr (Or.inr ⟨_, rfl⟩)
    · exact Or.inr (Or.inl rfl)
  · exact Or.inl rfl

/-- With no CHECK record on the pair, the end of sending touches the sending side alone. -/
theorem finishSending_of_no_check {s : State} (h : s.sendsCheck = false) :
    finishSending s = s ∨ finishSending s = setTx .idle s := by
  unfold State.sendsCheck at h; unfold finishSending
  split
  · rename_i r hr
    split
    · rename_i b hb; simp [hr, hb] at h
    · exact Or.inr rfl
  · exact Or.inl rfl

/-- The end of an own record leaves table, holds, inputs, configuration, pins, reset, free values and queue, and the window, the
cycle and the counters of the link. -/
theorem finishSending_keeps (s : State) :
    (finishSending s).table = s.table ∧ (finishSending s).cpa.holds = s.cpa.holds ∧ (finishSending s).lmn = s.lmn ∧
    (finishSending s).mpt = s.mpt ∧ (finishSending s).pins = s.pins ∧ (finishSending s).inReset = s.inReset ∧
    (finishSending s).freeCount = s.freeCount ∧ (finishSending s).pending = s.pending ∧
    (finishSending s).clc.counters = s.clc.counters ∧ (finishSending s).clc.windowIndex = s.clc.windowIndex ∧
    (finishSending s).clc.windowTimer = s.clc.windowTimer ∧ (finishSending s).clc.cycleCount = s.clc.cycleCount ∧
    (finishSending s).clc.repeatMark = s.clc.repeatMark := by
  rcases finishSending_cases s with h | h | ⟨b, h⟩
  · simp [h]
  · simp [h]
  · rw [h]
    have o := outer_checkSent b s
    simp only [State.outer, Outer.mk.injEq] at o
    obtain ⟨c, ht, hh, hl, hm, hp, hi, hf, hq⟩ := o
    have k {α : Type} (f : Clc → α) := congrArg f c
    exact ⟨ht, hh, hl, hm, hp, hi, hf, hq, k Clc.counters, k Clc.windowIndex, k Clc.windowTimer, k Clc.cycleCount,
      k Clc.repeatMark⟩

/-- Once the pair is quiet, reception is taken up and nothing keeps the pair busy. -/
theorem pairQuiet_quiet (s : State) : (pairQuiet s).clc.reception = .ready ∧ (pairQuiet s).pairBusy = false := ⟨rfl, rfl⟩

/-! ## Reading the outer part -/

/-- States of one outer part agree in each of its fields. -/
theorem outer_eq_iff (s t : State) : s.outer = t.outer ↔
    { s.clc with linkState := .config } = { t.clc with linkState := .config } ∧ s.table = t.table ∧
    s.cpa.holds = t.cpa.holds ∧ s.lmn = t.lmn ∧ s.mpt = t.mpt ∧ s.pins = t.pins ∧ s.inReset = t.inReset ∧
    s.freeCount = t.freeCount ∧ s.pending = t.pending := by
  simp only [State.outer, Outer.mk.injEq]

end Sys2Proof.Machine
end

