-- ==== Sys2Proof/Laws/Drive.lean ====
section
/-! SUPPORT. The Start Sequencer's and the arbiter's operations keep the claim and the fuel order fitting the engine state (R55,
R79), up to the blocks' one reaction. -/

namespace Sys2Proof.Machine

/-- An entry to any state but PRELUBE and CRANKING. -/
theorem fits_enter_other {n : EngineState} {s : State} (hn : n ≠ .prelube ∧ n ≠ .cranking) (hs : DriveFits s) :
    DriveFits (enter n s) :=
  fits_enter hs (fun h => h.elim (fun h => absurd h hn.1) (fun h => absurd h hn.2))

theorem fits_setReason {r : StopReason} {s : State} (hs : DriveFits s) : DriveFits (setReason r s) :=
  hs.of_drive rfl
theorem fits_addSeq {o : Order} {s : State} (hs : DriveFits s) : DriveFits (addSeq o s) := hs.of_drive (by simp)
theorem fits_addStopIfHeld {s : State} (hs : DriveFits s) : DriveFits (addStopIfHeld s) := hs.of_drive (by simp)
theorem fits_raiseFault {k : FaultKind} {s : State} (hs : DriveFits s) : DriveFits (raiseFault k s) := hs.of_drive (by simp)
theorem fits_clearFault {k : FaultKind} {s : State} (hs : DriveFits s) : DriveFits (clearFault k s) := hs.of_drive (by simp)
theorem fits_raiseCrankFail {c : Cause} {s : State} (hs : DriveFits s) : DriveFits (raiseCrankFail c s) :=
  hs.of_drive (by simp)
theorem fits_protectiveSequence {b : Bool} {s : State} (hs : DriveFits s) : DriveFits (protectiveSequence b s) :=
  hs.of_drive (by simp)

theorem fits_startRequest {s : State} (hs : DriveFits s) : DriveFits (startRequest s) := by
  unfold startRequest
  repeat' split
  · exact fits_enter_other (by decide) hs
  · exact fits_raiseFault hs
  · exact fits_setReason (fits_enter_other (by decide) hs)
  · exact hs

theorem fits_triggerTest {s : State} (hs : DriveFits s) : DriveFits (triggerTest s) := by
  unfold triggerTest
  repeat' split
  · exact fits_startRequest hs
  · exact fits_setReason (fits_enter_other (by decide) hs)
  · exact hs
  · exact hs

theorem fits_enterStopped {s : State} (hs : DriveFits s) : DriveFits (enterStopped s) :=
  fits_triggerTest (fits_enter_other (by decide) hs)

theorem fits_shutdownEnd {s : State} (hs : DriveFits s) : DriveFits (shutdownEnd s) := by
  unfold shutdownEnd
  split
  · exact fits_enter_other (by decide) hs
  · exact fits_enterStopped hs

theorem fits_enterShutdown {s : State} (hs : DriveFits s) : DriveFits (enterShutdown s) := by
  unfold enterShutdown
  simp only []
  split
  · exact fits_shutdownEnd (fits_enter_other (by decide) hs)
  · exact fits_enter_other (by decide) hs

theorem fits_enterIdleWarm {s : State} (hs : DriveFits s) : DriveFits (enterIdleWarm s) := by
  unfold enterIdleWarm
  simp only []
  split
  · exact fits_enter_other (by decide) (fits_enter_other (by decide) hs)
  · exact fits_enter_other (by decide) hs

theorem fits_protectiveShutdown {s : State} (hs : DriveFits s) : DriveFits (protectiveShutdown s) :=
  fits_enterShutdown (fits_setReason (fits_protectiveSequence (fits_clearFuel hs)))

theorem fits_stall {s : State} (hs : DriveFits s) : DriveFits (stall s) := fits_protectiveShutdown (fits_raiseFault hs)

theorem fits_starterStuck {s : State} (hs : DriveFits s) : DriveFits (starterStuck s) := by
  have h : DriveFits (protectiveSequence true (clearFuel (raiseFault .starterStuck s))) :=
    fits_protectiveSequence (fits_clearFuel (fits_raiseFault hs))
  unfold starterStuck
  simp only []
  split
  · exact h
  · exact fits_enter_other (by decide) h

theorem fits_prelubeFail {s : State} (hs : DriveFits s) : DriveFits (prelubeFail s) :=
  fits_enterStopped (fits_setReason (fits_addSeq (fits_raiseFault hs)))

theorem fits_enterCrankRest {s : State} (hs : DriveFits s) : DriveFits (enterCrankRest s) :=
  fits_addStopIfHeld (fits_enter_other (by decide) hs)

theorem fits_countAttempt {c : Cause} {s : State} (hs : DriveFits s) : DriveFits (countAttempt c s) := hs.of_drive rfl

theorem fits_failedAttempt {c : Cause} {s : State} (hs : DriveFits s) : DriveFits (failedAttempt c s) := by
  have h : ∀ u, DriveFits u → DriveFits (raiseCrankFail c (countAttempt c (addStopIfHeld u))) :=
    fun u hu => fits_raiseCrankFail (fits_countAttempt (fits_addStopIfHeld hu))
  unfold failedAttempt
  simp only []
  have h2 : DriveFits (if s.ssq.engine = .cranking then addSeq .disengage s else s) := by
    split
    · exact fits_addSeq hs
    · exact hs
  generalize (if s.ssq.engine = .cranking then addSeq .disengage s else s) = u at h2 ⊢
  split
  · exact fits_enter_other (by decide) (fits_raiseFault (h _ h2))
  · exact fits_enterCrankRest (h _ h2)

theorem fits_stopToCooldown {s : State} (hs : DriveFits s) : DriveFits (stopToCooldown s) := by
  unfold stopToCooldown
  repeat' split
  all_goals first
    | exact hs
    | exact fits_setReason (fits_enter_other (by decide) hs)

theorem fits_stopRequest {s : State} (hs : DriveFits s) : DriveFits (stopRequest s) := by
  unfold stopRequest
  split
  · exact fits_setReason hs
  · exact fits_setReason hs
  · exact fits_setReason hs
  · exact fits_enterStopped (fits_setReason hs)
  · exact fits_enterStopped (fits_setReason hs)
  · exact fits_enterStopped (fits_setReason (fits_addSeq hs))
  · exact fits_enterShutdown (fits_setReason (fits_addSeq (fits_addSeq (fits_addSeq hs))))
  · exact fits_enterShutdown (fits_setReason (fits_addSeq hs))
  · exact fits_setReason (fits_enter_other (by decide) hs)
  · exact fits_stopToCooldown (hs.of_drive rfl)
  · exact hs

theorem fits_autostopTest {s : State} (hs : DriveFits s) : DriveFits (autostopTest s) := by
  unfold autostopTest
  split
  · exact fits_setReason (fits_enter_other (by decide) hs)
  · exact hs

theorem fits_contention {s : State} (hs : DriveFits s) : DriveFits (contention s) := by
  unfold contention
  repeat' split
  · exact fits_setReason (fits_enter_other (by decide) hs)
  · exact hs
  · exact hs

theorem fits_ssqSag {s : State} (hs : DriveFits s) : DriveFits (ssqSag s) := by
  unfold ssqSag
  split
  · exact fits_failedAttempt hs
  · exact hs

theorem fits_ssqSilence {s : State} (hs : DriveFits s) : DriveFits (ssqSilence s) := by
  unfold ssqSilence
  repeat' split
  · exact hs.of_drive rfl
  · exact fits_enter_other (by decide) hs
  · exact hs
  · exact fits_failedAttempt hs
  · exact fits_stall hs
  · exact fits_stall hs
  · exact fits_stall hs
  · exact fits_shutdownEnd hs
  · exact hs

theorem fits_ssqGate {r : Nat} {s : State} (hs : DriveFits s) : DriveFits (ssqGate r s) := by
  unfold ssqGate
  repeat' split
  all_goals first
    | exact hs
    | exact hs.of_drive rfl
    | exact fits_enterIdleWarm (fits_addSeq hs)
    | exact fits_stall hs

theorem fits_ssqOverspeed {s : State} (hs : DriveFits s) : DriveFits (ssqOverspeed s) := by
  have h : DriveFits { raiseFault .overspeed s with ssq := { (raiseFault .overspeed s).ssq with overspeedMark := true } } :=
    (fits_raiseFault (k := .overspeed) hs).of_drive rfl
  unfold ssqOverspeed
  simp only []
  split
  · exact fits_enter_other (by decide) (fits_setReason h)
  · exact fits_enter_other (by decide) (fits_setReason h)
  · exact h
  · exact h
  · exact fits_protectiveShutdown h

theorem fits_ssqSensorUpdate {s : State} (hs : DriveFits s) : DriveFits (ssqSensorUpdate s) := by
  unfold ssqSensorUpdate
  simp only []
  apply fits_triggerTest
  apply fits_autostopTest
  repeat' split
  · exact fits_protectiveShutdown (fits_raiseFault hs)
  · exact fits_enter_other (by decide) hs
  · exact hs

theorem fits_ssqDeviceFailed {d : Device} {s : State} (hs : DriveFits s) : DriveFits (ssqDeviceFailed d s) := by
  cases d <;> simp only [ssqDeviceFailed]
  · split
    · exact hs
    · exact fits_protectiveShutdown hs
  · split
    · exact fits_starterStuck hs
    · exact hs
  · split
    · exact fits_prelubeFail hs
    · exact hs
  · exact hs
  · exact hs

theorem fits_oilOk {s : State} (he : s.ssq.engine = .prelube) (hs : DriveFits s) : DriveFits (oilOk s) := by
  unfold oilOk
  split
  · exact fits_protectiveShutdown hs
  · exact fits_addSeq (fits_enter hs (fun _ => by rw [he]; rfl))

theorem fits_engageAccepted {s : State} (he : s.ssq.engine = .cranking) (hs : DriveFits s) :
    DriveFits (engageAccepted s) := by
  refine ⟨hs.1, fun _ => ?_⟩
  show s.ssq.engine.mayFuel = true
  rw [he]; rfl

theorem fits_disengageAnswered {e : Ending} {s : State} (hs : DriveFits s) : DriveFits (disengageAnswered e s) := by
  unfold disengageAnswered
  split
  · exact hs.of_drive rfl
  · exact fits_starterStuck hs
  · exact hs

theorem fits_seqEnding {o : Order} {e : Ending} {s : State} (hs : DriveFits s) : DriveFits (seqEnding o e s) := by
  unfold seqEnding
  split
  · split
    · exact hs.of_drive rfl
    · exact hs
  · split
    · split
      · next h => exact fits_oilOk (of_decide_eq_true (by simp only [Bool.and_eq_true] at h; exact h.2)) hs
      · exact hs
    · exact hs
  · split
    · next h =>
      split
      · exact fits_engageAccepted h hs
      · exact fits_failedAttempt hs
    · exact hs
  · split
    · exact fits_addSeq hs
    · exact fits_disengageAnswered hs
  · exact hs

theorem fits_protEnding {o : Order} {e : Ending} {s : State} (hs : DriveFits s) : DriveFits (protEnding o e s) := by
  unfold protEnding
  repeat' split
  · exact hs.of_drive rfl
  · exact fits_disengageAnswered hs
  · exact fits_seqEnding hs

theorem fits_pumpSequence {s : State} (hs : DriveFits s) : DriveFits (pumpSequence s) := by
  unfold pumpSequence
  simp only []
  repeat' split
  · apply fits_seqEnding
    refine hs.of_drive ?_
    simp only [drive_notePosted]; rfl
  · refine hs.of_drive ?_
    simp only [drive_post, drive_notePosted]; rfl
  · exact hs
  · exact hs

theorem fits_grantTest {s : State} (hs : DriveFits s) : DriveFits (grantTest s) := by
  unfold grantTest
  split
  · next h =>
    have he : s.ssq.engine = .claiming := of_decide_eq_true (by simp only [Bool.and_eq_true] at h; exact h.1)
    exact fits_addSeq (fits_enter hs (fun _ => by rw [he]; rfl))
  · exact hs

theorem fits_clashTest {s : State} (hs : DriveFits s) : DriveFits (clashTest s) := by
  have h : DriveFits { s with cpa := { s.cpa with permitClash := sat16 s.cpa.permitClash } } := hs.of_drive rfl
  unfold clashTest yieldPermit
  simp only []
  split
  · split
    · exact fits_enter_other (by decide) (fits_addSeq h)
    · exact fits_enterCrankRest (fits_addSeq h)
    · exact h
  · exact hs

theorem fits_decideBlocks {old s : State} (hs : DriveFits s) : DriveFits (decideBlocks old s) := by
  have h0 : DriveFits (stopToCooldown (idleUpkeep (disagreeUpkeep (linkUpdate s)))) :=
    fits_stopToCooldown (hs.of_drive (by simp))
  have h1 : ∀ (b : Bool) (f : State → State) (u : State), (∀ v, DriveFits v → DriveFits (f v)) → DriveFits u →
      DriveFits (if b then f u else u) := by
    intro b f u hf hu
    cases b
    · exact hu
    · exact hf u hu
  unfold decideBlocks
  simp only []
  apply h1 _ autostopTest _ (fun _ => fits_autostopTest)
  apply h1 _ contention _ (fun _ => fits_contention)
  apply h1 _ grantTest _ (fun _ => fits_grantTest)
  apply h1 _ clashTest _ (fun _ => fits_clashTest)
  exact h1 _ triggerTest _ (fun _ => fits_triggerTest) h0

theorem fits_postOrders {old s : State} (hs : DriveFits s) : DriveFits (postOrders old s) := by
  have h : DriveFits (pumpSequence (pumpProtect s)) := fits_pumpSequence (hs.of_drive (by simp))
  unfold postOrders
  simp only []
  split
  · exact h.of_drive (by simp)
  · exact h

/-- The blocks' reaction keeps the claim and the fuel order fitting the engine state. -/
theorem fits_react {old s : State} (hs : DriveFits s) : DriveFits (react old s) :=
  fits_postOrders (fits_decideBlocks hs)

/-- A refresh of an entry, with the blocks' reaction to it, keeps the claim and the fuel order fitting. -/
theorem fits_refreshEntry {p : Fin 8} {e : Entry} {s : State} (hs : DriveFits s) : DriveFits (refreshEntry p e s) :=
  fits_react (fits_clashTest (hs.of_drive rfl))

theorem fits_directRefresh {r : Record} {s : State} (hs : DriveFits s) : DriveFits (directRefresh r s) := by
  unfold directRefresh; simp only []; split
  · exact fits_refreshEntry (hs.of_drive rfl)
  · exact fits_refreshEntry hs

theorem fits_relayedRefreshes {v : Fin 8} (ms : List Summary) {s : State} (hs : DriveFits s) :
    DriveFits (relayedRefreshes v ms s) := by
  induction ms generalizing s with
  | nil => exact hs
  | cons m ms ih =>
    apply ih
    rcases relayedRefresh_cases v m s with h | h <;> rw [h]
    · exact hs
    · exact fits_refreshEntry hs

/-- A record handed to the table keeps the claim and the fuel order fitting. -/
theorem fits_handOn {r : Record} {s : State} (hs : DriveFits s) : DriveFits (handOn r s) :=
  fits_relayedRefreshes _ (fits_directRefresh hs)

theorem fits_leaveChecking {s : State} (hs : DriveFits s) : DriveFits (leaveChecking s) := by
  unfold leaveChecking; split
  · exact hs.of_drive rfl
  · exact hs

/-- The end of an own record, with the line check that may end by it, keeps the claim and the fuel order fitting. -/
theorem fits_finishSending {s : State} (hs : DriveFits s) : DriveFits (finishSending s) := by
  unfold finishSending; split
  · split
    · unfold checkSent; simp only []; split
      · exact fits_react (fits_leaveChecking (hs.of_drive rfl))
      · exact hs.of_drive rfl
    · exact hs.of_drive rfl
  · exact hs

end Sys2Proof.Machine
end

