-- ==== Sys2Proof/Certificates/Slice0/Obligations.lean ====
section
/-! DEFINITION. The statements for the provers, family by family. `exec c s = .next t` is a command that completes: `t` is the
state its own effect leaves. -/

open Sys2Proof Sys2Proof.Machine

/-! ## Codes and octets of chapter 11 -/

/-- The engine states in the order of their codes (section 5.1). -/
def engineStates : List EngineState :=
  [.stopped, .claiming, .prelube, .cranking, .crankRest, .firing, .idleWarm, .running, .cooldown, .shutdown, .lockedOut]

/-- The fault kinds in the order of their codes, from 1 on (section 11.4). -/
def faultKinds : List FaultKind :=
  [.duplicatePosition, .crankLockout, .starterStuck, .overspeed, .oilLow, .prelubeFail, .stall, .crankFail, .startRefused,
   .demandInvalid, .demandDisagree, .coolantHot, .speedDeviation, .batterySag, .emergencyStop, .deviceFailed .governor,
   .deviceFailed .starter, .deviceFailed .prelube, .deviceFailed .load, .deviceFailed .sensors]

/-- The code of an engine state. -/
def engineNumber (e : EngineState) : Nat := engineStates.idxOf e

/-- The code of a fault kind, 0 for none. -/
def faultNumber : Option FaultKind → Nat
  | none => 0
  | some k => faultKinds.idxOf k + 1

/-- How many of the nine bits of an octet on a line are ones. -/
def onesOf (w : WireOctet) : Nat := ((List.range 9).filter (fun i => w.getLsbD i)).length

/-- The number in `len` bits of an octet, from bit `lo` on. -/
def bitsFrom (b : Byte) (lo len : Nat) : Nat := b.toNat / 2 ^ lo % 2 ^ len

/-! ## The machine -/

/-- The command at the front of the queue is run on the state with the rest of the queue. -/
def Obligations.StepTakesTheFrontCommand : Prop :=
  ∀ (c : Instr) (rest : List Instr) (s : State), step { s with pending := c :: rest } = exec c { s with pending := rest }

/-- With no command waiting, and the station out of reset, one ms passes (the model's choice, log entry 3): the gate timer, the
window timer, the dwell clock, the crank timer, the sensor age, the time until the pair is quiet, the quiet that reception waits
for (log entry 10) and the bit times for which the reply line waits (log entry 38) move by it, and table, pins, engine state,
claim, slots, active faults, notices and configuration stay. -/
def Obligations.IdleStepPassesOneMillisecond : Prop :=
  ∀ s : State, s.pending = [] → s.inReset = false →
    ∃ t, step s = .next t ∧ t.lmn.gateTimer = s.lmn.gateTimer.map (fun n => n - 1)
      ∧ t.clc.windowTimer = s.clc.windowTimer.map (fun n => n + 1000) ∧ t.nsp.dwell = s.nsp.dwell.map (fun n => n + 1)
      ∧ (s.clc.tx = .idle → t.clc.busyUs = s.clc.busyUs - 1000)
      ∧ (∀ r, s.clc.tx = .sending r → 1000 < r.leftUs →
          t.clc.tx = .sending { r with leftUs := r.leftUs - 1000 } ∧ t.clc.busyUs = r.leftUs - 1000 + 80)
      ∧ t.clc.reception = (match s.clc.reception with
          | .ready => .ready
          | .suspended own q => .suspended (own - 1000) (q + (1000 - own)))
      ∧ t.erc.replyLine = (match s.erc.replyLine with
          | .clear => .clear
          | .waiting n => .waiting (n + 180))
      ∧ t.ssq.crank = s.ssq.crank.map (fun n => n - 1) ∧ t.erc.sensor.age = min 65535 (s.erc.sensor.age + 1)
      ∧ t.table = s.table ∧ t.pins = s.pins ∧ t.ssq.engine = s.ssq.engine ∧ t.cpa.claim = s.cpa.claim
      ∧ t.erc.slots = s.erc.slots ∧ t.fcl.active = s.fcl.active ∧ t.fcl.notices = s.fcl.notices
      ∧ t.mpt.committed = s.mpt.committed ∧ t.pending = []

/-- Every command answers with a next state, and leaves the queue as it is. -/
def Obligations.EveryCommandAnswersAndKeepsTheQueue : Prop :=
  ∀ (c : Instr) (s : State), ∃ t, exec c s = .next t ∧ t.pending = s.pending

/-! ## Reset -/

/-- POWER_ON_RESET: every block takes its power-on values, with the pair taken as busy and no reception before it is quiet (how that
is counted is the choice of log entry 10), and no reply before the reply line is (log entry 38). That the levels on the input pins
stay, that the port has served no octet and that the latest gate result is 0 are the model's choice (log entry 6); that no octet
stands acknowledged is deduced (log entry 37). -/
def Obligations.PowerOnResetValues : Prop :=
  ∀ s : State, ∃ t, exec .powerOnReset s = .next t
    ∧ t.clc.linkState = .config ∧ t.clc.windowIndex = 0 ∧ t.clc.windowTimer = none ∧ t.clc.cycleCount = 0
    ∧ t.clc.repeatMark = false ∧ t.clc.listeningCount = 0 ∧ t.clc.remainingCheck = 0 ∧ t.clc.remainingInjected = 0
    ∧ t.clc.checkIndex = 0 ∧ t.clc.injectDone = false ∧ t.pairBusy = true ∧ t.clc.busyUs = 80 ∧ t.clc.tx = .idle
    ∧ t.clc.reception = .suspended 80 0
    ∧ t.clc.snapA = none ∧ t.clc.snapB = none ∧ t.clc.counters = ⟨0, 0, 0, 0, 0, 0, 0, 0⟩
    ∧ (∀ p, (t.entry p).state = .absent ∧ (t.entry p).tag = none ∧ (t.entry p).claim = none ∧ (t.entry p).lastFault = none
        ∧ (t.entry p).checkErrors = 0)
    ∧ t.cpa.claim = none ∧ (∀ p, t.cpa.holds.get p = none) ∧ t.cpa.permitClash = 0
    ∧ t.ssq.engine = .shutdown ∧ t.ssq.fuelOrder = false ∧ t.ssq.overspeedMark = false ∧ t.fuelRun = false
    ∧ t.ssq.attempts = 0 ∧ t.ssq.stopReason = .manual ∧ t.ssq.stopInProgress = false ∧ t.ssq.lastCause = none
    ∧ t.ssq.runAccepted = false ∧ t.ssq.releasePending = true ∧ t.ssq.pumpHeld = false
    ∧ t.ssq.seqList = [.disengage, .stop, .fuelOff] ∧ t.ssq.protList = [] ∧ t.ssq.autostopIdle = none
    ∧ t.ssq.idleElapsed = false ∧ t.ssq.prelube = none ∧ t.ssq.prelubeTick = none ∧ t.ssq.crank = none
    ∧ t.ssq.turnCheck = none ∧ t.ssq.firingHold = none ∧ t.ssq.rest = none ∧ t.ssq.firing = none ∧ t.ssq.warmUp = none
    ∧ t.ssq.cooldown = none
    ∧ t.nsp.reading = none ∧ t.nsp.demandTimer = none ∧ t.nsp.disagreeTimer = none
    ∧ (∀ d, t.nsp.derates.get d = ⟨false, none, none⟩)
    ∧ t.effectiveDemand = 0 ∧ t.derateCap = 8 ∧ t.cap = 0 ∧ t.targetNotch = 0 ∧ t.nsp.completed = 0
    ∧ t.nsp.step = none ∧ t.nsp.dwell = none ∧ t.nsp.abandonHold = none ∧ t.nsp.governorOwed = false ∧ t.nsp.watch = none
    ∧ t.nsp.urgentList = []
    ∧ t.erc.sequencer = .idle ∧ t.erc.current = none ∧ t.erc.sinceSent = 0 ∧ t.erc.replyTimer = none
    ∧ t.erc.slots = ⟨.empty, .empty, .empty, .empty⟩ ∧ t.erc.tag = 0
    ∧ (∀ d, t.erc.health.get d = ⟨0, 0, none⟩) ∧ t.erc.sensor = ⟨0, 0, false, 65535, .empty⟩ ∧ t.erc.lateReply = 0
    ∧ t.erc.pollTimer = none ∧ t.erc.replyLine = .waiting 0
    ∧ t.lmn.pulseCounted = false ∧ t.lmn.gateCount = 0 ∧ t.lmn.lastGate = 0 ∧ t.lmn.overspeedForce = false
    ∧ t.lmn.measured = 0 ∧ t.lmn.silence = true ∧ t.lmn.gateTimer = none ∧ t.lmn.silenceTimer = none
    ∧ t.lmn.sampleTimer = none ∧ t.lmn.sample = none ∧ t.lmn.sagFlag = false ∧ t.lmn.sagCount = 0 ∧ t.lmn.recoveryCount = 0
    ∧ (∀ l, t.lmn.lines.get l = ⟨none, none⟩)
    ∧ t.fcl.active = [] ∧ t.fcl.notices = [] ∧ t.fcl.firstFault = none ∧ t.fcl.crankFailCause = none
    ∧ t.fcl.crankFailTimer = none ∧ t.alarmLamp = false
    ∧ t.mpt.straps = none ∧ t.mpt.committed = none ∧ t.mpt.commitState = .cleared ∧ t.mpt.configTimer = none
    ∧ t.mpt.accepted = false ∧ t.mpt.rejected = false ∧ t.mpt.overrideWritten = false ∧ t.mpt.pointer = 0
    ∧ t.mpt.coherence = none ∧ t.mpt.latch = none ∧ t.mpt.buffer = Vector.replicate 16 0 ∧ t.mpt.writeRefused = 0
    ∧ t.inReset = true ∧ t.pins.lines = s.pins.lines ∧ t.pins.demandCode = s.pins.demandCode ∧ t.pins.portOut = none
    ∧ t.pins.portAck = false

/-- RESET_RELEASE: the straps are sampled, the CONFIG phase opens, the timers of every block start, and the pair is taken as busy
for 80 µs, with reception waiting for the quiet after them (how that is counted: log entry 10); the reply line waits for 20 bit
times of quiet (log entry 38). From the values of
power-on reset, the first request is STARTER DISENGAGE with tag 0, with PRELUBE STOP and GOVERNOR FUEL_OFF waiting behind it. -/
def Obligations.ResetReleaseStartsTheTimers : Prop :=
  (∀ (p : BitVec 3) (c f : BitVec 2), ∃ t, exec (.resetRelease p c f) State.reset = .next t
    ∧ t.erc.sequencer = .sending ∧ t.erc.current = some ⟨.sequence, ⟨.disengage, 0, .ssq⟩, 0⟩
    ∧ t.ssq.seqList = [.stop, .fuelOff] ∧ t.ssq.engine = .shutdown ∧ t.fuelRun = false) ∧
  ∀ (p : BitVec 3) (c f : BitVec 2) (s : State), s.inReset = true →
    ∃ t, exec (.resetRelease p c f) s = .next t ∧ t.inReset = false
      ∧ (∃ x, t.mpt.straps = some x ∧ x.position.val = p.toNat ∧ x.engineClass.val = c.toNat ∧ x.floor.val = f.toNat)
      ∧ t.mpt.commitState = .opened ∧ t.mpt.configTimer = some 3000
      ∧ t.clc.busyUs = 80 ∧ t.clc.reception = .suspended 80 0 ∧ t.erc.replyLine = .waiting 0
      ∧ t.clc.windowTimer = some 0 ∧ t.clc.windowIndex = s.clc.windowIndex ∧ t.clc.cycleCount = s.clc.cycleCount
      ∧ t.lmn.gateTimer = some 100 ∧ t.lmn.silenceTimer = some 250 ∧ t.lmn.silence = s.lmn.silence
      ∧ t.lmn.sampleTimer = some 10 ∧ t.erc.pollTimer = some 250
      ∧ (t.lmn.lines.get .start).timer = some 100 ∧ (t.lmn.lines.get .stop).timer = some 100
      ∧ (t.lmn.lines.get .freset).timer = some 100 ∧ (t.lmn.lines.get .estop).timer = some 20
      ∧ (t.lmn.lines.get .runIso).timer = some 200
      ∧ t.nsp.demandTimer = some (if (notchOfLines s.pins.demandCode).isSome then 60 else 500)
      ∧ t.table = s.table ∧ t.pins = s.pins

/-! ## The consist link -/

/-- Reception as a window begins with the pair busy for `b` µs more (R2, R9): taken up on a quiet pair, else with the rest of the
window that ends added to the quiet that it has seen (log entry 10). -/
def receptionAt (b : Nat) (s : State) : Reception :=
  match s.clc.reception with
  | .ready => .ready
  | .suspended own q =>
    let rest := 5000 - s.clc.windowTimer.getD 0
    if b = 0 then .ready else .suspended (own - rest) (q + (rest - own))

/-- WINDOW_TIMER_EXPIRY away from the own window: inside a cycle it moves the index and the timer, and nothing else but how long
the pair is busy yet and whether reception waits, with the quiet that it has seen counted on (the choice of log entry 10); the
passage from 7 to 0 that the repeat mark stops clears the mark besides, and takes no cycle boundary. -/
def Obligations.WindowExpiryAdvancesTheIndex : Prop :=
  (∀ (b : Nat) (s : State), s.clc.windowTimer.isSome = true → s.clc.tx = .idle → s.clc.windowIndex ≠ 7 →
    s.ownPosition ≠ some (s.clc.windowIndex + 1) →
    exec (.windowTimerExpiry b) s = .next { s with clc := { s.clc with
      windowIndex := s.clc.windowIndex + 1, windowTimer := some 0, busyUs := b, reception := receptionAt b s } }) ∧
  (∀ (b : Nat) (s : State), s.clc.windowTimer.isSome = true → s.clc.tx = .idle → s.clc.windowIndex = 7 →
    s.clc.repeatMark = true → s.ownPosition ≠ some 0 →
    exec (.windowTimerExpiry b) s = .next { s with clc := { s.clc with
      windowIndex := 0, windowTimer := some 0, busyUs := b, reception := receptionAt b s,
      repeatMark := false } })

/-- An entry aged by one boundary (R42): age and claim age by 1, saturating, and the entry state from the new age; an ABSENT entry
stays. -/
def agedEntry (e : Entry) : Entry :=
  if e.state = .absent then e
  else
    { e with
      age := min 63 (e.age + 1)
      claim := e.claim.map (fun a => min 255 (a + 1))
      state := if min 63 (e.age + 1) ≤ 3 then .live else if min 63 (e.age + 1) ≤ 49 then .stale else .lost }

/-- R-A acts (R28). -/
def relayAActs (c : Committed) : Bool := decide (c.relayA.mode ≠ .off ∧ c.relayA.source ≠ c.position)

/-- R-B acts (R28). -/
def relayBActs (c : Committed) : Bool :=
  decide (c.relayB.mode ≠ .off ∧ c.relayB.source ≠ c.position
    ∧ (c.relayB.source ≠ c.relayA.source ∨ c.relayA.mode = .off))

/-- What a relay takes from an entry (R30, R31): its data if it is DIRECT and LIVE, else nothing. -/
def copyOf (e : Entry) : Option Snapshot :=
  if e.state = .live ∧ e.source = .direct then
    some ⟨e.age, e.engine, e.completed, e.target, e.demand, e.derate, e.claim⟩
  else none

/-- The previous engine state after a refresh (R37). -/
def prevAfter (e : Entry) (engine : EngineState) : Option EngineState :=
  if e.state = .absent then none else if e.engine = engine then e.prev else some e.engine

/-- The own entry after a refresh with the values of a state (R36): its tag and check-error count stay, and the code of a NOTICE
becomes its last fault code. -/
def ownEntryAfter (code : Option FaultKind) (s : State) (e : Entry) : Entry :=
  { e with
    state := .live, source := .direct, age := 0, engine := s.ssq.engine, prev := prevAfter e s.ssq.engine
    completed := s.nsp.completed, target := s.targetNotch, demand := s.nsp.reading, derate := s.derateCap
    flags := ⟨s.isolated, decide (s.ssq.engine = .cooldown ∧ s.ssq.stopReason = .auto),
      decide (s.ssq.engine = .stopped ∧ s.ssq.stopReason = .auto), s.deviceFailed .sensors⟩
    claim := s.cpa.claim, lastFault := if code.isSome then code else e.lastFault }

/-- A claim aged by one boundary (R42, R56). -/
def agedClaim (c : Option Nat) : Option Nat := c.map (fun a => min 255 (a + 1))

/-- The state with the table and the own claim as a boundary ages them. -/
def agedState (s : State) : State :=
  { s with
    table := PerPosition.build (fun p => if s.ownPosition = some p then s.entry p else agedEntry (s.entry p))
    cpa := { s.cpa with claim := agedClaim s.cpa.claim } }

/-- No CHECK record stands as being sent: one that does counts as sent completely first (log entry 27). -/
def noCheckOnPair (s : State) : Prop := ∀ r inj, s.clc.tx = .sending r → r.kind ≠ .check inj

/-- In JOINED and ALONE the link state follows the live set (R14). -/
def FollowsLiveSet (s t : State) : Prop :=
  s.clc.linkState = .joined ∨ s.clc.linkState = .alone → t.clc.linkState = if t.liveSet = [] then .alone else .joined

/-- A cycle boundary counts a cycle and ages every other position's entry: age and claim age by 1, saturating, and the entry state
from the new age; an ABSENT entry, and every other field, stays. It ages the own claim, which is kept as long as the engine is
CLAIMING, PRELUBE or CRANKING. In LISTENING, CHECKING and SILENCED it refreshes the own entry with the values gathered after the
ageing, and so it does at the boundary that ends LISTENING (the model's reading, log entry 22); in JOINED and ALONE it leaves it,
and the link state is JOINED or ALONE by the live set after the ageing. It takes the snapshot: the copy of each relay entry that
acts in SNAPSHOT mode becomes the source's entry as aged, or empty if that is not DIRECT and LIVE; any other copy stays, and before
commit both do. -/
def Obligations.BoundaryAgesEveryOtherEntry : Prop :=
  (∀ s : State, (boundaryWork s).cpa.claim = agedClaim s.cpa.claim) ∧
  ∀ (b : Nat) (s : State), s.clc.windowTimer.isSome = true → s.clc.windowIndex = 7 → s.clc.repeatMark = false →
    ∃ t, exec (.windowTimerExpiry b) s = .next t ∧ t.clc.cycleCount = s.clc.cycleCount + 1 ∧ t.clc.windowIndex = 0
      ∧ (∀ p, s.ownPosition ≠ some p → t.entry p = agedEntry (s.entry p)) ∧ FollowsLiveSet s t
      ∧ (s.ssq.engine = .claiming ∨ s.ssq.engine = .prelube ∨ (s.ssq.engine = .cranking ∧ t.ssq.engine = .cranking) →
          t.cpa.claim = agedClaim s.cpa.claim)
      ∧ (∀ p, s.ownPosition = some p → noCheckOnPair s →
          (s.clc.linkState = .checking ∨ s.clc.linkState = .silenced
            ∨ (s.clc.linkState = .listening ∧ (p ≠ 0 ∨ s.clc.listeningCount < 24)) →
            t.entry p = ownEntryAfter none (agedState s) (s.entry p))
          ∧ (s.clc.linkState = .joined ∨ s.clc.linkState = .alone → p ≠ 0 → t.entry p = s.entry p))
      ∧ (s.mpt.committed = none → t.clc.snapA = s.clc.snapA ∧ t.clc.snapB = s.clc.snapB)
      ∧ ∀ c, s.mpt.committed = some c →
        t.clc.snapA = (if relayAActs c = true ∧ c.relayA.mode = .snapshot then
            copyOf (agedEntry (s.entry c.relayA.source)) else s.clc.snapA)
        ∧ t.clc.snapB = (if relayBActs c = true ∧ c.relayB.mode = .snapshot then
            copyOf (agedEntry (s.entry c.relayB.source)) else s.clc.snapB)

/-- A LIVE or STALE entry that ages to LOST in PRELUBE, CRANKING or FIRING starts a phantom hold of 20 s, and in any other engine
state leaves the hold of its position as it was; PHANTOM_HOLD_EXPIRY returns the hold to idle, and every other hold and the
table stay. -/
def Obligations.PhantomHoldsStartAndEnd : Prop :=
  (∀ (b : Nat) (p : Fin 8) (s : State), s.clc.windowTimer.isSome = true → s.clc.windowIndex = 7 →
    s.clc.repeatMark = false → s.ownPosition ≠ some p → (s.entry p).state = .live ∨ (s.entry p).state = .stale →
    49 ≤ (s.entry p).age →
    ∃ t, exec (.windowTimerExpiry b) s = .next t
      ∧ t.cpa.holds.get p =
        if (s.entry p).engine = .prelube ∨ (s.entry p).engine = .cranking ∨ (s.entry p).engine = .firing then some 20000
        else s.cpa.holds.get p) ∧
  (∀ (p : Fin 8) (s : State), (s.cpa.holds.get p).isSome = true →
    ∃ t, exec (.phantomHoldExpiry p) s = .next t ∧ t.cpa.holds.get p = none
      ∧ (∀ q, q ≠ p → t.cpa.holds.get q = s.cpa.holds.get q) ∧ t.table = s.table ∧ t.lmn = s.lmn ∧ t.mpt = s.mpt
      ∧ t.clc.counters = s.clc.counters)

/-- A summary in six octets (R29, section 11.1). -/
def summaryOctets (origin : Fin 8) (m : Snapshot) : List Byte :=
  [BitVec.ofNat 8 (origin.val + (if m.claim.isSome then 128 else 0)), BitVec.ofNat 8 m.age, BitVec.ofNat 8 m.engine.code,
   BitVec.ofNat 8 (m.completed + 16 * m.target), BitVec.ofNat 8 (m.demand.getD 15 + 16 * m.derate),
   BitVec.ofNat 8 (m.claim.getD 0)]

/-- What one relay entry composes (R28, R30, R32): in LATEST mode from the source's entry as it stands, in SNAPSHOT mode from its
copy. -/
def composedBy (s : State) (e : RelayEntry) (acts : Bool) (copy : Option Snapshot) : List (List Byte) :=
  if acts then
    match e.mode with
    | .off => []
    | .latest => ((copyOf (s.entry e.source)).map (summaryOctets e.source)).toList
    | .snapshot => (copy.map (summaryOctets e.source)).toList
  else []

/-- The relay list, R-A's summary first (R33). -/
def relayedSummaries (c : Committed) (s : State) : List (List Byte) :=
  composedBy s c.relayA (relayAActs c) s.clc.snapA ++ composedBy s c.relayB (relayBActs c) s.clc.snapB

/-- The flags octet of the own record (R24). -/
def ownFlagsOctet (s : State) : Nat :=
  (if s.isolated then 1 else 0) + (if s.ssq.engine = .cooldown ∧ s.ssq.stopReason = .auto then 2 else 0)
    + (if s.ssq.engine = .stopped ∧ s.ssq.stopReason = .auto then 4 else 0) + (if s.deviceFailed .sensors then 8 else 0)

/-- The STATUS or NOTICE record that a station in this state composes, octet by octet (R20, R22 to R26, R33, section 11.1): a NOTICE
with the oldest pending kind, or a STATUS when none is pending, closed by the XOR of its octets. -/
def ownRecord (c : Committed) (deferred : Bool) (s : State) : List Byte :=
  let relays := relayedSummaries c s
  let body : List Byte :=
    [(match s.fcl.notices.head? with | some _ => 0xA6 | none => 0xA5),
     BitVec.ofNat 8 (c.position.val + (if deferred then 8 else 0) + 16 * (if s.clc.linkState = .joined then 1 else 2)
       + (if s.cpa.claim.isSome then 64 else 0)),
     c.tag.setWidth 8, (c.tag >>> 8).setWidth 8, s.clc.cycleCount,
     BitVec.ofNat 8 (s.ssq.engine.code + 16 * relays.length), BitVec.ofNat 8 (s.nsp.completed + 16 * s.targetNotch),
     BitVec.ofNat 8 (s.nsp.reading.getD 15 + 16 * s.derateCap), BitVec.ofNat 8 (ownFlagsOctet s)]
    ++ (s.fcl.notices.head?.map (fun k => BitVec.ofNat 8 k.code)).toList
    ++ (s.cpa.claim.map (fun a => BitVec.ofNat 8 a)).toList ++ relays.flatten
  body ++ [xorAll body]

/-- The state sends these octets, each with its parity bit, for 72 µs each, and the pair is busy to 80 µs after them, with reception
waiting for the quiet then (R1, R9). -/
def Sends (kind : RecordKind) (bs : List Byte) (t : State) : Prop :=
  t.clc.tx = .sending ⟨kind, bs.map withParity, 72 * bs.length⟩ ∧ t.clc.busyUs = 72 * bs.length + 80
    ∧ t.clc.reception = .suspended (72 * bs.length + 80) 0

/-- The own entry takes the values of the state in which the own record is composed (R36), and no other entry changes. -/
def OwnEntryTakes (c : Committed) (s t : State) : Prop :=
  t.entry c.position = ownEntryAfter s.fcl.notices.head? s (s.entry c.position) ∧ ∀ p, p ≠ c.position → t.entry p = s.entry p

/-- The kind of the STATUS or NOTICE record that a station in this state composes. -/
def ownKind (s : State) : RecordKind :=
  match s.fcl.notices.head? with
  | some k => .notice k
  | none => .status

/-- Stages 1 to 9 of the pseudo-random sequence, in order, as a record's cycle count and origin load them (R16). -/
def seededStages (origin : Fin 8) (cycle : Byte) : List Bool :=
  (List.range 8).map (fun i => (cycle ^^^ BitVec.ofNat 8 (32 * origin.val)).getLsbD i) ++ [true]

/-- So many output bits from these stages on (R16): stage 9 goes out, every stage takes the content of the one below it, and stage 1
takes stage 9 XOR stage 5. -/
def outputBits : Nat → List Bool → List Bool
  | 0, _ => []
  | n + 1, v => v.getD 8 false :: outputBits n ((v.getD 8 false ^^ v.getD 4 false) :: v.take 8)

/-- The 16 payload octets of a CHECK record before any injected error (R16): the first 128 output bits, each octet from its bit 0
up. -/
def expectedPayload (origin : Fin 8) (cycle : Byte) : List Byte :=
  let bits := outputBits 128 (seededStages origin cycle)
  (List.range 16).map (fun k =>
    BitVec.ofNat 8 ((List.range 8).map (fun i => if bits.getD (8 * k + i) false then 2 ^ i else 0)).sum)

/-- How many of their 128 bits differ between two payloads (R17). -/
def wrongBits (as bs : List Byte) : Nat :=
  ((List.range 128).filter (fun n =>
    (as.getD (n / 8) 0).getLsbD (n % 8) != (bs.getD (n / 8) 0).getLsbD (n % 8))).length

/-- The CHECK record of a station in this state (R16, R21, section 11.1): while injected errors remain, bit 0 of payload octet
(check index modulo 16) is inverted. -/
def ownCheck (c : Committed) (deferred : Bool) (s : State) : List Byte :=
  let plain := expectedPayload c.position s.clc.cycleCount
  let i := s.clc.checkIndex % 16
  let payload := if 0 < s.clc.remainingInjected then plain.set i (plain.getD i 0 ^^^ 1) else plain
  let body : List Byte :=
    [0xA9, BitVec.ofNat 8 (c.position.val + (if deferred then 8 else 0) + 16 * 3), c.tag.setWidth 8, (c.tag >>> 8).setWidth 8,
     s.clc.cycleCount, 0] ++ payload
  body ++ [xorAll body]

/-- The own window on a quiet pair. JOINED or ALONE: a NOTICE with the oldest pending kind, which leaves the set, or a STATUS, with
DEFERRED clear and all contents as they stand; the own entry takes the same values, and the NOTICE's kind as its last fault code.
In window 0 it is composed after the work of the boundary that begins it, and where the repeat mark stops the boundary, as the
state stands. CHECKING: the CHECK record, its payload the 128 output bits of the seeded sequence, and nothing of the Fault
Collector or the table changes. Reception waits for the quiet after the record (log entry 10). CONFIG, LISTENING and SILENCED: the
window, busy or quiet, sends nothing, defers nothing and counts nothing, and inside a cycle nothing changes but index, timer and
what log entry 10 counts. -/
def Obligations.OwnWindowSendsTheOwnRecord : Prop :=
  (∀ (c : Committed) (s : State), s.mpt.committed = some c → s.clc.windowTimer.isSome = true → s.clc.windowIndex ≠ 7 →
    c.position = s.clc.windowIndex + 1 → noCheckOnPair s → s.clc.linkState = .joined ∨ s.clc.linkState = .alone →
    ∃ t, exec (.windowTimerExpiry 0) s = .next t ∧ Sends (ownKind s) (ownRecord c false s) t
      ∧ t.fcl.notices = s.fcl.notices.tail ∧ t.clc.windowIndex = s.clc.windowIndex + 1
      ∧ OwnEntryTakes c s t) ∧
  (∀ (c : Committed) (s : State), s.mpt.committed = some c → s.clc.windowTimer.isSome = true → s.clc.windowIndex = 7 →
    c.position = 0 → s.clc.tx = .idle → s.clc.linkState = .joined ∨ s.clc.linkState = .alone →
    (s.clc.repeatMark = true →
      ∃ t, exec (.windowTimerExpiry 0) s = .next t ∧ Sends (ownKind s) (ownRecord c false s) t
        ∧ t.fcl.notices = s.fcl.notices.tail ∧ t.clc.cycleCount = s.clc.cycleCount ∧ OwnEntryTakes c s t) ∧
    (s.clc.repeatMark = false →
      ∃ u t, u = cycleBoundary (setWindow 0 0 { s with clc := { s.clc with busyUs := 0, reception := .ready } })
        ∧ u.clc.cycleCount = s.clc.cycleCount + 1 ∧ exec (.windowTimerExpiry 0) s = .next t
        ∧ Sends (ownKind u) (ownRecord c false u) t ∧ t.fcl.notices = u.fcl.notices.tail ∧ OwnEntryTakes c u t)) ∧
  (∀ (c : Committed) (s : State), s.mpt.committed = some c → s.clc.windowTimer.isSome = true → s.clc.windowIndex ≠ 7 →
    c.position = s.clc.windowIndex + 1 → noCheckOnPair s → s.clc.linkState = .checking →
    ∃ t, exec (.windowTimerExpiry 0) s = .next t
      ∧ Sends (.check (decide (0 < s.clc.remainingInjected))) (ownCheck c false s) t ∧ t.fcl = s.fcl ∧ t.table = s.table) ∧
  (∀ (b : Nat) (s : State), s.clc.windowTimer.isSome = true → s.clc.tx ≠ .deferring → noCheckOnPair s →
    s.clc.linkState = .config ∨ s.clc.linkState = .silenced
      ∨ (s.clc.linkState = .listening
          ∧ (s.clc.windowIndex ≠ 7 ∨ s.clc.repeatMark = true ∨ s.clc.listeningCount < 24)) →
    ∃ t, exec (.windowTimerExpiry b) s = .next t ∧ t.clc.tx = .idle ∧ t.clc.counters = s.clc.counters ∧ t.clc.busyUs = b
      ∧ (s.clc.windowIndex ≠ 7 → t = { s with clc := { s.clc with
          tx := .idle, windowIndex := s.clc.windowIndex + 1, windowTimer := some 0, busyUs := b
          reception := receptionAt b s } }))

/-- DEFERRED_SEND: the pair is quiet at or before 2.0 ms, and the record goes out with DEFERRED set and all contents as they stand,
which the own entry takes too; in CHECKING it is the CHECK record with the payload of R16. Reception waits for the quiet after the
record (log entry 10). -/
def Obligations.DeferredSendSetsDeferred : Prop :=
  ∀ (c : Committed) (u : Nat) (s : State), s.mpt.committed = some c → s.clc.tx = .deferring →
    s.clc.windowTimer = some u → u ≤ 2000 →
    (s.clc.linkState = .joined ∨ s.clc.linkState = .alone →
      ∃ t, exec .deferredSend s = .next t ∧ Sends (ownKind s) (ownRecord c true s) t
        ∧ t.fcl.notices = s.fcl.notices.tail ∧ OwnEntryTakes c s t ∧ t.ssq = s.ssq ∧ t.nsp = s.nsp ∧ t.erc = s.erc
        ∧ t.lmn = s.lmn ∧ t.mpt = s.mpt) ∧
    (s.clc.linkState = .checking →
      ∃ t, exec .deferredSend s = .next t ∧ Sends (.check (decide (0 < s.clc.remainingInjected))) (ownCheck c true s) t
        ∧ t = { s with clc := t.clc })

/-- The pair busy as the own window begins: the station defers, and composes nothing. DEFERRAL_TIMEOUT: no record is sent,
WINDOW_MISSED counts one, and nothing else changes. -/
def Obligations.BusyPairDefersThenMisses : Prop :=
  (∀ (b : Nat) (c : Committed) (s : State), 0 < b → s.mpt.committed = some c → s.clc.windowTimer.isSome = true →
    s.clc.windowIndex ≠ 7 → c.position = s.clc.windowIndex + 1 → noCheckOnPair s →
    s.clc.linkState = .joined ∨ s.clc.linkState = .alone ∨ s.clc.linkState = .checking →
    ∃ t, exec (.windowTimerExpiry b) s = .next t ∧ t.clc.tx = .deferring ∧ t.fcl = s.fcl ∧ t.table = s.table) ∧
  (∀ s : State, s.clc.tx = .deferring →
    exec .deferralTimeout s = .next { s with clc := { s.clc with
      tx := .idle, counters := { s.clc.counters with windowMissed := min 65535 (s.clc.counters.windowMissed + 1) } } })

/-- COLLISION: sending stops, with the pair busy for 80 µs more and reception suspended until the quiet (log entry 10), COLLISION
counts one, and a NOTICE's kind goes back as the oldest pending one; a STATUS or CHECK record hands nothing back. -/
def Obligations.CollisionHandsTheNoticeBack : Prop :=
  ∀ (r : SentRecord) (s : State), s.clc.tx = .sending r →
    exec .collision s = .next { s with
      clc := { s.clc with
        tx := .idle, busyUs := 80, reception := .suspended 80 0
        counters := { s.clc.counters with collision := min 65535 (s.clc.counters.collision + 1) } }
      fcl := { s.fcl with notices :=
        match r.kind with
        | .notice k => k :: s.fcl.notices.filter (fun x => decide (x ≠ k))
        | _ => s.fcl.notices } }

/-- CHECK_RECORD_SENT with more to send: check index, remaining check count, and remaining injected count where an error was
injected; INJECT_DONE is set as that count reaches 0. The pair is busy for 80 µs more, and reception waits for the quiet after
them: how the two are counted is the model's choice (log entry 10). -/
def Obligations.CheckRecordSentCounts : Prop :=
  ∀ (inj : Bool) (bs : List WireOctet) (us : Nat) (s : State), s.clc.tx = .sending ⟨.check inj, bs, us⟩ →
    2 ≤ s.clc.remainingCheck →
    exec .checkRecordSent s = .next { s with clc := { s.clc with
      tx := .idle
      busyUs := 80
      reception := .suspended 80 0
      checkIndex := s.clc.checkIndex + 1
      remainingCheck := s.clc.remainingCheck - 1
      remainingInjected := if inj then s.clc.remainingInjected - 1 else s.clc.remainingInjected
      injectDone := s.clc.injectDone || (inj && decide (s.clc.remainingInjected - 1 = 0)) } }

/-- The link state that LISTENING is left for (R13), by the live set as it stands then. -/
def afterListening (remainingCheck : Nat) (t : State) : LinkState :=
  if 0 < remainingCheck then .checking else if t.liveSet = [] then .alone else .joined

/-- The boundary that ends LISTENING has been taken: the 25th is counted, the window and the cycle have moved on, the other entries
are aged, and the link state is CHECKING while CHECK records remain to be sent, else JOINED or ALONE by the live set. INJECT_DONE is
set by the entry to CHECKING where no injected error remains to be sent, and stays as it is otherwise (R15). -/
def ListeningEnds (s t : State) : Prop :=
  t.clc.listeningCount = 25 ∧ t.clc.windowIndex = 0 ∧ t.clc.windowTimer = some 0 ∧ t.clc.cycleCount = s.clc.cycleCount + 1
    ∧ (∀ p, s.ownPosition ≠ some p → t.entry p = agedEntry (s.entry p))
    ∧ t.clc.linkState = afterListening s.clc.remainingCheck t
    ∧ t.clc.injectDone = (s.clc.injectDone || decide (0 < s.clc.remainingCheck ∧ s.clc.remainingInjected = 0))

/-- LISTENING ends at the 25th boundary alone; an earlier one is counted. On entry to CHECKING with no injected error to send
INJECT_DONE is set. LISTENING_END is the expiry of the window timer that
takes the 25th, with the time for which the pair is busy then free, and LINE_CHECK_END the CHECK record sent completely that takes
the remaining check count to 0; away from those the two rows have no effect (the model's choice, log entries 4 and 34). At that
record the station leaves CHECKING for JOINED or ALONE by the live set. A CHECK record that still stands as being sent as its
window ends, or as a record is taken, has been sent completely and counts (the model's choice, log entry 27). -/
def Obligations.ListeningAndCheckingEndByTheLiveSet : Prop :=
  (∀ (b : Nat) (s : State), s.clc.windowTimer.isSome = true → s.clc.linkState = .listening → s.clc.windowIndex = 7 →
    s.clc.repeatMark = false → noCheckOnPair s →
    (s.clc.listeningCount = 24 → ∃ t, exec (.windowTimerExpiry b) s = .next t ∧ ListeningEnds s t) ∧
    (s.clc.listeningCount = 24 → ∃ t, exec .listeningEnd s = .next t ∧ ListeningEnds s t) ∧
    (s.clc.listeningCount < 24 → ∃ t, exec (.windowTimerExpiry b) s = .next t ∧ t.clc.linkState = .listening
      ∧ t.clc.listeningCount = s.clc.listeningCount + 1)) ∧
  (∀ s : State, s.clc.windowTimer = none ∨ s.clc.linkState ≠ .listening ∨ s.clc.windowIndex ≠ 7 ∨ s.clc.repeatMark = true
      ∨ s.clc.listeningCount < 24 → exec .listeningEnd s = .next s) ∧
  (∀ (cmd : Instr) (inj : Bool) (bs : List WireOctet) (us : Nat) (s : State), cmd = .lineCheckEnd ∨ cmd = .checkRecordSent →
    s.clc.linkState = .checking → s.clc.tx = .sending ⟨.check inj, bs, us⟩ → s.clc.remainingCheck = 1 →
    ∃ t, exec cmd s = .next t ∧ t.clc.remainingCheck = 0 ∧ t.clc.checkIndex = s.clc.checkIndex + 1 ∧ t.clc.tx = .idle
      ∧ t.clc.linkState = if s.liveSet = [] then .alone else .joined) ∧
  (∀ s : State, noCheckOnPair s ∨ s.clc.linkState ≠ .checking ∨ s.clc.remainingCheck ≠ 1 →
    exec .lineCheckEnd s = .next s) ∧
  (∀ (cmd : Instr) (inj : Bool) (bs : List WireOctet) (us : Nat) (s : State),
    (∃ b, cmd = .windowTimerExpiry b ∧ s.clc.windowTimer.isSome = true) ∨ (∃ ws, cmd = .recordTaken ws ∧ s.inReset = false) →
    s.clc.tx = .sending ⟨.check inj, bs, us⟩ → 1 ≤ s.clc.remainingCheck →
    ∃ t, exec cmd s = .next t ∧ t.clc.remainingCheck = s.clc.remainingCheck - 1
      ∧ t.clc.checkIndex = s.clc.checkIndex + 1)

/-- So many octets taken are a record: the pair was quiet before the first of them, 72 µs for each of them and 80 µs ago (R2, R9,
log entry 10). -/
def framed (n : Nat) (s : State) : Prop :=
  s.clc.reception = .ready ∨ ∃ own q, s.clc.reception = .suspended own q ∧ 72 * n + 80 ≤ q

/-- Octet `i` of a record as it was taken, without its parity bit; 0 past its end. -/
def takenOctet (ws : List WireOctet) (i : Nat) : Byte := (ws.getD i 0).setWidth 8

/-- The claim-present flag of a record (section 11.1). -/
def claimFlag (ws : List WireOctet) : Bool := (takenOctet ws 1).getLsbD 6

/-- The relay count of a record (section 11.1). -/
def relaysTold (ws : List WireOctet) : Nat := bitsFrom (takenOctet ws 5) 4 2

/-- How many octets a record must have, by its opening mark, its claim-present flag and its relay count; none where no number passes
(tests 2 and 3 of R10). -/
def lengthAsked (ws : List WireOctet) : Option Nat :=
  let additions := (if claimFlag ws then 1 else 0) + 6 * relaysTold ws
  if takenOctet ws 0 = 0xA5 then if relaysTold ws ≤ 2 then some (10 + additions) else none
  else if takenOctet ws 0 = 0xA6 then if relaysTold ws ≤ 2 then some (11 + additions) else none
  else if takenOctet ws 0 = 0xA9 then if claimFlag ws = false ∧ relaysTold ws = 0 then some 23 else none
  else none

/-- The four tests of R10: odd parity in every octet, one of the three opening marks, the number of octets, and a closing octet that
is the XOR of all before it. -/
def PassesTests (ws : List WireOctet) : Prop :=
  let bs := ws.map (fun w => w.setWidth 8)
  (∀ w ∈ ws, onesOf w % 2 = 1) ∧ lengthAsked ws = some ws.length ∧ bs.getLast? = some (bs.dropLast.foldl (· ^^^ ·) (0 : Byte))

/-- RECORD_TAKEN of a record that fails a test: CHECK_ERROR counts one, and a legible origin other than the own position is counted
against its entry; no entry is refreshed and the index is not moved. The tests are the four of R10 and no other, and an origin is
legible exactly where octet 1 came with odd parity, in its low three bits. Octets with no quiet before them, such as those still on
the pair after a collision, are no record: nothing is counted, and the pair is quiet and reception taken up. How the quiet before
the octets is counted is the model's choice (log entry 10). -/
def Obligations.FailedRecordIsOnlyCounted : Prop :=
  (∀ ws : List WireOctet, acceptRecord ws = none ↔ ¬ PassesTests ws) ∧
  (∀ (ws : List WireOctet) (p : Fin 8), legibleOrigin ws = some p ↔
    ∃ w, ws[1]? = some w ∧ onesOf w % 2 = 1 ∧ p.val = w.toNat % 8) ∧
  (∀ (ws : List WireOctet) (s : State), s.inReset = false → framed ws.length s → acceptRecord ws = none →
    ∃ t, exec (.recordTaken ws) s = .next t
      ∧ t.clc.counters = { s.clc.counters with checkError := min 65535 (s.clc.counters.checkError + 1) }
      ∧ t.clc.windowIndex = s.clc.windowIndex ∧ t.clc.windowTimer = s.clc.windowTimer ∧ t.pairBusy = false
      ∧ t.clc.reception = .ready ∧ (noCheckOnPair s → t.fcl = s.fcl ∧ t.ssq = s.ssq)
      ∧ ∀ p, t.entry p =
          if s.ownPosition.isSome = true ∧ legibleOrigin ws = some p ∧ s.ownPosition ≠ some p then
            { s.entry p with checkErrors := min 255 ((s.entry p).checkErrors + 1) }
          else s.entry p) ∧
  (∀ (ws : List WireOctet) (s : State), s.inReset = false → ¬ framed ws.length s →
    ∃ t, exec (.recordTaken ws) s = .next t ∧ t.clc.counters = s.clc.counters ∧ t.table = s.table
      ∧ t.clc.windowIndex = s.clc.windowIndex ∧ t.clc.windowTimer = s.clc.windowTimer
      ∧ t.clc.cycleCount = s.clc.cycleCount ∧ t.pairBusy = false ∧ t.clc.reception = .ready
      ∧ (noCheckOnPair s → t = { s with clc := t.clc }))

/-- A direct refresh of an entry is a replacement (R38): its tag is known and differs from the record's. -/
def replaces (e : Entry) (r : Record) : Bool :=
  decide (e.state ≠ .absent) && (match e.tag with | some x => decide (x ≠ r.tag) | none => false)

/-- An entry after a direct refresh by a record (R37), or its replacement (R38), which keeps the check-error count alone. -/
def afterRecord (r : Record) (e : Entry) : Entry :=
  { state := .live, tag := some r.tag, source := .direct, age := 0, engine := r.contents.engine
    prev := if replaces e r then none else prevAfter e r.contents.engine
    completed := r.contents.completed, target := r.contents.target, demand := r.contents.demand, derate := r.contents.derate
    flags := r.contents.flags, claim := r.contents.claim
    lastFault := if r.fault.isSome then r.fault else if replaces e r then none else e.lastFault
    checkErrors := e.checkErrors }

/-- An entry after a summary of its position relayed by `v` (R41): refreshed if it was ABSENT or older than the summary's age plus
1, else as it was. -/
def afterSummary (v : Fin 8) (m : Summary) (e : Entry) : Entry :=
  let known : Bool := decide (e.state ≠ .absent)
  let age := min 63 (m.age + 1)
  if e.state = .absent ∨ m.age + 1 < e.age then
    { state := if age ≤ 3 then .live else if age ≤ 49 then .stale else .lost
      tag := if known then e.tag else none, source := .relayed v, age := age, engine := m.engine, prev := prevAfter e m.engine
      completed := m.completed, target := m.target, demand := m.demand, derate := m.derate
      flags := ⟨known && e.flags.isolated, known && e.flags.cooldownAuto && decide (m.engine = .cooldown),
        known && e.flags.autoStopped && decide (m.engine = .stopped), known && e.flags.sensorsFailed⟩
      claim := m.claim, lastFault := if known then e.lastFault else none, checkErrors := e.checkErrors }
  else e

/-- The forward distance from the window index to a record's origin (R5). -/
def distance (r : Record) (s : State) : Nat := (r.origin - s.clc.windowIndex).val

/-- The realignment moves the index forward across 7 to 0 (R5). -/
def crossesForward (r : Record) (s : State) : Bool :=
  decide (r.deferred = false ∧ 1 ≤ distance r s ∧ distance r s ≤ 4 ∧ r.origin < s.clc.windowIndex)

/-- The realignment moves the index backward across 0 to 7 (R5). -/
def crossesBackward (r : Record) (s : State) : Bool :=
  decide (r.deferred = false ∧ 5 ≤ distance r s ∧ s.clc.windowIndex < r.origin)

/-- The realignment takes a cycle boundary (R5). -/
def takesBoundary (r : Record) (s : State) : Bool := crossesForward r s && !s.clc.repeatMark

/-- The own window is passed over in a link state that sends, or left while a deferral waits (R6). -/
def ownWindowMissed (r : Record) (s : State) : Prop :=
  r.deferred = false ∧ ((s.clc.tx = .deferring ∧ r.origin ≠ s.clc.windowIndex) ∨
    ((s.clc.linkState = .checking ∨ s.clc.linkState = .joined ∨ s.clc.linkState = .alone) ∧ distance r s ≤ 4 ∧
      ∃ own, s.ownPosition = some own ∧ 1 ≤ (own - s.clc.windowIndex).val
        ∧ (own - s.clc.windowIndex).val < distance r s))

/-- Index, timer, boundary, repeat mark and WINDOW_MISSED after an accepted record of `n` octets from another position (R4 to R6,
R8): a record with DEFERRED set does not realign. -/
def Realigned (n : Nat) (r : Record) (s t : State) : Prop :=
  t.clc.windowIndex = (if r.deferred then s.clc.windowIndex else r.origin)
    ∧ t.clc.windowTimer = (if r.deferred then s.clc.windowTimer else some (72 * n + 80))
    ∧ t.clc.cycleCount = (if takesBoundary r s then s.clc.cycleCount + 1 else s.clc.cycleCount)
    ∧ t.clc.repeatMark = (if crossesForward r s then false else if crossesBackward r s then true else s.clc.repeatMark)
    ∧ (ownWindowMissed r s → t.clc.counters.windowMissed = min 65535 (s.clc.counters.windowMissed + 1))
    ∧ (¬ ownWindowMissed r s → t.clc.counters.windowMissed = s.clc.counters.windowMissed)

/-- The engine state of a code, 11 to 15 being taken as LOCKED_OUT (R175). -/
def engineTaken (n : Nat) : EngineState := engineStates.getD n .lockedOut

/-- The demand reading of a code, 9 to 15 being INVALID (R175). -/
def demandTaken (n : Nat) : Option Nat := if n ≤ 8 then some n else none

/-- The fault code of a NOTICE, 0 and 21 to 255 being none (R175). -/
def faultTaken (n : Nat) : Option FaultKind := if n = 0 then none else faultKinds[n - 1]?

/-- The six octets of a summary that begins at octet `a` (section 11.1, R175). -/
def summaryTaken (ws : List WireOctet) (a : Nat) : Summary :=
  let o (i : Nat) : Byte := takenOctet ws (a + i)
  { origin := Fin.ofNat 8 (bitsFrom (o 0) 0 3), age := bitsFrom (o 1) 0 6, engine := engineTaken (bitsFrom (o 2) 0 4)
    completed := min 8 (bitsFrom (o 3) 0 4), target := min 8 (bitsFrom (o 3) 4 4)
    demand := demandTaken (bitsFrom (o 4) 0 4), derate := min 8 (bitsFrom (o 4) 4 4)
    claim := if (o 0).getLsbD 7 then some (o 5).toNat else none }

/-- The record is what its octets say (section 11.1, R175). After octet 8 come the fault code of a NOTICE, the claim age where the
claim-present flag is set, and the relay list. -/
def ReadsAs (ws : List WireOctet) (r : Record) : Prop :=
  let o (i : Nat) : Byte := takenOctet ws i
  let claimAt := if o 0 = 0xA6 then 10 else 9
  let listAt := if claimFlag ws then claimAt + 1 else claimAt
  r.mark = (if o 0 = 0xA5 then .status else if o 0 = 0xA6 then .notice else .check)
    ∧ r.origin.val = bitsFrom (o 1) 0 3 ∧ r.deferred = (o 1).getLsbD 3
    ∧ r.tag.toNat = (o 2).toNat + 256 * (o 3).toNat ∧ r.cycle = o 4
    ∧ (r.mark = .check → r.payload = (List.range 16).map (fun i => o (6 + i)))
    ∧ (r.mark ≠ .check →
        r.contents =
          { engine := engineTaken (bitsFrom (o 5) 0 4), completed := min 8 (bitsFrom (o 6) 0 4)
            target := min 8 (bitsFrom (o 6) 4 4), demand := demandTaken (bitsFrom (o 7) 0 4)
            derate := min 8 (bitsFrom (o 7) 4 4)
            flags := ⟨(o 8).getLsbD 0, (o 8).getLsbD 1, (o 8).getLsbD 2, (o 8).getLsbD 3⟩
            claim := if claimFlag ws then some (o claimAt).toNat else none }
        ∧ r.fault = (if r.mark = .notice then faultTaken (o 9).toNat else none)
        ∧ r.summaries = (List.range (relaysTold ws)).map (fun k => summaryTaken ws (listAt + 6 * k)))

/-- RECORD_TAKEN of an accepted record from another position, framed by quiet before it (how that is counted: log entry 10). The
octets that pass the tests of R10 are a record with the fields of section 11.1, undefined values decoded as R175 gives. It counts on
RECORDS_GOOD, leaves the pair quiet and realigns by its DEFERRED flag, with the boundary that may come before its refresh; whether
the own window is missed is read from the link state before that boundary (the model's reading, log entry 22). In JOINED and ALONE
the link state follows the live set after the record, or after its boundary. A STATUS or NOTICE refreshes its origin's entry, or
replaces it and counts on TAG_CHANGE, ends that position's phantom hold, and then refreshes the entries of its summaries by the age
test, one at a time. A CHECK refreshes none: the bits of its payload that differ from the sequence of R16 go to LINE_BIT_ERRORS and
it counts on CHECK_RECORDS_SEEN. Before commit no entry is refreshed. -/
def Obligations.AcceptedRecordRefreshesItsEntry : Prop :=
  (∀ ws : List WireOctet, PassesTests ws → ∃ r, acceptRecord ws = some r ∧ ReadsAs ws r) ∧
  (∀ (ws : List WireOctet) (r : Record) (c : Committed) (s : State), s.inReset = false →
    framed ws.length s → acceptRecord ws = some r → r.mark ≠ .check → s.mpt.committed = some c → c.position ≠ r.origin →
    ∃ t, exec (.recordTaken ws) s = .next t ∧ Realigned ws.length r s t ∧ t.entry r.origin = afterRecord r (s.entry r.origin)
      ∧ (∀ p, p ≠ c.position → p ≠ r.origin →
          t.entry p = (r.summaries.filter (fun m => decide (m.origin = p))).foldl (fun e m => afterSummary r.origin m e)
            (if takesBoundary r s then agedEntry (s.entry p) else s.entry p))
      ∧ t.cpa.holds.get r.origin = none ∧ t.pairBusy = false ∧ t.clc.reception = .ready ∧ FollowsLiveSet s t
      ∧ t.clc.counters = { s.clc.counters with
          recordsGood := min 65535 (s.clc.counters.recordsGood + 1)
          windowMissed := t.clc.counters.windowMissed
          tagChange := if replaces (s.entry r.origin) r then min 65535 (s.clc.counters.tagChange + 1)
            else s.clc.counters.tagChange }
      ∧ t.lmn = s.lmn ∧ t.mpt = s.mpt ∧ t.pins = s.pins) ∧
  (∀ (ws : List WireOctet) (r : Record) (s : State), s.inReset = false → framed ws.length s →
    acceptRecord ws = some r → r.mark = .check → s.ownPosition ≠ some r.origin →
    ∃ t, exec (.recordTaken ws) s = .next t ∧ Realigned ws.length r s t ∧ t.pairBusy = false ∧ t.clc.reception = .ready
      ∧ (∀ p, s.ownPosition ≠ some p →
          t.entry p = if takesBoundary r s then agedEntry (s.entry p) else s.entry p)
      ∧ (takesBoundary r s = true → FollowsLiveSet s t)
      ∧ t.clc.counters = { s.clc.counters with
          recordsGood := min 65535 (s.clc.counters.recordsGood + 1)
          windowMissed := t.clc.counters.windowMissed
          lineBitErrors := min 65535 (s.clc.counters.lineBitErrors
            + wrongBits (expectedPayload r.origin r.cycle) r.payload)
          checkRecordsSeen := min 65535 (s.clc.counters.checkRecordsSeen + 1) }
      ∧ t.lmn = s.lmn ∧ t.mpt = s.mpt ∧ t.pins = s.pins) ∧
  (∀ (ws : List WireOctet) (r : Record) (s : State), s.inReset = false → framed ws.length s →
    acceptRecord ws = some r → r.mark ≠ .check → s.mpt.committed = none →
    ∃ t, exec (.recordTaken ws) s = .next t ∧ Realigned ws.length r s t
      ∧ (∀ p, t.entry p = if takesBoundary r s then agedEntry (s.entry p) else s.entry p)
      ∧ t.clc.counters.recordsGood = min 65535 (s.clc.counters.recordsGood + 1))

/-- An accepted record with the own position moves nothing in the window or the cycle, refreshes no entry and compares nothing (R4,
R11), and it leaves the pair quiet. -/
def NotRealigned (s t : State) : Prop :=
  t.clc.windowIndex = s.clc.windowIndex ∧ t.clc.windowTimer = s.clc.windowTimer ∧ t.clc.cycleCount = s.clc.cycleCount
    ∧ t.clc.repeatMark = s.clc.repeatMark ∧ t.table = s.table ∧ t.pairBusy = false ∧ t.clc.reception = .ready

/-- RECORD_TAKEN of an accepted record with the own position, framed by quiet before it (log entry 10): no realignment, nothing
handed on. With another tag: RECORDS_GOOD and DUP_POSITION_SEEN, DUPLICATE_POSITION and SILENCED, which ends a deferral (the model's
choice, log entry 21). With the own tag RECORDS_GOOD counts one, and nothing further happens. No command but POWER_ON_RESET leaves
SILENCED, in a state whose commit and link states agree. -/
def Obligations.DuplicatePositionSilencesTheStation : Prop :=
  (∀ (ws : List WireOctet) (r : Record) (c : Committed) (s : State), s.inReset = false →
    framed ws.length s → acceptRecord ws = some r → s.mpt.committed = some c → r.origin = c.position → r.tag ≠ c.tag →
    ∃ t, exec (.recordTaken ws) s = .next t ∧ t.clc.linkState = .silenced ∧ NotRealigned s t ∧ t.clc.tx = .idle
      ∧ t.clc.counters = { s.clc.counters with
          recordsGood := min 65535 (s.clc.counters.recordsGood + 1)
          dupPositionSeen := min 65535 (s.clc.counters.dupPositionSeen + 1) }
      ∧ t.faultActive .duplicatePosition = true
      ∧ (noCheckOnPair s → t.clc.remainingCheck = s.clc.remainingCheck)) ∧
  (∀ (ws : List WireOctet) (r : Record) (c : Committed) (s : State), s.inReset = false →
    framed ws.length s → acceptRecord ws = some r → s.mpt.committed = some c → r.origin = c.position → r.tag = c.tag →
    ∃ t, exec (.recordTaken ws) s = .next t ∧ NotRealigned s t
      ∧ t.clc.counters = { s.clc.counters with recordsGood := min 65535 (s.clc.counters.recordsGood + 1) }
      ∧ (noCheckOnPair s → t.clc.linkState = s.clc.linkState ∧ t = { s with clc := t.clc })) ∧
  (∀ (cmd : Instr) (s t : State), cmd ≠ .powerOnReset → CommitFitsLink s → s.clc.linkState = .silenced →
    exec cmd s = .next t → t.clc.linkState = .silenced)

/-! ## Views of the table and the permit -/

/-- The live set (R46). -/
def Obligations.LiveSetIsTheOtherLiveEntries : Prop :=
  ∀ s : State,
    (∀ p, p ∈ s.liveSet ↔ s.ownPosition ≠ some p ∧ (s.entry p).state = .live) ∧ s.liveSet.Nodup
      ∧ (s.ownPosition.isSome = true → s.liveSet.length ≤ 7)
      ∧ (∀ p v, s.ownPosition ≠ some p → (s.entry p).state = .live → (s.entry p).source = .relayed v →
          p ∈ s.liveSet ∧ s.joinedOrAlone = .joined)
      ∧ (s.joinedOrAlone = if s.liveSet.length = 0 then .alone else .joined)

/-- Permit in use (R48). -/
def Obligations.PermitInUseIsAPeerOrAHold : Prop :=
  ∀ s : State, s.permitInUse = true ↔
    (∃ p, s.ownPosition ≠ some p ∧ ((s.entry p).state = .live ∨ (s.entry p).state = .stale)
      ∧ ((s.entry p).engine = .prelube ∨ (s.entry p).engine = .cranking ∨ (s.entry p).engine = .firing))
    ∨ ∃ p, (s.cpa.holds.get p).isSome = true

/-- The claim list is ordered by claim age, larger first, and of equal ages by position, lower first; no position stands in it
twice, and its members are the own claim and the claims of the other LIVE and STALE entries. -/
def Obligations.ClaimListIsOrdered : Prop :=
  ∀ s : State,
    s.claimList.Pairwise (fun a b => b.age < a.age ∨ (a.age = b.age ∧ a.position < b.position)) ∧
    ∀ m : ClaimMember, m ∈ s.claimList ↔
      (s.ownPosition = some m.position ∧ s.cpa.claim = some m.age)
      ∨ (s.ownPosition ≠ some m.position ∧ (s.entry m.position).claim = some m.age
          ∧ ((s.entry m.position).state = .live ∨ (s.entry m.position).state = .stale))

/-- The own member is first in the claim list (R47, R58): the list holds it, and every other LIVE or STALE entry's claim is younger,
or as old with a higher position. -/
def FirstInTheList (s : State) : Prop :=
  ∃ own a, s.ownPosition = some own ∧ s.cpa.claim = some a ∧
    ∀ p b, s.ownPosition ≠ some p → (s.entry p).state = .live ∨ (s.entry p).state = .stale → (s.entry p).claim = some b →
      b < a ∨ (b = a ∧ own < p)

/-- The six conditions of a grant (R59): the claim settled and first, the permit free, the link JOINED or ALONE, ESTOP clear, and
the latest battery sample at or above 58.0 V. -/
def PermitDue (s : State) : Prop :=
  (∃ a, s.cpa.claim = some a ∧ 3 ≤ a) ∧ FirstInTheList s ∧ s.permitInUse = false
    ∧ (s.clc.linkState = .joined ∨ s.clc.linkState = .alone) ∧ s.estop = false ∧ ∃ v, s.lmn.sample = some v ∧ 232 ≤ v

/-- The command is one event for the blocks: no CHECK record of the station is ended by it, and a record that it brings causes no
boundary and carries no summary. -/
def OneEvent (cmd : Instr) (s : State) : Prop :=
  noCheckOnPair s ∧ ∀ ws r, cmd = .recordTaken ws → acceptRecord ws = some r → r.deferred = true ∧ r.summaries = []

/-- The permit is granted at a test in CLAIMING exactly where its six conditions hold, and at no other test, so that PRELUBE is
entered from CLAIMING alone, with a claim of age 3 or more; after a command that is one event the six conditions stand as they were
at the grant. BATTERY_SAMPLE in CLAIMING, with the sample as the latest one, grants where they hold, and PRELUBE is entered with RUN
ordered and the claim kept; where one fails the engine stays CLAIMING with its claim. First in the claim list is being in it with no
member earlier. -/
def Obligations.PermitIsGrantedOnItsSixConditions : Prop :=
  (∀ (mv a : Nat) (s : State), s.lmn.sampleTimer.isSome = true → s.ssq.engine = .claiming → s.cpa.claim = some a →
    3 ≤ a → s.ownFirst = true → s.permitInUse = false → s.clc.linkState = .joined ∨ s.clc.linkState = .alone →
    s.estop = false → 58000 ≤ mv →
    ∃ t, exec (.batterySample mv) s = .next t ∧ t.ssq.engine = .prelube ∧ t.cpa.claim = some a ∧ t.seqHas .run = true
      ∧ t.ssq.prelube = some 60000 ∧ t.ssq.prelubeTick = some 500) ∧
  (∀ s : State, s.ownFirst = true ↔ FirstInTheList s) ∧
  (∀ s : State, s.ssq.engine = .claiming → PermitDue s →
    (grantTest s).ssq.engine = .prelube ∧ (grantTest s).cpa.claim = s.cpa.claim) ∧
  (∀ s : State, s.ssq.engine ≠ .claiming ∨ ¬ PermitDue s → grantTest s = s) ∧
  (∀ (mv : Nat) (s : State), s.lmn.sampleTimer.isSome = true → s.ssq.engine = .claiming →
    ¬ PermitDue { s with lmn := { s.lmn with sample := some (min 511 (mv / 250)) } } →
    ∃ t, exec (.batterySample mv) s = .next t ∧ t.ssq.engine = .claiming ∧ t.cpa.claim = s.cpa.claim) ∧
  (∀ (cmd : Instr) (s t : State), exec cmd s = .next t → s.ssq.engine ≠ .prelube → t.ssq.engine = .prelube →
    s.ssq.engine = .claiming ∧ (∃ a, t.cpa.claim = some a ∧ 3 ≤ a) ∧ (OneEvent cmd s → PermitDue t))

/-- A yield is counted on PERMIT_CLASH, which saturates, is 0 after power-on reset, is left by a fault reset, and is read at 0xF0; a
ruling to keep the permit is not counted, and neither raises a fault (R71). -/
def Obligations.YieldsAreCountedOnPermitClash : Prop :=
  (∀ s : State, (s.ssq.engine = .prelube ∨ s.ssq.engine = .cranking) → s.inClash = true → s.mustYield = true →
    (clashTest s).cpa.permitClash = min 65535 (s.cpa.permitClash + 1)
      ∧ ∀ k, (clashTest s).faultActive k = true → s.faultActive k = true) ∧
  (∀ s : State, s.mustYield = false → clashTest s = s) ∧
  State.reset.cpa.permitClash = 0 ∧
  (∀ s : State, (faultReset s).cpa.permitClash = s.cpa.permitClash) ∧
  (∀ s : State, s.windowOctet 0xF0 = BitVec.ofNat 8 (s.cpa.permitClash % 256)
    ∧ s.windowOctet 0xF1 = BitVec.ofNat 8 (s.cpa.permitClash / 256 % 256) ∧ 0xF0 ∈ lowOffsets)

/-- An order of the Start Sequencer is on its way: in the sequence order list, or in the SEQUENCE slot (R75). -/
def Waits (o : Order) (t : State) : Prop :=
  o ∈ t.ssq.seqList ∨ ∃ r, t.erc.slots.sequence.request = some r ∧ r.order = o

/-- The entry of another position is a clashing peer (R66). -/
def clashesWith (s : State) (p : Fin 8) : Prop :=
  s.ownPosition ≠ some p ∧ ((s.entry p).state = .live ∨ (s.entry p).state = .stale)
    ∧ ((s.entry p).engine = .prelube ∨ (s.entry p).engine = .cranking ∨ (s.entry p).engine = .firing)

/-- The own unit, at position `own` with a claim of age `a`, ranks later than the peer at `p`: by claim age, larger first, then by
position, and by position alone where the peer's entry holds no claim (R47, R58, R67). -/
def ranksLater (own : Fin 8) (a : Nat) (s : State) (p : Fin 8) : Prop :=
  match (s.entry p).claim with
  | some b => a < b ∨ (a = b ∧ p < own)
  | none => p < own

/-- The station is in a clash in PRELUBE or CRANKING with a peer LIVE or STALE in PRELUBE, CRANKING or FIRING, and the ruling is to
yield where such a peer is in FIRING or the own unit ranks later than one. A clash that is ruled against the station: PRELUBE goes
back to CLAIMING with its claim and PRELUBE STOP ordered, CRANKING to CRANK_REST without it, with STARTER DISENGAGE ordered, and
PRELUBE STOP where the pump is held. The ruling comes at each change of an entry (R66): in PRELUBE a
record, or a first summary that is applied, that shows a unit in FIRING is a yield counted on PERMIT_CLASH, whatever a later
summary of the record shows; the record is framed by quiet before it (log entry 10). -/
def Obligations.YieldGivesThePermitUp : Prop :=
  (∀ s : State, s.inClash = true ↔ (s.ssq.engine = .prelube ∨ s.ssq.engine = .cranking) ∧ ∃ p, clashesWith s p) ∧
  (∀ (own : Fin 8) (a : Nat) (s : State), s.ownPosition = some own → s.cpa.claim = some a →
    (s.mustYield = true ↔ ∃ p, clashesWith s p ∧ ((s.entry p).engine = .firing ∨ ranksLater own a s p))) ∧
  (∀ s : State, s.inClash = true → s.mustYield = true →
    (s.ssq.engine = .prelube → (clashTest s).ssq.engine = .claiming ∧ (clashTest s).cpa.claim = s.cpa.claim
      ∧ (s.estop = false → Waits .stop (clashTest s))) ∧
    (s.ssq.engine = .cranking → (clashTest s).ssq.engine = .crankRest ∧ (clashTest s).cpa.claim = none
      ∧ (clashTest s).fuelRun = false ∧ (clashTest s).ssq.attempts = s.ssq.attempts
      ∧ (clashTest s).ssq.rest = some 30000
      ∧ (s.estop = false → Waits .disengage (clashTest s) ∧ (s.ssq.pumpHeld = true → Waits .stop (clashTest s))))) ∧
  (∀ (ws : List WireOctet) (r : Record) (c : Committed) (s : State), s.inReset = false →
    framed ws.length s → acceptRecord ws = some r → r.mark ≠ .check → r.deferred = true → s.mpt.committed = some c →
    c.position ≠ r.origin → s.ssq.engine = .prelube →
    (r.contents.engine = .firing →
      ∃ t, exec (.recordTaken ws) s = .next t ∧ t.ssq.engine = .claiming ∧ t.cpa.claim = s.cpa.claim
        ∧ t.cpa.permitClash = min 65535 (s.cpa.permitClash + 1)) ∧
    (∀ (m : Summary) (ms : List Summary), r.summaries = m :: ms → m.origin ≠ c.position → m.origin ≠ r.origin →
      m.engine = .firing → m.age ≤ 48 → (s.entry m.origin).state = .absent ∨ m.age + 1 < (s.entry m.origin).age →
      ∃ t, exec (.recordTaken ws) s = .next t ∧ t.cpa.permitClash = min 65535 (s.cpa.permitClash + 1)))

/-! ## The command lines -/

/-- LINE_LEVEL_CHANGE and DEMAND_CODE_CHANGE: the pin takes its new level or code, and the stability timer starts for it; nothing
else changes. -/
def Obligations.LevelAndCodeChangesStartTheirTimers : Prop :=
  (∀ (l : Line) (v : Bool) (s : State), s.inReset = false → s.pins.lines.get l ≠ v →
    exec (.lineLevelChange l v) s = .next { s with
      pins := { s.pins with lines := s.pins.lines.set l v }
      lmn := { s.lmn with lines := s.lmn.lines.set l ⟨(s.lmn.lines.get l).level,
        some (match l with | .estop => 20 | .runIso => 200 | _ => 100)⟩ } }) ∧
  (∀ (code : BitVec 4) (s : State), s.inReset = false → s.pins.demandCode ≠ code →
    exec (.demandCodeChange code) s = .next { s with
      pins := { s.pins with demandCode := code }
      nsp := { s.nsp with demandTimer := some (if (notchOfLines code).isSome then 60 else 500) } })

/-- LINE_STABILITY_EXPIRY: the level on the line becomes the debounced level of that line, and the other lines are untouched; a
level that equals the debounced one changes nothing more. -/
def Obligations.StableLevelIsTaken : Prop :=
  ∀ (l : Line) (s : State), (s.lmn.lines.get l).timer.isSome = true →
    (∃ t, exec (.lineStabilityExpiry l) s = .next t ∧ t.lmn.lines.get l = ⟨some (s.pins.lines.get l), none⟩
      ∧ (∀ k, k ≠ l → t.lmn.lines.get k = s.lmn.lines.get k) ∧ t.pins = s.pins ∧ t.table = s.table ∧ t.mpt = s.mpt)
    ∧ ((s.lmn.lines.get l).level = some (s.pins.lines.get l) →
        exec (.lineStabilityExpiry l) s = .next { s with
          lmn := { s.lmn with lines := s.lmn.lines.set l ⟨some (s.pins.lines.get l), none⟩ } })

/-- A START edge in STOPPED: accepted into CLAIMING with a claim of age 0 where the battery, the link and ESTOP allow it; else
START_REFUSED is raised and the engine stays STOPPED. In COOLDOWN it returns the engine to RUNNING with reason MANUAL, whatever
the reason was; in any other state it has no effect. -/
def Obligations.StartRequestClaimsOrIsRefused : Prop :=
  (∀ s : State, (s.lmn.lines.get .start).timer.isSome = true → (s.lmn.lines.get .start).level = some false →
    s.pins.lines.get .start = true →
    (s.ssq.engine = .stopped →
      ((∃ v, s.lmn.sample = some v ∧ 232 ≤ v) ∧ s.clc.linkState ≠ .silenced ∧ s.estop = false →
        ∃ t, exec (.lineStabilityExpiry .start) s = .next t ∧ t.ssq.engine = .claiming ∧ t.cpa.claim = some 0
          ∧ t.ssq.stopReason = s.ssq.stopReason ∧ t.faultActive .startRefused = false) ∧
      ((s.lmn.sample = none ∨ (∃ v, s.lmn.sample = some v ∧ v < 232) ∨ s.clc.linkState = .silenced ∨ s.estop = true) →
        ∃ t, exec (.lineStabilityExpiry .start) s = .next t ∧ t.ssq.engine = .stopped
          ∧ t.faultActive .startRefused = true)) ∧
    (s.ssq.engine = .cooldown →
      ∃ t, exec (.lineStabilityExpiry .start) s = .next t ∧ t.ssq.engine = .running ∧ t.ssq.stopReason = .manual
        ∧ t.ssq.cooldown = none ∧ t.ssq.stopInProgress = false ∧ t.ssq.fuelOrder = s.ssq.fuelOrder)) ∧
  (∀ s : State, s.ssq.engine ≠ .stopped → s.ssq.engine ≠ .cooldown → startRequest s = s)

/-- Where an entry to SHUTDOWN leads: it is left at once where the silence flag is set (R93). -/
def shutdownOf (s : State) : EngineState :=
  if s.lmn.silence = false then .shutdown else if s.lockoutActive then .lockedOut else .stopped

/-- The engine state that a stop request leads to; in RUNNING the engine stays, until the notch is 0 with no UP or DOWN step in
flight (R81, R90). -/
def stopTarget (s : State) : EngineState :=
  match s.ssq.engine with
  | .claiming | .prelube | .crankRest => .stopped
  | .cranking | .firing => shutdownOf s
  | .idleWarm => .cooldown
  | e => e

/-- A STOP edge, by engine state: where it leads, and with stop reason MANUAL; in RUNNING with a notch carried or an UP or DOWN
step in flight it sets stop in progress, and with neither it enters COOLDOWN; in LOCKED_OUT it has no effect. It withdraws the
claim; from CRANKING and FIRING it clears the fuel order. Where ESTOP does not hold orders back, STARTER DISENGAGE, PRELUBE STOP
and GOVERNOR FUEL_OFF are on their way after it from CRANKING, FUEL_OFF from FIRING, and PRELUBE STOP from PRELUBE. -/
def Obligations.StopRequestByEngineState : Prop :=
  ∀ s : State, (s.lmn.lines.get .stop).timer.isSome = true → (s.lmn.lines.get .stop).level = some false →
    s.pins.lines.get .stop = true →
    (s.ssq.engine ≠ .running → s.ssq.engine ≠ .lockedOut →
      ∃ t, exec (.lineStabilityExpiry .stop) s = .next t ∧ t.ssq.engine = stopTarget s ∧ t.ssq.stopReason = .manual
        ∧ (s.ssq.engine = .claiming ∨ s.ssq.engine = .prelube ∨ s.ssq.engine = .cranking → t.cpa.claim = none)
        ∧ (s.ssq.engine = .cranking ∨ s.ssq.engine = .firing → t.ssq.fuelOrder = false)
        ∧ (s.ssq.engine = .cranking → s.estop = false → Waits .disengage t ∧ Waits .stop t ∧ Waits .fuelOff t)
        ∧ (s.ssq.engine = .firing → s.estop = false → Waits .fuelOff t)
        ∧ (s.ssq.engine = .prelube → s.estop = false → Waits .stop t)) ∧
    (s.ssq.engine = .running → s.nsp.completed ≠ 0 ∨ (∃ x, s.nsp.step = some x ∧ x.direction ≠ .retry) →
      ∃ t, exec (.lineStabilityExpiry .stop) s = .next t ∧ t.ssq.engine = .running ∧ t.ssq.stopInProgress = true
        ∧ t.cap = 0) ∧
    (s.ssq.engine = .running → s.nsp.completed = 0 → (∀ x, s.nsp.step = some x → x.direction = .retry) →
      ∃ t, exec (.lineStabilityExpiry .stop) s = .next t ∧ t.ssq.engine = .cooldown ∧ t.ssq.stopReason = .manual
        ∧ t.ssq.cooldown = some 60000 ∧ t.ssq.stopInProgress = false ∧ t.ssq.fuelOrder = s.ssq.fuelOrder) ∧
    (s.ssq.engine = .lockedOut →
      ∃ t, exec (.lineStabilityExpiry .stop) s = .next t ∧ t.ssq.engine = .lockedOut
        ∧ t.ssq.stopReason = s.ssq.stopReason)

/-- The one case in which the order of an ESTOP assertion matters to the engine (R139): STARTER ENGAGE pending in CRANKING, and the
channel takes the assertion first. -/
def engageRefusedFirst (s : State) : Prop :=
  s.ssq.engine = .cranking ∧ (∃ r, s.erc.slots.sequence = .pending r ∧ r.order = .engage)
    ∧ Config.inhibitFirst s.freeCount = true

/-- The orders of a protective sequence that STARTER_STUCK does not start, in their order (R77). -/
def protectiveOrders (s : State) : List Order :=
  (if s.ssq.engine = .cranking ∨ s.ssq.releasePending = true then [.disengage] else [])
    ++ (if s.ssq.pumpHeld = true then [.stop] else []) ++ [.unload, .fuelOff]

/-- These orders wait in the protective order list, but for the first, which an empty PROTECT slot takes at once (R77, R131). -/
def ProtectiveOrdersWait (l : List Order) (s t : State) : Prop :=
  if s.erc.slots.protect = .empty then
    t.erc.slots.protect.request = l.head?.map (fun o => ⟨o, 0, .ssq⟩) ∧ t.ssq.protList = l.tail
  else t.erc.slots.protect = s.erc.slots.protect ∧ t.ssq.protList = l

/-- An ESTOP assertion: FUEL_RUN is deasserted and EMERGENCY_STOP active in every state, and the sequence order list is emptied in
every state (R75; that STOPPED and LOCKED_OUT are no exception, where R95 names no further change, is deduced, log entry 12).
STOPPED and LOCKED_OUT stay, with their stop reason; every other state goes to SHUTDOWN, which is left at once where the silence
flag is set, with stop reason MANUAL, no claim, and no urgent-unload order left, and builds the protective order list: DISENGAGE
from CRANKING or with release pending, STOP with the pump held, UNLOAD, FUEL_OFF. A pending request other than PROTECT's is refused
or withdrawn. Where a pending STARTER ENGAGE is refused before the assertion is taken, it is a failed attempt too, and the third
leaves LOCKED_OUT. -/
def Obligations.EstopAssertionStopsTheEngine : Prop :=
  ∀ s : State, (s.lmn.lines.get .estop).timer.isSome = true → (s.lmn.lines.get .estop).level ≠ some true →
    s.pins.lines.get .estop = true →
    (∃ t, exec (.lineStabilityExpiry .estop) s = .next t ∧ t.fuelRun = false ∧ t.estop = true
      ∧ t.faultActive .emergencyStop = true ∧ t.ssq.seqList = [] ∧ t.erc.slots.sequence.isPending = false
      ∧ t.erc.slots.notch.isPending = false ∧ t.erc.slots.poll.isPending = false) ∧
    (s.ssq.engine = .stopped →
      ∃ t, exec (.lineStabilityExpiry .estop) s = .next t ∧ t.ssq.engine = .stopped
        ∧ t.ssq.stopReason = s.ssq.stopReason) ∧
    (s.ssq.engine = .lockedOut →
      ∃ t, exec (.lineStabilityExpiry .estop) s = .next t ∧ t.ssq.engine = .lockedOut
        ∧ t.ssq.stopReason = s.ssq.stopReason) ∧
    (ClaimFitsEngine s → s.ssq.engine ≠ .stopped → s.ssq.engine ≠ .lockedOut → ¬ engageRefusedFirst s →
      ∃ t, exec (.lineStabilityExpiry .estop) s = .next t
        ∧ t.ssq.engine = (if s.ssq.engine = .shutdown then .shutdown else shutdownOf s) ∧ t.ssq.stopReason = .manual
        ∧ t.cpa.claim = none ∧ t.ssq.fuelOrder = false ∧ t.nsp.urgentList = []) ∧
    (s.ssq.engine ≠ .stopped → s.ssq.engine ≠ .lockedOut → ¬ engageRefusedFirst s →
      s.ssq.releasePending = true ∨ (∀ r, s.erc.slots.sequence = .pending r → r.order ≠ .disengage) →
      ∃ t, exec (.lineStabilityExpiry .estop) s = .next t ∧ ProtectiveOrdersWait (protectiveOrders s) s t) ∧
    (engageRefusedFirst s →
      (s.ssq.attempts < 2 →
        ∃ t, exec (.lineStabilityExpiry .estop) s = .next t ∧ t.ssq.engine = shutdownOf s ∧ t.ssq.stopReason = .manual
          ∧ (s.lmn.silence = false → t.ssq.attempts = s.ssq.attempts + 1) ∧ t.ssq.lastCause = some .starterFail
          ∧ t.faultActive .crankFail = true ∧ t.cpa.claim = none ∧ t.ssq.fuelOrder = false) ∧
      (2 ≤ s.ssq.attempts →
        ∃ t, exec (.lineStabilityExpiry .estop) s = .next t ∧ t.ssq.engine = .lockedOut ∧ t.ssq.attempts = 3
          ∧ t.ssq.lastCause = some .starterFail ∧ t.faultActive .crankLockout = true ∧ t.cpa.claim = none
          ∧ t.ssq.fuelOrder = false))

/-- While ESTOP is asserted a start request in STOPPED is refused and no SEQUENCE order is added; the release clears
EMERGENCY_STOP and tests the autorestart triggers in STOPPED with reason AUTO; it restarts nothing else, so that the engine state,
STOPPED, SHUTDOWN or LOCKED_OUT as ESTOP holds it, stays otherwise (R96). -/
def Obligations.EstopHoldsStartsAndOrders : Prop :=
  (∀ s : State, s.estop = true → s.ssq.engine = .stopped → startRequest s = raiseFault .startRefused s) ∧
  (∀ s : State, s.estop = true → s.ssq.engine = .stopped →
    triggerTest s = s ∨ triggerTest s = raiseFault .startRefused s) ∧
  (∀ (o : Order) (s : State), s.estop = true → addSeq o s = s) ∧
  (∀ s : State, (s.lmn.lines.get .estop).timer.isSome = true → (s.lmn.lines.get .estop).level = some true →
    s.pins.lines.get .estop = false →
    ∃ t, exec (.lineStabilityExpiry .estop) s = .next t ∧ t.estop = false ∧ t.faultActive .emergencyStop = false
      ∧ (EstopFitsEngine s → ¬ (s.ssq.engine = .stopped ∧ s.ssq.stopReason = .auto) →
          t.ssq.engine = s.ssq.engine)) ∧
  (∀ s : State, (estopRelease s).faultActive .emergencyStop = false
    ∧ (¬ (s.ssq.engine = .stopped ∧ s.ssq.stopReason = .auto) →
        estopRelease s = clearFault .emergencyStop (setLevel .estop false s))
    ∧ (s.ssq.engine = .stopped → s.ssq.stopReason = .auto →
        estopRelease s = triggerTest (clearFault .emergencyStop (setLevel .estop false s))))

/-- A fault reset: every device OK, the first-fault record empty, PRELUBE_FAIL and STALL gone, the lockout kinds gone exactly if the
silence flag is set, DUPLICATE_POSITION and CRANK_FAIL kept, LOCKED_OUT left for STOPPED with reason MANUAL if it is set, and the
Start Sequencer unmoved in any other state. Where it meets the expiry of the silence timer, the flag is set for it, and SHUTDOWN and
LOCKED_OUT end in STOPPED with the lockout kinds gone (that the reset is then the first of the two is the model's choice, log
entry 32). A latched kind that enters while the first-fault record is empty fills it with the engine state and the cycle count;
any other raise leaves the record. -/
def Obligations.FaultResetByClass : Prop :=
  (∀ s : State, (s.lmn.lines.get .freset).timer.isSome = true → (s.lmn.lines.get .freset).level = some false →
    s.pins.lines.get .freset = true → EstopFitsEngine s → s.lmn.silenceTimer ≠ some 0 →
    ∃ t, exec (.lineStabilityExpiry .freset) s = .next t ∧ (∀ d, t.erc.health.get d = ⟨0, 0, none⟩)
      ∧ t.fcl.firstFault = none ∧ t.faultActive .prelubeFail = false ∧ t.faultActive .stall = false
      ∧ (∀ k, k = .crankLockout ∨ k = .starterStuck ∨ k = .overspeed ∨ k = .oilLow →
          t.faultActive k = (s.faultActive k && !s.lmn.silence))
      ∧ t.faultActive .duplicatePosition = s.faultActive .duplicatePosition
      ∧ t.faultActive .crankFail = s.faultActive .crankFail ∧ t.fcl.crankFailTimer = s.fcl.crankFailTimer
      ∧ t.clc.counters = s.clc.counters ∧ t.table = s.table ∧ t.mpt = s.mpt ∧ t.lmn.measured = s.lmn.measured
      ∧ (s.ssq.engine = .lockedOut → s.lmn.silence = true →
          t.ssq.engine = .stopped ∧ t.ssq.stopReason = .manual ∧ t.ssq.attempts = 0 ∧ t.ssq.overspeedMark = false)
      ∧ (s.ssq.engine = .lockedOut → s.lmn.silence = false → t.ssq.engine = .lockedOut)) ∧
  (∀ s : State, (s.ssq.engine ≠ .lockedOut ∨ s.lmn.silence = false) → (faultReset s).ssq = s.ssq) ∧
  (∀ s : State, (s.lmn.lines.get .freset).timer.isSome = true → (s.lmn.lines.get .freset).level = some false →
    s.pins.lines.get .freset = true → s.lmn.silenceTimer = some 0 → s.ssq.stopReason = .manual →
    s.ssq.engine = .shutdown ∨ s.ssq.engine = .lockedOut →
    ∃ t, exec (.lineStabilityExpiry .freset) s = .next t ∧ t.ssq.engine = .stopped ∧ t.lmn.silence = true
      ∧ t.lmn.measured = 0 ∧ t.lmn.silenceTimer = none ∧ (∀ d, t.erc.health.get d = ⟨0, 0, none⟩)
      ∧ t.fcl.firstFault = none ∧ t.alarmLamp = s.faultActive .duplicatePosition
      ∧ (∀ k, k = .crankLockout ∨ k = .starterStuck ∨ k = .overspeed ∨ k = .oilLow → t.faultActive k = false)) ∧
  (∀ (k : FaultKind) (s : State), (raiseFault k s).fcl.firstFault =
    if s.faultActive k = false ∧ s.fcl.firstFault = none ∧
        (k = .duplicatePosition ∨ k = .crankLockout ∨ k = .starterStuck ∨ k = .overspeed ∨ k = .oilLow ∨ k = .prelubeFail
          ∨ k = .stall) then
      some ⟨k, s.ssq.engine, s.clc.cycleCount⟩
    else s.fcl.firstFault)

/-- What taking an urgent unload leaves (R122): notch 0, no step and no NOTCH request waiting, no abandon hold, governor owed
cleared, the watch idle, and the unload orders on their way; the dwell clock starts from zero, but where the notch of 0 ends
RUNNING. -/
def UrgentUnload (s t : State) : Prop :=
  t.nsp.completed = 0 ∧ t.nsp.step = none ∧ t.erc.slots.notch.isPending = false ∧ t.nsp.abandonHold = none
    ∧ t.nsp.governorOwed = false ∧ t.nsp.watch = none ∧ t.cap = 0
    ∧ (t.nsp.urgentList = [.unload, .setSpeed] ∨
        (t.nsp.urgentList = [.setSpeed] ∧ t.erc.slots.protect.request.map Request.order = some .unload))
    ∧ (s.ssq.stopInProgress = false → s.ssq.idleElapsed = false → t.nsp.dwell = some 0)

/-- RUN_ISO taken as ISOLATE in RUNNING, with a notch carried or a step in flight, is an urgent unload: notch 0 and no step at
once, no abandon hold, and the unload orders on their way; the cap is 0. With neither, or in another engine state, nothing is
unloaded. -/
def Obligations.IsolationUnloadsAtOnce : Prop :=
  (∀ s : State, (s.lmn.lines.get .runIso).timer.isSome = true → (s.lmn.lines.get .runIso).level = some false →
    s.pins.lines.get .runIso = true → s.ssq.engine = .running → 0 < s.nsp.completed ∨ s.nsp.step ≠ none →
    ∃ t, exec (.lineStabilityExpiry .runIso) s = .next t ∧ UrgentUnload s t) ∧
  (∀ s : State, (s.lmn.lines.get .runIso).timer.isSome = true → (s.lmn.lines.get .runIso).level = some false →
    s.pins.lines.get .runIso = true → s.ssq.engine ≠ .running ∨ (s.nsp.completed = 0 ∧ s.nsp.step = none) →
    s.nsp.urgentList = [] →
    ∃ t, exec (.lineStabilityExpiry .runIso) s = .next t ∧ t.nsp.completed = s.nsp.completed ∧ t.nsp.urgentList = []
      ∧ t.cap = 0)

/-! ## Demand, derate and the notch -/

/-- The nine valid demand codes ABCD, in the order of their notches (R103). -/
def demandCodes : List (BitVec 4) := [0b0000, 0b0001, 0b0011, 0b0010, 0b0110, 0b0111, 0b0101, 0b0100, 0b1100]

/-- DEMAND_STABILITY_EXPIRY: a valid code sets the reading to its notch and clears DEMAND_INVALID; an invalid one makes it INVALID
and raises it. -/
def Obligations.DemandCodeIsTaken : Prop :=
  ∀ s : State, s.nsp.demandTimer.isSome = true →
    (∀ n, demandCodes[n]? = some s.pins.demandCode →
      ∃ t, exec .demandStabilityExpiry s = .next t ∧ t.nsp.reading = some n ∧ t.nsp.demandTimer = none
        ∧ t.faultActive .demandInvalid = false ∧ KeepsOutside s t) ∧
    (s.pins.demandCode ∉ demandCodes →
      ∃ t, exec .demandStabilityExpiry s = .next t ∧ t.nsp.reading = none ∧ t.nsp.demandTimer = none
        ∧ t.faultActive .demandInvalid = true ∧ t.effectiveDemand = 0 ∧ t.targetNotch = 0 ∧ KeepsOutside s t)

/-- The expiries that only raise or drop a fault kind: DISAGREEMENT_TIMER_EXPIRY, DEVIATION_WATCH_EXPIRY and
CRANK_FAIL_HOLD_EXPIRY. -/
def Obligations.FaultTimersExpire : Prop :=
  (∀ s : State, s.nsp.disagreeTimer.isSome = true →
    ∃ t, exec .disagreementTimerExpiry s = .next t ∧ t.faultActive .demandDisagree = true
      ∧ t = { s with nsp := { s.nsp with disagreeTimer := none }, fcl := t.fcl }) ∧
  (∀ s : State, s.nsp.watch.isSome = true →
    ∃ t, exec .deviationWatchExpiry s = .next t ∧ t.faultActive .speedDeviation = true
      ∧ t = { s with nsp := { s.nsp with watch := none }, fcl := t.fcl }) ∧
  (∀ s : State, s.fcl.crankFailTimer.isSome = true →
    ∃ t, exec .crankFailHoldExpiry s = .next t ∧ t.faultActive .crankFail = false ∧ t.fcl.crankFailCause = none
      ∧ t = { s with fcl := t.fcl } ∧ t.fcl.notices = s.fcl.notices ∧ t.fcl.firstFault = s.fcl.firstFault
      ∧ ∀ k, k ≠ .crankFail → t.faultActive k = s.faultActive k)

/-- A derate condition is present in an update with these two data octets (R108, R176): each octet less 50 is the temperature. -/
def presentAt (c : Derate) (d0 d1 : Byte) : Bool :=
  match c with
  | .coolantWarm => decide (148 ≤ d0.toNat)
  | .coolantHigh => decide (154 ≤ d0.toNat)
  | .coolantVeryHigh => decide (160 ≤ d0.toNat)
  | .intakeWarm => decide (105 ≤ d1.toNat)
  | .intakeHigh => decide (115 ≤ d1.toNat)
  | .intakeVeryHigh => decide (125 ≤ d1.toNat)

/-- A derate condition after an update (the table of R108): released, its apply timer of 2 s runs while it is present; applied, its
release timer of 10 s runs while it is absent. -/
def derateAfter (x : DerateCond) (present : Bool) : DerateCond :=
  match x.applied, present with
  | false, true => { x with applyTimer := if x.applyTimer.isSome then x.applyTimer else some 2000 }
  | false, false => { x with applyTimer := none }
  | true, false => { x with releaseTimer := if x.releaseTimer.isSome then x.releaseTimer else some 10000 }
  | true, true => { x with releaseTimer := none }

/-- DERATE_APPLY_TIMER_EXPIRY and DERATE_RELEASE_TIMER_EXPIRY: the condition is applied or released with its timers stopped, the
other conditions stay, and coolant very high raises or clears COOLANT_HOT. Coolant very high makes the derate cap 0: as it becomes
applied in RUNNING, with a notch carried or a step in flight, an urgent unload is taken, and with neither, or in another engine
state, nothing is unloaded. At the ACCEPT of a SENSORS READ each condition starts or
stops its timers by the temperatures of that update. Which replies end a transaction soon after reset release rests on log
entry 38. -/
def Obligations.DerateConditionsApplyAndRelease : Prop :=
  (∀ (c : Derate) (s : State), (s.nsp.derates.get c).applyTimer.isSome = true →
    ∃ t, exec (.derateApplyTimerExpiry c) s = .next t ∧ t.nsp.derates.get c = ⟨true, none, none⟩
      ∧ (∀ d, d ≠ c → t.nsp.derates.get d = s.nsp.derates.get d)
      ∧ (c = .coolantVeryHigh → t.faultActive .coolantHot = true ∧ t.derateCap = 0 ∧ t.targetNotch = 0)
      ∧ KeepsOutside s t) ∧
  (∀ s : State, (s.nsp.derates.get .coolantVeryHigh).applyTimer.isSome = true →
    (s.nsp.derates.get .coolantVeryHigh).applied = false →
    (s.ssq.engine = .running → 0 < s.nsp.completed ∨ s.nsp.step ≠ none →
      ∃ t, exec (.derateApplyTimerExpiry .coolantVeryHigh) s = .next t ∧ UrgentUnload s t) ∧
    (s.ssq.engine ≠ .running ∨ (s.nsp.completed = 0 ∧ s.nsp.step = none) → s.nsp.urgentList = [] →
      ∃ t, exec (.derateApplyTimerExpiry .coolantVeryHigh) s = .next t ∧ t.nsp.completed = s.nsp.completed
        ∧ t.nsp.urgentList = [])) ∧
  (∀ (c : Derate) (s : State), (s.nsp.derates.get c).releaseTimer.isSome = true →
    ∃ t, exec (.derateReleaseTimerExpiry c) s = .next t ∧ t.nsp.derates.get c = ⟨false, none, none⟩
      ∧ (∀ d, d ≠ c → t.nsp.derates.get d = s.nsp.derates.get d)
      ∧ (c = .coolantVeryHigh → t.faultActive .coolantHot = false) ∧ KeepsOutside s t) ∧
  (∀ (ws : List WireOctet) (d0 d1 d2 : Byte) (tr : Transaction) (s : State), s.inReset = false →
    s.erc.sequencer = .awaiting → s.erc.current = some tr → tr.request.order = .read →
    classifyReply tr ws = some (.accept d0 d1 d2) →
    ∃ t, exec (.replyTaken ws) s = .next t
      ∧ ∀ c, t.nsp.derates.get c = derateAfter (s.nsp.derates.get c) (presentAt c d0 d1))

/-- The entry shows a unit that climbs: RUNNING, not ISOLATED, its target above its completed notch (R49, R50). -/
def climbing (e : Entry) : Prop := e.engine = .running ∧ e.flags.isolated = false ∧ e.completed < e.target

/-- The entry of another position shows a running engine (R52). -/
def runningPeer (s : State) (p : Fin 8) : Bool :=
  decide (s.ownPosition ≠ some p ∧ ((s.entry p).engine = .idleWarm ∨ (s.entry p).engine = .running))

/-- The entry of another position makes cooldown-AUTO seen true (R53). -/
def autoCooling (s : State) (p : Fin 8) : Prop :=
  s.ownPosition ≠ some p ∧ ((s.entry p).state = .live ∨ (s.entry p).state = .stale) ∧ (s.entry p).engine = .cooldown
    ∧ (s.entry p).flags.cooldownAuto = true

/-- The views of the table that the Notch Stepper and the Start Sequencer read, and the autostop conditions (R49, R50, R52, R53,
R91). -/
def TableViews (s : State) : Prop :=
  (∀ p, p ∈ s.climbingSet ↔ s.ownPosition ≠ some p ∧ (s.entry p).state = .live ∧ climbing (s.entry p))
    ∧ (s.lowestClimbing = none ↔ s.climbingSet = [])
    ∧ (∀ n, s.lowestClimbing = some n ↔
        (∃ p ∈ s.climbingSet, (s.entry p).completed = n) ∧ ∀ p ∈ s.climbingSet, n ≤ (s.entry p).completed)
    ∧ (s.staleClimber = true ↔ ∃ p, s.ownPosition ≠ some p ∧ (s.entry p).state = .stale ∧ climbing (s.entry p))
    ∧ s.runningNow = ((List.finRange 8).filter (fun p => runningPeer s p && decide ((s.entry p).state = .live))).length
    ∧ s.runningLast = ((List.finRange 8).filter (fun p => runningPeer s p && decide ((s.entry p).state ≠ .absent))).length
    ∧ (s.cooldownSeen = none ↔ ∀ p, ¬ autoCooling s p)
    ∧ (∀ p, s.cooldownSeen = some p ↔ autoCooling s p ∧ ∀ q, autoCooling s q → p ≤ q)
    ∧ (s.autostopConditions = true ↔
        (∃ c, s.mpt.committed = some c ∧ c.autostop = true ∧ c.floor.val ≤ s.runningNow) ∧ s.ssq.stopInProgress = false
          ∧ s.cooldownSeen = none ∧ s.erc.sensor.state = .valid ∧ 60 ≤ s.erc.sensor.coolant
          ∧ (∃ v, s.lmn.sample = some v ∧ 264 ≤ v) ∧ s.clc.linkState ≠ .silenced)

/-- The derate cap is the smallest limit of the applied conditions, 8 when none is; the cap is the smallest of its limits; the
effective demand is the smallest of the own reading and the demands of the LIVE peers, 0 while the reading is INVALID; the target
notch is the smaller of effective demand and cap, and 0 outside RUNNING. The other views of the table: the climbing set and its
lowest notch, stale climber, running now and as last known, cooldown-AUTO seen with its lowest position, and the seven autostop
conditions, the floor and the autostop minimum of 66.0 V among them. -/
def Obligations.TargetNotchIsDemandUnderTheCap : Prop :=
  ∀ s : State, TableViews s ∧
    s.targetNotch = min s.effectiveDemand s.cap ∧ (s.ssq.engine ≠ .running → s.cap = 0 ∧ s.targetNotch = 0)
      ∧ (s.isolated = true → s.cap = 0) ∧ (s.ssq.stopInProgress = true → s.cap = 0)
      ∧ (s.deviceFailed .load = true → s.cap = 0)
      ∧ (s.ssq.engine = .running → s.isolated = false → s.ssq.stopInProgress = false → s.deviceFailed .load = false →
          s.cap = if s.deviceFailed .sensors = true then min 4 s.derateCap else s.derateCap)
      ∧ s.cap ≤ s.derateCap ∧ (s.deviceFailed .sensors = true → s.cap ≤ 4)
      ∧ (∀ c, (s.nsp.derates.get c).applied = true → s.derateCap ≤ Derate.limit c)
      ∧ ((∃ c, (s.nsp.derates.get c).applied = true) →
          ∃ c, (s.nsp.derates.get c).applied = true ∧ s.derateCap = Derate.limit c)
      ∧ ((∀ c, (s.nsp.derates.get c).applied = false) → s.derateCap = 8)
      ∧ (Derate.limit .coolantWarm = 6 ∧ Derate.limit .coolantHigh = 3 ∧ Derate.limit .coolantVeryHigh = 0
          ∧ Derate.limit .intakeWarm = 6 ∧ Derate.limit .intakeHigh = 4 ∧ Derate.limit .intakeVeryHigh = 2)
      ∧ (s.nsp.reading = none → s.effectiveDemand = 0)
      ∧ (∀ r, s.nsp.reading = some r → (s.effectiveDemand = r ∨ s.effectiveDemand ∈ s.peerDemands)
          ∧ s.effectiveDemand ≤ r ∧ ∀ d ∈ s.peerDemands, s.effectiveDemand ≤ d)
      ∧ (∀ d, d ∈ s.peerDemands ↔
          ∃ p, s.ownPosition ≠ some p ∧ (s.entry p).state = .live ∧ (s.entry p).demand = some d)

/-- The up dwell of completed notches 0 to 7 in ms (the table of R112). -/
def upDwells : List Nat := [3000, 3000, 4000, 4000, 5000, 5000, 6000, 6000]

/-- NSP is free to step (R112): no step in flight, the NOTCH slot empty, the urgent-unload order list empty, and none of its orders
in the PROTECT slot. -/
def FreeToStep (s : State) : Prop :=
  s.nsp.step = none ∧ s.erc.slots.notch = .empty ∧ s.nsp.urgentList = []
    ∧ ∀ r, s.erc.slots.protect.request = some r → r.producer ≠ .nsp

/-- The conditions of R113 that the start of an up-step leaves as they are: all seven but that NSP is free to step. -/
def ClimbAllowed (s : State) : Prop :=
  s.nsp.completed < s.targetNotch ∧ (∃ d w, s.nsp.dwell = some d ∧ upDwells[s.nsp.completed]? = some w ∧ w ≤ d)
    ∧ (∀ p, s.ownPosition ≠ some p → (s.entry p).state = .live → climbing (s.entry p) → s.nsp.completed ≤ (s.entry p).completed)
    ∧ (∀ p, s.ownPosition ≠ some p → (s.entry p).state = .stale → ¬ climbing (s.entry p))
    ∧ s.nsp.abandonHold = none ∧ s.faultActive .speedDeviation = false

/-- An up-step starts at a test of the step conditions exactly where the seven conditions of R113 hold: DWELL_CLOCK_REACHED at the
up dwell, with the climb wanted and none of the seven conditions against it, starts an up-step by one notch with GOVERNOR SET_SPEED
for the next notch. A test that starts an up-step has found all seven, and no command starts one otherwise: after a command that is
one event for the blocks, no LIVE climbing peer stands below the own notch, no STALE climber is present, the dwell is reached, no
abandon hold runs and SPEED_DEVIATION is not active. -/
def Obligations.UpStepStartsWithTheGovernor : Prop :=
  (∀ (d : Nat) (s : State), s.nsp.dwell = some d → s.estop = false → s.freeToStep = true →
    s.nsp.completed < s.targetNotch → (∀ n, s.lowestClimbing = some n → s.nsp.completed ≤ n) →
    s.staleClimber = false → s.nsp.abandonHold = none → s.faultActive .speedDeviation = false →
    ∃ t, exec (.dwellClockReached .up) s = .next t
      ∧ t.nsp.step = some ⟨.up, s.nsp.completed, s.nsp.completed + 1, .first, false⟩
      ∧ t.erc.slots.notch.request
          = some ⟨.setSpeed, BitVec.ofNat 16 (s.notchSpeed (s.nsp.completed + 1)), .nsp⟩
      ∧ t.nsp.completed = s.nsp.completed ∧ t.ssq = s.ssq ∧ t.fcl = s.fcl ∧ KeepsOutside s t ∧ KeepsDevices s t) ∧
  (∀ s : State, s.freeToStep = true ↔ FreeToStep s) ∧
  (∀ s : State, FreeToStep s → ClimbAllowed s → s.estop = false →
    (stepTest s).nsp.step = some ⟨.up, s.nsp.completed, s.nsp.completed + 1, .first, false⟩) ∧
  (∀ (x : Step) (s : State), s.nsp.step = none → (stepTest s).nsp.step = some x → x.direction = .up →
    FreeToStep s ∧ ClimbAllowed s ∧ x = ⟨.up, s.nsp.completed, s.nsp.completed + 1, .first, false⟩) ∧
  (∀ (cmd : Instr) (x : Step) (s t : State), exec cmd s = .next t → s.nsp.step = none → t.nsp.step = some x →
    x.direction = .up → OneEvent cmd s →
    ClimbAllowed t ∧ x = ⟨.up, t.nsp.completed, t.nsp.completed + 1, .first, false⟩)

/-- A down-step starts when the target is below the completed notch, NSP is free to step and the down dwell is reached, whatever the
spread, the stale climbers, the abandon hold and SPEED_DEVIATION say: LOAD SET_LOAD for the next lower notch; and only then
(R114). -/
def Obligations.DownStepStartsWithTheLoad : Prop :=
  (∀ s : State, s.targetNotch < s.nsp.completed → s.freeToStep = true → s.dwellReached 1000 = true → s.estop = false →
    (stepTest s).nsp.step = some ⟨.down, s.nsp.completed, s.nsp.completed - 1, .first, false⟩
      ∧ (stepTest s).erc.slots.notch.request = some ⟨.setLoad, BitVec.ofNat 16 (s.nsp.completed - 1), .nsp⟩
      ∧ exec (.dwellClockReached .down) s = .next (stepTest s)) ∧
  (∀ (x : Step) (s : State), s.nsp.step = none → (stepTest s).nsp.step = some x → x.direction = .down →
    s.targetNotch < s.nsp.completed ∧ s.freeToStep = true ∧ s.dwellReached 1000 = true)

/-- ABANDON_HOLD_EXPIRY ends the hold, and with no step due nothing else changes; DWELL_CLOCK_REACHED likewise moves the clock
alone, up to the dwell it names where it stands below it (the model's choice, log entry 2). -/
def Obligations.StepTestsFindNothingDue : Prop :=
  (∀ s : State, s.nsp.abandonHold.isSome = true → s.nsp.completed = s.targetNotch → s.nsp.governorOwed = false →
    exec .abandonHoldExpiry s = .next { s with nsp := { s.nsp with abandonHold := none } }) ∧
  (∀ (d : Nat) (s : State), s.nsp.dwell = some d → s.nsp.completed = s.targetNotch → s.nsp.governorOwed = false →
    exec (.dwellClockReached .down) s = .next { s with nsp := { s.nsp with dwell := some (max 1000 d) } }) ∧
  (∀ (d : Nat) (s : State), s.nsp.abandonHold.isSome = true → s.nsp.dwell = some d → s.estop = false →
    s.freeToStep = true → s.targetNotch < s.nsp.completed → 1000 ≤ d →
    ∃ t, exec .abandonHoldExpiry s = .next t ∧ t.nsp.abandonHold = none
      ∧ t.nsp.step = some ⟨.down, s.nsp.completed, s.nsp.completed - 1, .first, false⟩)

/-! ## How a transaction ends -/

/-- Nothing shows time since reset release: no ms, window or record of the link, no battery sample, no level of a line, no demand
reading, no silence, no poll, and no end of the CONFIG phase. -/
def NoTimeShown (s : State) : Prop :=
  s.clc.reception = .suspended 80 0 ∧ s.lmn.sample = none ∧ s.lmn.silenceTimer ≠ none ∧ (∀ l, (s.lmn.lines.get l).level = none)
    ∧ s.nsp.demandTimer ≠ none ∧ s.mpt.configTimer ≠ none ∧ s.erc.slots.poll = .empty

/-- So many octets on the reply line are a reply, whatever they say, unless the first request since reset release is still going
out, with fewer than its 54 bit times passed, and 20 bit times of quiet, 9 for each octet and 20 more do not fit into those (R128,
R129, R136, log entry 38). -/
def replyFramed (n : Nat) (s : State) : Prop :=
  ¬ (s.erc.sequencer = .sending ∧ (∃ b, s.erc.replyLine = .waiting b ∧ b < 54) ∧ NoTimeShown s ∧ 54 < 20 + 9 * n + 20)

/-- The command ends the transaction `tr`, for which the channel is AWAITING, with `e`: the reply timeout with NO_REPLY, or a reply
that is classified so (R133, R135). -/
def EndsWith (cmd : Instr) (tr : Transaction) (e : Ending) (s : State) : Prop :=
  s.erc.sequencer = .awaiting ∧ s.erc.current = some tr ∧
    ((cmd = .replyTimeout ∧ e = .noReply)
      ∨ ∃ ws, cmd = .replyTaken ws ∧ s.inReset = false ∧ classifyReply tr ws = some e)

/-- The ending leaves its device out of FAILED or FAILED as it was: it is no third transport ending in a row (R140). -/
def NoFailure (tr : Transaction) (e : Ending) (s : State) : Prop :=
  e.transport = true → (s.erc.health.get tr.request.order.device).consecutive ≠ 2

/-- The ending is the third transport ending in a row of device `d`, which becomes FAILED (R140). -/
def ThirdFailure (d : Device) (tr : Transaction) (e : Ending) (s : State) : Prop :=
  tr.request.order.device = d ∧ e.transport = true ∧ (s.erc.health.get d).consecutive = 2

/-! ## Starting and stopping -/

/-- PRELUBE_TICK orders RUN until it has been accepted, then STATUS, and the tick runs again; PRELUBE_TIMER_EXPIRY latches
PRELUBE_FAIL, which fills an empty first-fault record, orders PRELUBE STOP unless ESTOP is asserted, withdraws the claim and leaves
the engine STOPPED with reason MANUAL. In PRELUBE the ACCEPT of RUN is remembered, and the ACCEPT of STATUS with oil-ok enters
CRANKING with STARTER ENGAGE ordered and the claim kept, or with the governor FAILED is a protective shutdown; the PRELUBE device
becoming FAILED is a prelube failure. Which replies end a transaction soon after reset release rests on log entry 38. -/
def Obligations.PrelubeAsksAndFails : Prop :=
  (∀ s : State, s.ssq.prelubeTick.isSome = true → s.ssq.engine = .prelube → s.estop = false →
    ∃ t, exec .prelubeTick s = .next t ∧ t.ssq.prelubeTick = some 500 ∧ t.ssq.engine = .prelube
      ∧ t.cpa.claim = s.cpa.claim ∧ t.seqHas (if s.ssq.runAccepted then .status else .run) = true) ∧
  (∀ s : State, s.ssq.prelube.isSome = true → s.ssq.engine = .prelube →
    ∃ t, exec .prelubeTimerExpiry s = .next t ∧ t.ssq.engine = .stopped ∧ t.ssq.stopReason = .manual
      ∧ t.cpa.claim = none ∧ t.faultActive .prelubeFail = true ∧ t.ssq.attempts = 0
      ∧ (s.fcl.firstFault = none → s.faultActive .prelubeFail = false →
          t.fcl.firstFault = some ⟨.prelubeFail, .prelube, s.clc.cycleCount⟩)
      ∧ (s.estop = false → t.seqHas .stop = true)) ∧
  (∀ (cmd : Instr) (tr : Transaction) (d0 d1 d2 : Byte) (s : State), EndsWith cmd tr (.accept d0 d1 d2) s →
    tr.client = .sequence → s.ssq.engine = .prelube → s.estop = false →
    (tr.request.order = .run →
      ∃ t, exec cmd s = .next t ∧ t.ssq.runAccepted = true ∧ t.ssq.engine = .prelube) ∧
    (tr.request.order = .status → d0.getLsbD 0 = true → s.deviceFailed .governor = false → s.mustYield = false →
      ∃ t, exec cmd s = .next t ∧ t.ssq.engine = .cranking ∧ t.cpa.claim = s.cpa.claim ∧ t.seqHas .engage = true
        ∧ t.ssq.prelube = none ∧ t.ssq.prelubeTick = none ∧ t.ssq.crank = none) ∧
    (tr.request.order = .status → d0.getLsbD 0 = true → s.deviceFailed .governor = true →
      ∃ t, exec cmd s = .next t ∧ t.ssq.engine = shutdownOf s ∧ t.ssq.stopReason = .manual ∧ t.cpa.claim = none
        ∧ t.ssq.fuelOrder = false) ∧
    (tr.request.order = .status → d0.getLsbD 0 = false →
      ∃ t, exec cmd s = .next t ∧ t.ssq.engine = .prelube ∧ t.cpa.claim = s.cpa.claim)) ∧
  (∀ (cmd : Instr) (tr : Transaction) (e : Ending) (s : State), EndsWith cmd tr e s → ThirdFailure .prelube tr e s →
    s.ssq.engine = .prelube →
    ∃ t, exec cmd s = .next t ∧ t.ssq.engine = .stopped ∧ t.ssq.stopReason = .manual ∧ t.cpa.claim = none
      ∧ t.faultActive .prelubeFail = true ∧ t.faultActive (.deviceFailed .prelube) = true)

/-- What a failed attempt with cause `c` leaves (R86): the cause stored and raised for 5 s, no fuel, no claim, and one attempt more
in CRANK_REST with its rest of 30 s, or LOCKED_OUT at the third; and where ESTOP does not hold orders back, STARTER DISENGAGE on
its way from CRANKING, and PRELUBE STOP where the pump was held. -/
def AttemptFailed (c : Cause) (s t : State) : Prop :=
  t.ssq.lastCause = some c ∧ t.ssq.fuelOrder = false ∧ t.cpa.claim = none ∧ t.faultActive .crankFail = true
    ∧ t.fcl.crankFailCause = some c ∧ t.fcl.crankFailTimer = some 5000
    ∧ (s.ssq.attempts < 2 → t.ssq.engine = .crankRest ∧ t.ssq.attempts = s.ssq.attempts + 1 ∧ t.ssq.rest = some 30000)
    ∧ (2 ≤ s.ssq.attempts → t.ssq.engine = .lockedOut ∧ t.ssq.attempts = 3 ∧ t.faultActive .crankLockout = true)
    ∧ (s.estop = false → s.ssq.engine = .cranking → Waits .disengage t)
    ∧ (s.estop = false → s.ssq.pumpHeld = true → Waits .stop t)

/-- What fails an attempt: a turn check without a turning engine, the crank timer, a sag in CRANKING, STARTER ENGAGE ending
otherwise than by ACCEPT in CRANKING, and the firing timer or a silence event in FIRING; STARTER DISENGAGE is ordered from CRANKING,
and PRELUBE STOP where the pump is held. Which replies end a transaction soon after
reset release rests on log entry 38. -/
def Obligations.AttemptsFail : Prop :=
  (∀ s : State, s.ssq.turnCheck.isSome = true → s.ssq.engine = .cranking → s.lmn.lastGate < 30 ∨ s.lmn.silence = true →
    ∃ t, exec .turnCheckExpiry s = .next t ∧ AttemptFailed .noTurn s t) ∧
  (∀ s : State, s.ssq.crank.isSome = true → s.ssq.engine = .cranking →
    ∃ t, exec .crankTimerExpiry s = .next t ∧ AttemptFailed .noFire s t) ∧
  (∀ s : State, s.lmn.sampleTimer.isSome = true → s.lmn.sagFlag = false → s.lmn.sagCount = 30 → s.ssq.engine = .cranking →
    ∃ t, exec .sagEvent s = .next t ∧ AttemptFailed .sag s t ∧ t.lmn.sagFlag = true
      ∧ t.faultActive .batterySag = true) ∧
  (∀ (cmd : Instr) (tr : Transaction) (e : Ending) (s : State), EndsWith cmd tr e s → e.accepted = false →
    NoFailure tr e s ∨ s.ssq.releasePending = false → tr.client = .sequence → tr.request.order = .engage →
    s.ssq.engine = .cranking →
    ∃ t, exec cmd s = .next t ∧ AttemptFailed .starterFail s t) ∧
  (∀ s : State, s.ssq.firing.isSome = true → s.ssq.engine = .firing →
    ∃ t, exec .firingTimerExpiry s = .next t ∧ AttemptFailed .fireLost s t) ∧
  (∀ s : State, s.lmn.silenceTimer.isSome = true → s.ssq.engine = .firing →
    ∃ t, exec .silenceTimerExpiry s = .next t ∧ AttemptFailed .fireLost s t ∧ t.lmn.silence = true)

/-- What moves a start on: the ACCEPT of STARTER ENGAGE in CRANKING, which sets the fuel order and starts the crank timer and the
turn check; the firing hold to FIRING with fuel as it was, and STARTER DISENGAGE and PRELUBE STOP ordered, the rest to CLAIMING
with a new claim (or a further wait while the engine turns), the warm-up timer or coolant at 40 °C to RUNNING; a turn check of a
turning engine only ends itself. Which replies end a transaction soon after reset release rests on log entry 38. -/
def Obligations.PhaseTimersMoveTheStartOn : Prop :=
  (∀ (cmd : Instr) (tr : Transaction) (d0 d1 d2 : Byte) (s : State), EndsWith cmd tr (.accept d0 d1 d2) s →
    tr.client = .sequence → tr.request.order = .engage → s.ssq.engine = .cranking → s.estop = false →
    ∃ t, exec cmd s = .next t ∧ t.ssq.engine = .cranking ∧ t.ssq.fuelOrder = true ∧ t.ssq.crank = some 15000
      ∧ t.ssq.turnCheck = some 3000 ∧ t.ssq.attempts = s.ssq.attempts ∧ t.cpa.claim = s.cpa.claim) ∧
  (∀ s : State, s.ssq.firingHold.isSome = true → s.ssq.engine = .cranking →
    ∃ t, exec .firingHoldExpiry s = .next t ∧ t.ssq.engine = .firing ∧ t.ssq.firing = some 20000 ∧ t.cpa.claim = none
      ∧ t.ssq.fuelOrder = s.ssq.fuelOrder ∧ t.ssq.crank = none ∧ t.ssq.turnCheck = none
      ∧ (s.estop = false → Waits .disengage t ∧ Waits .stop t)) ∧
  (∀ s : State, s.ssq.rest.isSome = true → s.ssq.engine = .crankRest →
    (s.lmn.silence = true → ∃ t, exec .restTimerExpiry s = .next t ∧ t.ssq.engine = .claiming ∧ t.cpa.claim = some 0) ∧
    (s.lmn.silence = false → ∃ t, exec .restTimerExpiry s = .next t ∧ t.ssq.engine = .crankRest ∧ t.ssq.rest = none)) ∧
  (∀ s : State, s.ssq.warmUp.isSome = true → s.ssq.engine = .idleWarm →
    ∃ t, exec .warmUpTimerExpiry s = .next t ∧ t.ssq.engine = .running ∧ t.nsp.dwell = some 0
      ∧ t.ssq.stopInProgress = false ∧ t.ssq.fuelOrder = s.ssq.fuelOrder) ∧
  (∀ (cmd : Instr) (tr : Transaction) (d0 d1 d2 : Byte) (s : State), EndsWith cmd tr (.accept d0 d1 d2) s →
    tr.client = .poll → tr.request.order = .read → s.ssq.engine = .idleWarm → d2.getLsbD 0 = false → 90 ≤ d0.toNat →
    ∃ t, exec cmd s = .next t ∧ t.ssq.engine = .running ∧ t.ssq.warmUp = none) ∧
  (∀ s : State, s.ssq.turnCheck.isSome = true → s.ssq.engine = .cranking → 30 ≤ s.lmn.lastGate → s.lmn.silence = false →
    s.estop = false →
    ∃ t, exec .turnCheckExpiry s = .next t ∧ t.ssq.engine = .cranking ∧ t.ssq.turnCheck = none
      ∧ t.ssq.attempts = s.ssq.attempts ∧ t.ssq.fuelOrder = s.ssq.fuelOrder)

/-- Some autorestart trigger of R94 is true: effective demand, battery below 64.0 V, coolant below 30 °C in a valid record, or
running as last known below the keep-running floor, which is in force from commit on. -/
def AutorestartDue (s : State) : Prop :=
  0 < s.effectiveDemand ∨ (∃ v, s.lmn.sample = some v ∧ v < 256)
    ∨ (s.erc.sensor.state = .valid ∧ s.erc.sensor.coolant < 30)
    ∨ ∃ c, s.mpt.committed = some c ∧ s.runningLast < c.floor.val

/-- An engine STOPPED with reason AUTO, in a state in which a start request is accepted (R80). -/
def AutoStopped (s : State) : Prop :=
  s.ssq.engine = .stopped ∧ s.ssq.stopReason = .auto ∧ (∃ v, s.lmn.sample = some v ∧ 232 ≤ v) ∧ s.clc.linkState ≠ .silenced
    ∧ s.estop = false

/-- The autostop idle timer enters COOLDOWN with reason AUTO if the conditions hold, and else is remembered as elapsed; the
cooldown timer ends in SHUTDOWN with the fuel order cleared, the stop reason kept, and FUEL_OFF ordered unless ESTOP is asserted. A
record (framed by quiet before it, log entry 10) that shows a lower position in AUTO cooldown returns an AUTO cooldown to RUNNING
with reason MANUAL; seeing only higher ones has no such effect. A true autorestart trigger is a start request in STOPPED with reason
AUTO, returns an AUTO cooldown to RUNNING, and is nothing elsewhere. A battery sample below 64.0 V, a demand reading that takes the
effective demand above 0, a sensor update with coolant below 30 °C, and a record that takes running as last known below the floor
restart an engine STOPPED with reason AUTO, where the start minimum, the link and ESTOP allow it. Which replies end a transaction
soon after reset release rests on log entry 38. -/
def Obligations.AutostopAndCooldown : Prop :=
  (∀ s : State, s.ssq.autostopIdle.isSome = true → s.ssq.engine = .running → s.nsp.completed = 0 →
    s.effectiveDemand = 0 →
    (s.autostopConditions = true →
      ∃ t, exec .autostopIdleTimerExpiry s = .next t ∧ t.ssq.engine = .cooldown ∧ t.ssq.stopReason = .auto
        ∧ t.ssq.cooldown = some 60000 ∧ t.ssq.fuelOrder = s.ssq.fuelOrder) ∧
    (s.autostopConditions = false → s.ssq.stopInProgress = false →
      ∃ t, exec .autostopIdleTimerExpiry s = .next t ∧ t.ssq.engine = .running ∧ t.ssq.idleElapsed = true)) ∧
  (∀ s : State, s.ssq.cooldown.isSome = true → s.ssq.engine = .cooldown → s.lmn.silence = false →
    ∃ t, exec .cooldownTimerExpiry s = .next t ∧ t.ssq.engine = .shutdown ∧ t.ssq.fuelOrder = false
      ∧ t.ssq.stopReason = s.ssq.stopReason ∧ (s.estop = false → t.seqHas .fuelOff = true)) ∧
  (∀ (ws : List WireOctet) (r : Record) (c : Committed) (s : State), s.inReset = false →
    framed ws.length s → acceptRecord ws = some r → r.mark ≠ .check → r.deferred = true → s.mpt.committed = some c →
    s.ssq.engine = .cooldown → s.ssq.stopReason = .auto →
    s.cooldownSeen = none → r.contents.engine = .cooldown → r.contents.flags.cooldownAuto = true → r.summaries = [] →
    r.origin < c.position →
    ∃ t, exec (.recordTaken ws) s = .next t ∧ t.ssq.engine = .running ∧ t.ssq.stopReason = .manual
      ∧ t.ssq.cooldown = none) ∧
  (∀ (own p : Fin 8) (s : State), s.ownPosition = some own → s.cooldownSeen = some p → own ≤ p → contention s = s) ∧
  (∀ s : State, s.ssq.stopReason = .auto → AutorestartDue s →
    (s.ssq.engine = .stopped → triggerTest s = startRequest s) ∧
    (s.ssq.engine = .cooldown → (triggerTest s).ssq.engine = .running ∧ (triggerTest s).ssq.stopReason = .manual)) ∧
  (∀ s : State, s.ssq.stopReason = .manual ∨ ¬ AutorestartDue s ∨ (s.ssq.engine ≠ .stopped ∧ s.ssq.engine ≠ .cooldown) →
    triggerTest s = s) ∧
  (∀ (n : Nat) (s : State), AutoStopped s → s.nsp.demandTimer.isSome = true → demandCodes[n]? = some s.pins.demandCode →
    0 < n → s.effectiveDemand = 0 → (∀ d ∈ s.peerDemands, 0 < d) →
    ∃ t, exec .demandStabilityExpiry s = .next t ∧ t.ssq.engine = .claiming ∧ t.cpa.claim = some 0) ∧
  (∀ (cmd : Instr) (tr : Transaction) (d0 d1 d2 : Byte) (s : State), EndsWith cmd tr (.accept d0 d1 d2) s →
    tr.client = .poll → tr.request.order = .read → AutoStopped s → d0.toNat < 80 →
    ∃ t, exec cmd s = .next t ∧ t.ssq.engine = .claiming ∧ t.cpa.claim = some 0) ∧
  (∀ (ws : List WireOctet) (r : Record) (c : Committed) (s : State), s.inReset = false → framed ws.length s →
    acceptRecord ws = some r → r.mark ≠ .check → r.deferred = true → r.summaries = [] → s.mpt.committed = some c →
    r.origin ≠ c.position → AutoStopped s → (s.entry r.origin).state ≠ .absent → runningPeer s r.origin = true →
    r.contents.engine ≠ .idleWarm → r.contents.engine ≠ .running → s.runningLast = c.floor.val →
    ∃ t, exec (.recordTaken ws) s = .next t ∧ t.ssq.engine = .claiming ∧ t.cpa.claim = some 0) ∧
  (∀ (mv : Nat) (s : State), s.lmn.sampleTimer.isSome = true → s.ssq.stopReason = .auto → mv < 64000 →
    (s.ssq.engine = .stopped → 58000 ≤ mv → s.clc.linkState ≠ .silenced → s.estop = false →
      ∃ t, exec (.batterySample mv) s = .next t ∧ t.ssq.engine = .claiming ∧ t.cpa.claim = some 0) ∧
    (s.ssq.engine = .stopped → mv < 58000 →
      ∃ t, exec (.batterySample mv) s = .next t ∧ t.ssq.engine = .stopped ∧ t.faultActive .startRefused = true) ∧
    (s.ssq.engine = .cooldown →
      ∃ t, exec (.batterySample mv) s = .next t ∧ t.ssq.engine = .running ∧ t.ssq.stopReason = .manual
        ∧ t.ssq.cooldown = none))

/-! ## The engine-room channel -/

/-- SENDING_END starts the reply timeout of 20 ms, with the 54 bit times of the request passed since reset release; a reply outside
AWAITING, and one of another tag, only counts on LATE_REPLY. Octets that cannot have had 20 bit times of quiet before them since the
release, because its first request is still going out, are the rest of a lost reply: they count and end nothing, and the line is
quiet after them (how the time since the release is known, and that all other octets sent as taken are a reply, is the model's
choice, log entry 38). The poll timer posts SENSORS READ in an empty slot, and only restarts while the slot is taken.
Posted to an IDLE sequencer, the READ is granted at once, and the request line carries its six octets, each with its parity bit
(R128). -/
def Obligations.ChannelKeepsItsTimersAndCounts : Prop :=
  (∀ s : State, s.erc.sequencer = .sending →
    exec .sendingEnd s = .next { s with
      erc := { s.erc with
        sequencer := .awaiting, replyTimer := some 20, sinceSent := 0
        replyLine := match s.erc.replyLine with
          | .clear => .clear
          | .waiting b => .waiting (max 54 b) } }) ∧
  (∀ (ws : List WireOctet) (s : State), s.inReset = false →
    s.erc.sequencer ≠ .awaiting ∨ (∃ tr, s.erc.current = some tr ∧ classifyReply tr ws = none) →
    replyFramed ws.length s → exec (.replyTaken ws) s = .next { s with
      erc := { s.erc with replyLine := .clear, lateReply := min 65535 (s.erc.lateReply + 1) } }) ∧
  (∀ (ws : List WireOctet) (s : State), s.inReset = false → ¬ replyFramed ws.length s →
    exec (.replyTaken ws) s = .next { s with erc := { s.erc with replyLine := .clear } }) ∧
  (∀ s : State, s.erc.pollTimer.isSome = true → s.erc.slots.poll = .empty → s.estop = false →
    ∃ t, exec .pollTimerExpiry s = .next t ∧ t.erc.pollTimer = some 250
      ∧ t.erc.slots.poll.request = some ⟨.read, 0, .erc⟩
      ∧ (s.erc.sequencer = .idle → t.erc.sequencer = .sending ∧ t.erc.current = some ⟨.poll, ⟨.read, 0, .erc⟩, s.erc.tag⟩
          ∧ t.requestLine = (closed [0x3C, 0x0A, BitVec.ofNat 8 (s.erc.tag.toNat + 16), 0, 0]).map withParity)
      ∧ t = { s with erc := t.erc } ∧ t.erc.health = s.erc.health ∧ t.erc.slots.protect = s.erc.slots.protect
      ∧ t.erc.slots.sequence = s.erc.slots.sequence ∧ t.erc.slots.notch = s.erc.slots.notch) ∧
  (∀ s : State, s.erc.pollTimer.isSome = true → s.erc.slots.poll ≠ .empty →
    exec .pollTimerExpiry s = .next { s with erc := { s.erc with pollTimer := some 250 } }) ∧
  (∀ s : State, s.erc.sequencer ≠ .sending → s.requestLine = []) ∧
  (∀ b : Byte, oddParity (withParity b) = true ∧ dataBits (withParity b) = b)

/-- The five exception codes, 1 to 5 (section 11.2). -/
def exceptionCodes : List ExcCode := [.deviceBusy, .orderInvalid, .argumentRange, .actuatorFault, .stuck]

/-- What a reply's opening mark and code say (R129, R135): 0xC3 with code 0 is ACCEPT with its data, 0xE7 with one of the codes 1
to 5 is EXCEPTION with that code, and nothing else is a reply. -/
def replyMeans (mark code d0 d1 d2 : Byte) : Option Ending :=
  if mark = 0xC3 then if code = 0 then some (.accept d0 d1 d2) else none
  else if mark = 0xE7 then if code = 0 then none else (exceptionCodes[code.toNat - 1]?).map Ending.exception
  else none

/-- How a reply is classified. A whole reply, ACCEPT or EXCEPTION by its mark and code, from the address asked with the request's
tag is that word, whatever bits 4 to 7 of its tag octet are; with another tag it is a late reply, which ends nothing; with another
address it is misrouted, whatever its tag. A reply of another mark or code, of a length other than 8, with a check octet other than
the XOR of the octets before it, or with an octet whose ones are even in number, is corrupt, whatever else it says. -/
def Obligations.RepliesAreClassified : Prop :=
  (∀ (tr : Transaction) (mark code d0 d1 d2 : Byte) (high : BitVec 4) (e : Ending), replyMeans mark code d0 d1 d2 = some e →
    let reply (a : Byte) (tag : BitVec 4) : List WireOctet := (closed [mark, a, high ++ tag, code, d0, d1, d2]).map withParity
    classifyReply tr (reply tr.request.order.device.address tr.tag) = some e
      ∧ (∀ g : BitVec 4, g ≠ tr.tag → classifyReply tr (reply tr.request.order.device.address g) = none)
      ∧ ∀ (a : Byte) (g : BitVec 4), a ≠ tr.request.order.device.address → classifyReply tr (reply a g) = some .misrouted) ∧
  (∀ (tr : Transaction) (mark a tag code d0 d1 d2 : Byte), replyMeans mark code d0 d1 d2 = none →
    classifyReply tr ((closed [mark, a, tag, code, d0, d1, d2]).map withParity) = some .corrupt) ∧
  (∀ (tr : Transaction) (ws : List WireOctet), ws.length ≠ 8 → classifyReply tr ws = some .corrupt) ∧
  (∀ (tr : Transaction) (bs : List Byte) (x : Byte), x ≠ xorAll bs →
    classifyReply tr ((bs ++ [x]).map withParity) = some .corrupt) ∧
  (∀ (tr : Transaction) (ws : List WireOctet) (w : WireOctet), w ∈ ws → onesOf w % 2 = 0 →
    classifyReply tr ws = some .corrupt) ∧
  (∀ b : Byte, onesOf (withParity b) % 2 = 1)

/-- A device's health record after an ending (R141). -/
def healthAfter (h : Health) : Ending → Health
  | .accept _ _ _ => ⟨0, h.total, h.lastException⟩
  | .exception c => ⟨0, h.total, some c⟩
  | .inhibited => h
  | _ => ⟨min 3 (h.consecutive + 1), min 65535 (h.total + 1), h.lastException⟩

/-- What an ending leaves of a step (R115, R117 to R119): `ok` for ACCEPT. -/
def StepEnds (x : Step) (ok : Bool) (s t : State) : Prop :=
  let goesOn (y : Step) (r : Request) : Prop :=
    t.nsp.step = some y ∧ t.erc.slots.notch.request = some r ∧ t.nsp.completed = s.nsp.completed
  let ends (completed : Nat) (owed : Bool) : Prop :=
    t.nsp.step = none ∧ t.nsp.dwell = some 0 ∧ t.nsp.completed = completed ∧ t.nsp.governorOwed = owed
  let abandoned (owed : Bool) : Prop := ends s.nsp.completed owed ∧ t.nsp.abandonHold = some 5000
  let speed (n : Nat) : Request := ⟨.setSpeed, BitVec.ofNat 16 (s.notchSpeed n), .nsp⟩
  let load (n : Nat) : Request := ⟨.setLoad, BitVec.ofNat 16 n, .nsp⟩
  match x.direction, x.phase, ok with
  | .up, .first, true => goesOn { x with phase := .second } (load x.toNotch) ∧ t.nsp.governorOwed = false
  | .up, .first, false => abandoned s.nsp.governorOwed
  | .up, .second, _ =>
    if x.restoring then abandoned (!ok)
    else if ok then ends x.toNotch s.nsp.governorOwed ∧ t.nsp.watch = some ⟨x.toNotch, 10000⟩
    else goesOn { x with restoring := true } (speed x.fromNotch)
  | .down, .first, true => goesOn { x with phase := .second } (speed x.toNotch)
  | .down, .first, false => abandoned s.nsp.governorOwed
  | .down, .second, _ =>
    ends x.toNotch (!ok) ∧ t.nsp.watch = if ok then some ⟨x.toNotch, 10000⟩ else s.nsp.watch
  | .retry, _, _ =>
    ends s.nsp.completed (if ok then false else s.nsp.governorOwed)
      ∧ t.nsp.watch = if ok then some ⟨x.fromNotch, 10000⟩ else s.nsp.watch

/-- A transaction of STARTER DISENGAGE that the Start Sequencer posted, in either of its slots. -/
def releasesStarter (tr : Transaction) : Prop :=
  tr.request.order = .disengage ∧ (tr.client = .sequence ∨ (tr.client = .protect ∧ tr.request.producer = .ssq))

/-- The order in which pending slots are granted (R132). -/
def grantRank : Client → Nat
  | .protect => 0
  | .sequence => 1
  | .notch => 2
  | .poll => 3

/-- The channel has gone on after an ending (R132, R134): IDLE with no slot pending, or sending the request of the first pending
slot, now in flight with the tag as it stands. -/
def GrantsTheFirst (t : State) : Prop :=
  (t.erc.sequencer = .idle ∧ ∀ c, (t.erc.slots.get c).isPending = false)
    ∨ ∃ x, t.erc.sequencer = .sending ∧ t.erc.current = some x ∧ t.erc.slots.get x.client = .inFlight x.request
        ∧ x.tag = t.erc.tag ∧ ∀ c, grantRank c < grantRank x.client → (t.erc.slots.get c).isPending = false

/-- REPLY_TAKEN and REPLY_TIMEOUT in AWAITING: the transaction ends, the tag goes on by 1, and the health record of the device
asked, and of no other, takes the ending; the ACCEPT of a SENSORS READ fills the sensor record, and with oil-low in IDLE_WARM or
RUNNING latches OIL_LOW. Of the slots then pending the first in the order PROTECT, SEQUENCE, NOTCH, POLL is granted, with the new
tag, and with none the channel is IDLE. A device becoming FAILED raises its kind: GOVERNOR is a protective shutdown, LOAD with a
notch carried or a step in flight an urgent unload, SENSORS makes the record STALE and stops the timers of the derate conditions,
which stay as they stand, and STARTER with a release pending is STARTER_STUCK, as an EXCEPTION to DISENGAGE is; oil low, GOVERNOR
and STARTER_STUCK list the protective orders. An ACCEPT of DISENGAGE clears the release, and a transport ending orders it again;
that the ACCEPT does so with another DISENGAGE outstanding and that an EXCEPTION leaves the release as it is, set or clear, are the
model's choice (log entry 35), and so is that the protective DISENGAGE ordered again sets it (log entry 14). In RUNNING a step goes
on, completes or is abandoned by the ending of its order, and the orders of an urgent unload follow each other. Which replies end a
transaction soon after reset release rests on log entry 38. -/
def Obligations.TransactionsEndWithTheirHealth : Prop :=
  (∀ (cmd : Instr) (tr : Transaction) (e : Ending) (s : State), EndsWith cmd tr e s →
    ∃ t, exec cmd s = .next t ∧ t.erc.tag = s.erc.tag + 1 ∧ GrantsTheFirst t
      ∧ t.erc.health.get tr.request.order.device = healthAfter (s.erc.health.get tr.request.order.device) e
      ∧ (∀ d, d ≠ tr.request.order.device → t.erc.health.get d = s.erc.health.get d)
      ∧ t.erc.lateReply = s.erc.lateReply
      ∧ (∀ d0 d1 d2, e = .accept d0 d1 d2 → tr.request.order = .read →
          t.erc.sensor = ⟨(d0.toNat : Int) - 50, (d1.toNat : Int) - 50, d2.getLsbD 0, 0, .valid⟩)) ∧
  (∀ (cmd : Instr) (tr : Transaction) (d0 d1 d2 : Byte) (s : State), EndsWith cmd tr (.accept d0 d1 d2) s →
    tr.client = .poll → tr.request.order = .read → d2.getLsbD 0 = true →
    s.ssq.engine = .idleWarm ∨ (s.ssq.engine = .running ∧ s.ssq.idleElapsed = false) → s.lmn.silence = false →
    ∃ t, exec cmd s = .next t ∧ t.faultActive .oilLow = true ∧ t.ssq.engine = .shutdown ∧ t.ssq.stopReason = .manual
      ∧ t.ssq.fuelOrder = false ∧ (s.erc.slots.protect = .empty → ProtectiveOrdersWait (protectiveOrders s) s t)) ∧
  (∀ (cmd : Instr) (d : Device) (tr : Transaction) (e : Ending) (s : State), EndsWith cmd tr e s → ThirdFailure d tr e s →
    ∃ t, exec cmd s = .next t ∧ t.faultActive (.deviceFailed d) = true
      ∧ (d = .governor → s.ssq.engine ≠ .stopped → s.ssq.engine ≠ .shutdown → s.ssq.engine ≠ .lockedOut →
          s.lmn.silence = false → t.ssq.engine = .shutdown ∧ t.ssq.stopReason = .manual ∧ t.ssq.fuelOrder = false
            ∧ (s.erc.slots.protect = .empty → ProtectiveOrdersWait (protectiveOrders s) s t))
      ∧ (d = .starter → s.ssq.releasePending = true →
          t.faultActive .starterStuck = true ∧ t.ssq.engine = .lockedOut ∧ t.ssq.fuelOrder = false
            ∧ t.ssq.releasePending = true)
      ∧ (d = .load → s.ssq.engine = .running → 0 < s.nsp.completed ∨ s.nsp.step ≠ none → UrgentUnload s t)
      ∧ (d = .sensors → (s.erc.sensor.state = .valid → t.erc.sensor.state = .stale)
          ∧ ∀ k, t.nsp.derates.get k = ⟨(s.nsp.derates.get k).applied, none, none⟩)) ∧
  (∀ (cmd : Instr) (tr : Transaction) (e : Ending) (s : State), EndsWith cmd tr e s → NoFailure tr e s →
    releasesStarter tr → s.estop = false →
    (e.accepted = true → ∃ t, exec cmd s = .next t ∧ t.ssq.releasePending = false) ∧
    (∀ c, e = .exception c → ∃ t, exec cmd s = .next t ∧ t.faultActive .starterStuck = true ∧ t.ssq.engine = .lockedOut
      ∧ t.ssq.fuelOrder = false ∧ t.ssq.releasePending = s.ssq.releasePending
      ∧ (tr.client = .sequence → s.erc.slots.protect = .empty →
          ProtectiveOrdersWait ((if s.ssq.pumpHeld = true then [.stop] else []) ++ [.unload, .fuelOff]) s t)) ∧
    (e.transport = true → ∃ t, exec cmd s = .next t ∧ t.ssq.releasePending = true
      ∧ (s.ssq.stopInProgress = false → linkUpdate s = s → t.ssq.engine = s.ssq.engine)
      ∧ (tr.client = .sequence → t.seqHas .disengage = true)
      ∧ (tr.client = .protect → s.ssq.protList = [] →
          t.erc.slots.protect.request = some ⟨.disengage, 0, .ssq⟩))) ∧
  (∀ (cmd : Instr) (tr : Transaction) (e : Ending) (x : Step) (s : State), EndsWith cmd tr e s → NoFailure tr e s →
    tr.client = .notch → tr.request.order = .setSpeed ∨ tr.request.order = .setLoad → s.nsp.step = some x →
    s.ssq.engine = .running → s.ssq.stopInProgress = false → s.ssq.idleElapsed = false → s.estop = false →
    ∃ t, exec cmd s = .next t ∧ StepEnds x e.accepted s t) ∧
  (∀ (cmd : Instr) (tr : Transaction) (e : Ending) (s : State), EndsWith cmd tr e s → NoFailure tr e s →
    tr.client = .protect → tr.request.producer = .nsp → s.estop = false → s.ssq.protList = [] →
    (tr.request.order = .unload → s.nsp.urgentList = [.setSpeed] →
      ∃ t, exec cmd s = .next t ∧ t.nsp.urgentList = []
        ∧ t.erc.slots.protect.request = some ⟨.setSpeed, BitVec.ofNat 16 s.row.idle, .nsp⟩) ∧
    (tr.request.order = .setSpeed → e.accepted = true →
      ∃ t, exec cmd s = .next t ∧ t.nsp.governorOwed = false))

/-! ## Speed and battery -/

/-- The table of R74, class by class: teeth per revolution, firing speed, idle speed, 90 % and 70 % of it, step and overspeed. -/
def classTable : List ClassRow :=
  [⟨120, 140, 320, 288, 224, 73, 1000⟩, ⟨150, 120, 270, 243, 189, 95, 1130⟩, ⟨136, 160, 400, 360, 280, 75, 1100⟩,
   ⟨160, 110, 240, 216, 168, 80, 970⟩]

/-- The engine class in effect (R74): the committed one from commit on, the strapped one until then. -/
def classInEffect (s : State) (k : Fin 4) : Prop :=
  (∃ c, s.mpt.committed = some c ∧ c.engineClass = k)
    ∨ (s.mpt.committed = none ∧ ∃ x, s.mpt.straps = some x ∧ x.engineClass = k)

/-- The speeds and the tooth count are those of the engine class, committed or until commit strapped, and notch n stands n steps
above idle. SPEED_PULSE counts a pulse, or rejects one that comes sooner than 100 µs; GATE_END sets the measured speed to the gate
count times 600 over the teeth and starts a gate of 0; SILENCE_TIMER_EXPIRY sets the silence flag and the measured speed to 0. Its
silence event ends SHUTDOWN, leaves CRANK_REST for CLAIMING with a new claim once the rest is over, stops the firing hold in
CRANKING, and is a STALL in IDLE_WARM, RUNNING and COOLDOWN, whose SHUTDOWN then ends at once, with the protective orders listed. -/
def Obligations.SpeedReadings : Prop :=
  (∀ (k : Fin 4) (s : State), classInEffect s k →
    classTable[k.val]? = some s.row ∧ (∀ n, s.notchSpeed n = s.row.idle + n * s.row.stepSpeed)
      ∧ s.notchSpeed 8 = [904, 1030, 1000, 880].getD k.val 0) ∧
  (∀ (us : Nat) (s : State), s.inReset = false → s.lmn.pulseCounted = false ∨ 100 ≤ us →
    exec (.speedPulse us) s = .next { s with lmn := { s.lmn with
      pulseCounted := true, gateCount := s.lmn.gateCount + 1, silenceTimer := some 250, silence := false } }) ∧
  (∀ (us : Nat) (s : State), s.lmn.pulseCounted = true → us < 100 → exec (.speedPulse us) s = .next s) ∧
  (∀ s : State, s.lmn.gateTimer.isSome = true →
    ∃ t, exec .gateEnd s = .next t ∧ t.lmn.measured = s.lmn.gateCount * 600 / s.row.teeth
      ∧ t.lmn.lastGate = s.lmn.gateCount * 600 / s.row.teeth ∧ t.lmn.gateCount = 0 ∧ t.lmn.gateTimer = some 100
      ∧ t.lmn.silence = s.lmn.silence ∧ t.lmn.silenceTimer = s.lmn.silenceTimer) ∧
  (∀ s : State, s.lmn.silenceTimer.isSome = true →
    ∃ t, exec .silenceTimerExpiry s = .next t ∧ t.lmn.silence = true ∧ t.lmn.measured = 0 ∧ t.lmn.silenceTimer = none
      ∧ (s.ssq.engine = .shutdown → s.ssq.stopReason = .manual →
          t.ssq.engine = if s.lockoutActive then .lockedOut else .stopped)
      ∧ (s.ssq.engine = .crankRest → s.ssq.rest = none → t.ssq.engine = .claiming ∧ t.cpa.claim = some 0)
      ∧ (s.ssq.engine = .crankRest → s.ssq.rest.isSome = true → t.ssq.engine = .crankRest ∧ t.ssq.rest = s.ssq.rest)
      ∧ (s.ssq.engine = .cranking → s.estop = false → t.ssq.engine = .cranking ∧ t.ssq.firingHold = none
          ∧ t.ssq.crank = s.ssq.crank ∧ t.ssq.fuelOrder = s.ssq.fuelOrder)
      ∧ (s.ssq.engine = .idleWarm ∨ s.ssq.engine = .running ∨ s.ssq.engine = .cooldown →
          t.faultActive .stall = true ∧ t.ssq.fuelOrder = false ∧ t.ssq.stopReason = .manual
            ∧ ProtectiveOrdersWait (protectiveOrders s) s t
            ∧ t.ssq.engine = if s.lockoutActive then .lockedOut else .stopped))

/-- A gate result is within 5 % of the speed of a notch (R121): 20 times it is at least 19 times and at most 21 times that speed. -/
def withinBand (s : State) (n r : Nat) : Bool :=
  decide (19 * (s.row.idle + n * s.row.stepSpeed) ≤ 20 * r ∧ 20 * r ≤ 21 * (s.row.idle + n * s.row.stepSpeed))

/-- GATE_END at or above overspeed cuts the fuel and latches OVERSPEED in every engine state, with the first-fault record filled
where it was empty; below 70 % of idle a warm engine stalls; either shutdown lists the protective orders. At 90 % of idle in FIRING
the engine has reached idle, and GOVERNOR SET_SPEED is ordered. In CRANKING,
once STARTER ENGAGE has been accepted, a result at or above the firing speed starts the firing hold of 1 s or leaves a running one,
and a lower one stops it. In RUNNING a result within 5 % of the watched notch's speed ends the deviation watch, and one within 5 %
of the completed notch's clears SPEED_DEVIATION; any other leaves them. -/
def Obligations.GateResultsMoveTheEngine : Prop :=
  (∀ s : State, s.lmn.gateTimer.isSome = true → s.row.overspeed ≤ s.lmn.gateCount * 600 / s.row.teeth →
    ∃ t, exec .gateEnd s = .next t ∧ t.fuelRun = false ∧ t.ssq.overspeedMark = true ∧ t.faultActive .overspeed = true
      ∧ t.lmn.overspeedForce = false
      ∧ (s.fcl.firstFault = none → s.faultActive .overspeed = false →
          t.fcl.firstFault = some ⟨.overspeed, s.ssq.engine, s.clc.cycleCount⟩)
      ∧ (s.ssq.engine = .stopped ∨ s.ssq.engine = .claiming → t.ssq.engine = .lockedOut ∧ t.cpa.claim = none)
      ∧ (s.ssq.engine ≠ .stopped → s.ssq.engine ≠ .claiming → s.ssq.engine ≠ .lockedOut → s.lmn.silence = false →
          t.ssq.engine = .shutdown ∧ (s.ssq.engine ≠ .shutdown → t.ssq.stopReason = .manual
            ∧ ProtectiveOrdersWait (protectiveOrders s) s t))) ∧
  (∀ s : State, s.lmn.gateTimer.isSome = true → s.lmn.gateCount * 600 / s.row.teeth < s.row.idle70 →
    s.ssq.engine = .idleWarm ∨ s.ssq.engine = .running ∨ s.ssq.engine = .cooldown → s.lmn.silence = false →
    ∃ t, exec .gateEnd s = .next t ∧ t.ssq.engine = .shutdown ∧ t.faultActive .stall = true
      ∧ t.ssq.fuelOrder = false ∧ t.ssq.stopReason = .manual ∧ ProtectiveOrdersWait (protectiveOrders s) s t) ∧
  (∀ s : State, s.lmn.gateTimer.isSome = true → s.ssq.engine = .firing →
    s.row.idle90 ≤ s.lmn.gateCount * 600 / s.row.teeth → s.lmn.gateCount * 600 / s.row.teeth < s.row.overspeed →
    ∃ t, exec .gateEnd s = .next t ∧ t.ssq.attempts = 0 ∧ t.ssq.fuelOrder = s.ssq.fuelOrder
      ∧ (s.estop = false → Waits .setSpeed t)
      ∧ t.ssq.engine = if s.coolantAtLeast 40 then .running else .idleWarm) ∧
  (∀ (r : Nat) (s : State), s.lmn.gateTimer.isSome = true → r = s.lmn.gateCount * 600 / s.row.teeth →
    s.ssq.engine = .cranking → r < s.row.overspeed → s.estop = false →
    ∃ t, exec .gateEnd s = .next t ∧ t.ssq.engine = .cranking
      ∧ t.ssq.firingHold = (if s.ssq.fuelOrder = false then s.ssq.firingHold
          else if s.row.firing ≤ r then some (s.ssq.firingHold.getD 1000) else none)) ∧
  (∀ (r : Nat) (s : State), s.lmn.gateTimer.isSome = true → r = s.lmn.gateCount * 600 / s.row.teeth →
    s.ssq.engine = .running → s.row.idle70 ≤ r → r < s.row.overspeed → s.ssq.stopInProgress = false →
    s.ssq.idleElapsed = false →
    ∃ t, exec .gateEnd s = .next t ∧ t.ssq.engine = .running
      ∧ t.nsp.watch = (match s.nsp.watch with
          | some w => if withinBand s w.notch r then none else some w
          | none => none)
      ∧ t.faultActive .speedDeviation = (s.faultActive .speedDeviation && !withinBand s s.nsp.completed r))

/-- What a battery sample of so many mV does to the sag detector (R151, R152): 31 samples in a row below 48.0 V set the sag flag and
raise BATTERY_SAG, 31 at or above it clear both. -/
def SagDetected (mv : Nat) (s t : State) : Prop :=
  (s.lmn.sagFlag = false → mv < 48000 → s.lmn.sagCount ≠ 30 →
      t.lmn.sagCount = s.lmn.sagCount + 1 ∧ t.lmn.sagFlag = false)
    ∧ (s.lmn.sagFlag = false → mv < 48000 → s.lmn.sagCount = 30 →
      t.lmn.sagCount = 0 ∧ t.lmn.sagFlag = true ∧ t.faultActive .batterySag = true)
    ∧ (s.lmn.sagFlag = false → 48000 ≤ mv → t.lmn.sagCount = 0 ∧ t.lmn.sagFlag = false)
    ∧ (s.lmn.sagFlag = true → 48000 ≤ mv → s.lmn.recoveryCount ≠ 30 →
      t.lmn.recoveryCount = s.lmn.recoveryCount + 1 ∧ t.lmn.sagFlag = true)
    ∧ (s.lmn.sagFlag = true → 48000 ≤ mv → s.lmn.recoveryCount = 30 →
      t.lmn.recoveryCount = 0 ∧ t.lmn.sagFlag = false ∧ t.faultActive .batterySag = false)
    ∧ (s.lmn.sagFlag = true → mv < 48000 → t.lmn.recoveryCount = 0 ∧ t.lmn.sagFlag = true)

/-- BATTERY_SAMPLE: steps of 0.25 V, rounded down, to 127.75 V, and the sag detector. SAG_EVENT and SAG_RECOVERY are the sample,
below 48.0 V or not, that brings the sag count, or the recovery count, to 31, and away from that they have no effect; that those
two rows are a sample of their own is the model's choice (log entry 4), and its value is free (log entry 34). -/
def Obligations.BatterySamplesAndSag : Prop :=
  (∀ (mv : Nat) (s : State), s.lmn.sampleTimer.isSome = true →
    ∃ t, exec (.batterySample mv) s = .next t ∧ t.lmn.sample = some (min 511 (mv / 250)) ∧ t.lmn.sampleTimer = some 10
      ∧ SagDetected mv s t) ∧
  (∀ s : State, s.lmn.sampleTimer.isSome = true → s.lmn.sagFlag = false → s.lmn.sagCount = 30 → s.ssq.engine ≠ .cranking →
    ∃ t v, exec .sagEvent s = .next t ∧ v < 192 ∧ t.lmn.sample = some v ∧ t.lmn.sampleTimer = some 10
      ∧ t.lmn.sagFlag = true ∧ t.lmn.sagCount = 0 ∧ t.faultActive .batterySag = true ∧ t.ssq.lastCause = s.ssq.lastCause) ∧
  (∀ s : State, s.lmn.sampleTimer = none ∨ s.lmn.sagFlag = true ∨ s.lmn.sagCount ≠ 30 → exec .sagEvent s = .next s) ∧
  (∀ s : State, s.lmn.sampleTimer.isSome = true → s.lmn.sagFlag = true → s.lmn.recoveryCount = 30 →
    ∃ t v, exec .sagRecovery s = .next t ∧ 192 ≤ v ∧ v ≤ 511 ∧ t.lmn.sample = some v ∧ t.lmn.sampleTimer = some 10
      ∧ t.lmn.sagFlag = false ∧ t.lmn.recoveryCount = 0 ∧ t.faultActive .batterySag = false) ∧
  (∀ s : State, s.lmn.sampleTimer = none ∨ s.lmn.sagFlag = false ∨ s.lmn.recoveryCount ≠ 30 →
    exec .sagRecovery s = .next s)

/-! ## Configuration and the maintenance port -/

/-- The mode a relay entry is committed with (R170): OFF for a source position above 7 and for every mode octet but 1 and 2. -/
def relayModeOf (source mode : Byte) : RelayMode :=
  if 8 ≤ source.toNat then .off else if mode = 1 then .latest else if mode = 2 then .snapshot else .off

/-- The buffer test of R169: the check octet is the XOR of the other fifteen, and position, class and floor, each where its mask
mark is set, are within their ranges (section 11.3). -/
def overridePasses (b : Vector Byte 16) : Bool :=
  decide (b[15] = b[0] ^^^ b[1] ^^^ b[2] ^^^ b[3] ^^^ b[4] ^^^ b[5] ^^^ b[6] ^^^ b[7] ^^^ b[8] ^^^ b[9] ^^^ b[10] ^^^ b[11]
      ^^^ b[12] ^^^ b[13] ^^^ b[14])
    && decide (b[0].getLsbD 0 = true → b[1].toNat ≤ 7) && decide (b[0].getLsbD 1 = true → b[2].toNat ≤ 3)
    && decide (b[0].getLsbD 2 = true → b[3].toNat ≤ 3)

/-- The configuration of straps and defaults (R170). -/
def StrapsAndDefaults (x : Straps) (c : Committed) : Prop :=
  c.position = x.position ∧ c.engineClass = x.engineClass ∧ c.floor = x.floor
    ∧ c.tag = BitVec.ofNat 16 (0x3460 + x.position.val) ∧ c.relayA.mode = .off ∧ c.relayB.mode = .off ∧ c.autostop = false
    ∧ c.checkCount = 0 ∧ c.injectedCount = 0

/-- The configuration of an applied override (R170). -/
def Overridden (x : Straps) (b : Vector Byte 16) (c : Committed) : Prop :=
  c.position.val = (if b[0].getLsbD 0 then b[1].toNat else x.position.val)
    ∧ c.engineClass.val = (if b[0].getLsbD 1 then b[2].toNat else x.engineClass.val)
    ∧ c.floor.val = (if b[0].getLsbD 2 then b[3].toNat else x.floor.val)
    ∧ c.tag = (if b[0].getLsbD 3 then b[5] ++ b[4] else BitVec.ofNat 16 (0x3460 + x.position.val))
    ∧ c.relayA.mode = relayModeOf b[6] b[7] ∧ (b[6].toNat < 8 → c.relayA.source.val = b[6].toNat)
    ∧ c.relayB.mode = relayModeOf b[8] b[9] ∧ (b[8].toNat < 8 → c.relayB.source.val = b[8].toNat)
    ∧ c.autostop = decide (b[10] = 1) ∧ c.checkCount = b[11] ∧ c.injectedCount = b[12]

/-- What a commit of this cause leaves (R36, R167, R169, R170): the override where one is written and its buffer passes, else the
straps and the defaults, with the flag of the outcome; LISTENING; the line check counts; the own entry, and every other as it was.
-/
def Commits (cause : CommitCause) (x : Straps) (s t : State) : Prop :=
  let applied := s.mpt.overrideWritten && overridePasses s.mpt.buffer
  ∃ c, t.mpt.committed = some c ∧ t.mpt.commitState = .committed cause ∧ t.mpt.configTimer = none
    ∧ t.mpt.accepted = applied ∧ t.mpt.rejected = (s.mpt.overrideWritten && !overridePasses s.mpt.buffer)
    ∧ (applied = true → Overridden x s.mpt.buffer c) ∧ (applied = false → StrapsAndDefaults x c)
    ∧ t.clc.linkState = .listening ∧ t.clc.listeningCount = 0 ∧ t.clc.windowIndex = s.clc.windowIndex
    ∧ t.clc.checkIndex = 0 ∧ t.clc.remainingCheck = c.checkCount.toNat
    ∧ t.clc.remainingInjected = min c.injectedCount.toNat c.checkCount.toNat
    ∧ (t.entry c.position).state = .live ∧ (t.entry c.position).tag = some c.tag
    ∧ (t.entry c.position).source = .direct ∧ (t.entry c.position).age = 0
    ∧ (∀ p, p ≠ c.position → t.entry p = s.entry p)

/-- CONFIG_TIMER_EXPIRY and COMMIT_WRITE alike commit by what the override buffer then holds. Nothing written: the straps and the
defaults, with no flag. Written, and the buffer passes (its check octet the XOR of the other fifteen, its marked fields in range):
OVERRIDE_ACCEPTED, with position, class, floor and tag by the mask marks, the relay entries, autostop and the line check as written.
Written, and it fails: OVERRIDE_REJECTED, with the straps and the defaults. Either way the commit makes the own entry, and the link
enters LISTENING. Which position a relay entry names that its source octet makes OFF is free (log entry 18). -/
def Obligations.CommitFormsTheConfiguration : Prop :=
  (∀ (x : Straps) (s : State), s.mpt.configTimer.isSome = true → s.mpt.commitState = .opened → s.mpt.straps = some x →
    ∃ t, exec .configTimerExpiry s = .next t ∧ Commits .expiry x s t) ∧
  (∀ (addr : BitVec 7) (x : Straps) (s : State), s.answers addr = true → s.mpt.straps = some x →
    s.mpt.commitState = .opened → s.mpt.pointer = 0x18 →
    ∃ t, exec (.commitWrite addr) s = .next t ∧ t.mpt.pointer = 0x19 ∧ Commits .write x s t)

/-- The override buffer (R168): 0 after power-on reset; while OPEN an octet written to 0x08 to 0x17 replaces the buffer octet there
and sets override written; it is read at those offsets at any time; the commit and a fault reset leave it, and after the commit a
write is refused. -/
def Obligations.OverrideBufferHoldsTheLastOctets : Prop :=
  (State.reset.mpt.buffer = Vector.replicate 16 0 ∧ State.reset.mpt.overrideWritten = false) ∧
  (∀ (addr : BitVec 7) (v : Byte) (i : Fin 16) (s : State), s.answers addr = true → s.mpt.commitState = .opened →
    s.mpt.pointer.toNat = 0x08 + i.val →
    ∃ t, exec (.overrideWrite addr v) s = .next t ∧ t = { s with pins := t.pins, mpt := { s.mpt with
      buffer := s.mpt.buffer.set i v, overrideWritten := true, pointer := s.mpt.pointer + 1 } }) ∧
  (∀ (i : Fin 16) (s : State), s.windowOctet (BitVec.ofNat 8 (0x08 + i.val)) = s.mpt.buffer[i]) ∧
  (∀ (cause : CommitCause) (s : State), (commit cause s).mpt.buffer = s.mpt.buffer) ∧
  (∀ (addr : BitVec 7) (v : Byte) (cause : CommitCause) (s : State), s.answers addr = true →
    s.mpt.commitState = .committed cause →
    ∃ t, exec (.overrideWrite addr v) s = .next t ∧ t = { s with pins := t.pins, mpt := { s.mpt with
      pointer := s.mpt.pointer + 1, writeRefused := min 65535 (s.mpt.writeRefused + 1) } }) ∧
  (∀ s : State, (faultReset s).mpt.buffer = s.mpt.buffer ∧ (faultReset s).mpt.overrideWritten = s.mpt.overrideWritten)

/-- PORT_POINTER_SET moves the pointer and empties the coherence buffer and the latch; WRITE_REFUSED discards an octet outside 0x08
to 0x18, after the commit, or other than 0x5A at 0x18, acknowledges it, and changes no state but the pointer and the count; and no
port command acts, or is acknowledged, at another target address. The target address is 0x30 plus the strapped position, from reset
release on. -/
def Obligations.PointerAndRefusedOctets : Prop :=
  (∀ (addr : BitVec 7) (x : Straps) (s : State), s.inReset = false → s.mpt.straps = some x →
    (s.answers addr = true ↔ addr.toNat = 0x30 + x.position.val)) ∧
  (∀ (addr : BitVec 7) (s : State), s.inReset = true → s.answers addr = false) ∧
  (∀ (addr : BitVec 7) (v : Byte) (s : State), s.answers addr = true →
    exec (.portPointerSet addr v) s = .next { s with
      pins := { s.pins with portAck := true }, mpt := { s.mpt with pointer := v, coherence := none, latch := none } }) ∧
  (∀ (addr : BitVec 7) (v : Byte) (s : State), s.answers addr = true →
    s.mpt.commitState ≠ .opened ∨ s.mpt.pointer.toNat < 0x08 ∨ 0x18 < s.mpt.pointer.toNat
      ∨ (s.mpt.pointer = 0x18 ∧ v ≠ 0x5A) →
    exec (.writeRefused addr v) s = .next { s with
      pins := { s.pins with portAck := true }
      mpt := { s.mpt with
        pointer := s.mpt.pointer + 1, writeRefused := min 65535 (s.mpt.writeRefused + 1) } }) ∧
  (∀ (cmd : Instr) (addr : BitVec 7) (v : Byte) (s : State), s.answers addr = false →
    cmd = .portPointerSet addr v ∨ cmd = .overrideWrite addr v ∨ cmd = .commitWrite addr ∨ cmd = .writeRefused addr v
      ∨ cmd = .coherentEntryRead addr ∨ cmd = .counterLatchRead addr ∨ cmd = .portOctetRead addr →
    exec cmd s = .next { s with pins := { s.pins with portAck := false } })

/-- The code of a CRANK_FAIL cause, 0 for none (section 11.4). -/
def causeNumber : Option Cause → Nat
  | none => 0
  | some c => [Cause.noTurn, .noFire, .sag, .starterFail, .fireLost].idxOf c + 1

/-- A mark as a bit of the weight `w`. -/
def bitAt (b : Bool) (w : Nat) : Nat := if b then w else 0

/-- A 16-bit value over two offsets, the low octet first. -/
def twoOctets (n : Nat) : List Nat := [n % 256, n / 256 % 256]

/-- The octets from offset `a` on show these values. -/
def Shows (s : State) (a : Nat) (ns : List Nat) : Prop :=
  ∀ (i n : Nat), ns[i]? = some n → s.windowOctet (BitVec.ofNat 8 (a + i)) = BitVec.ofNat 8 n

/-- The identity octets 0x01 to 0x07: the committed configuration, and until commit the outcome of the straps alone (R170), with the
source of both relay entries shown as 0 (log entry 18). -/
def configurationShown (x : Straps) (s : State) : List Nat :=
  let mode : RelayMode → Nat := fun m => [RelayMode.off, .latest, .snapshot].idxOf m
  match s.mpt.committed with
  | none =>
    [x.position.val + 8 * x.engineClass.val + 32 * x.floor.val] ++ twoOctets (0x3460 + x.position.val) ++ [0, 0, 0, 0]
  | some c =>
    [c.position.val + 8 * c.engineClass.val + 32 * c.floor.val + bitAt c.autostop 128] ++ twoOctets c.tag.toNat
      ++ [c.relayA.source.val + 16 * mode c.relayA.mode, c.relayB.source.val + 16 * mode c.relayB.mode, c.checkCount.toNat,
          c.injectedCount.toNat]

/-- The commit octets 0x18 and 0x19. -/
def commitShown (s : State) : List Nat :=
  let flags := bitAt s.mpt.accepted 16 + bitAt s.mpt.rejected 32 + bitAt s.mpt.overrideWritten 64 + bitAt s.clc.injectDone 128
  match s.mpt.commitState with
  | .committed .write => [0x5A, 1 + 2 * 1 + flags]
  | .committed .expiry => [0x5A, 1 + 2 * 2 + flags]
  | _ => [0, flags]

/-- `n` tenths of a second show a time of so many ms; a time between two tenths shows as either of them (log entry 17). -/
def tenthsShown (ms n : Nat) : Prop := n = ms / 100 ∨ (ms % 100 ≠ 0 ∧ n = ms / 100 + 1)

/-- The engine octets 0x20 to 0x24. -/
def engineShown (s : State) : List Nat :=
  [engineNumber s.ssq.engine,
   s.ssq.attempts + bitAt (decide (s.ssq.stopReason = .auto)) 4 + bitAt s.ssq.stopInProgress 8 + bitAt s.ssq.fuelOrder 16
     + bitAt s.ssq.overspeedMark 32 + bitAt s.ssq.releasePending 64 + bitAt s.ssq.pumpHeld 128,
   causeNumber s.ssq.lastCause + bitAt s.ssq.runAccepted 128,
   [LinkState.config, .listening, .checking, .joined, .alone, .silenced].idxOf s.clc.linkState + bitAt s.cpa.claim.isSome 8
     + 16 * s.clc.windowIndex.val + bitAt s.clc.repeatMark 128,
   s.clc.cycleCount.toNat]

/-- The step in flight, octet 0x2B, all 0 with none (log entry 19). -/
def stepShown : Option Step → Nat
  | none => 0
  | some x =>
    (match x.direction with | .up => 1 | .down => 2 | .retry => 3) + bitAt (decide (x.phase = .second)) 4 + bitAt x.restoring 8
      + 16 * x.toNotch

/-- The own claim age and the notch octets, 0x26 to 0x2C (log entry 19 for the notch of an idle deviation watch). -/
def notchShown (s : State) : List Nat :=
  let d := s.nsp.derates
  [s.cpa.claim.getD 0, s.nsp.reading.getD 15 + 16 * s.effectiveDemand, s.cap + 16 * s.derateCap,
   s.targetNotch + 16 * s.nsp.completed,
   bitAt d.coolantWarm.applied 1 + bitAt d.coolantHigh.applied 2 + bitAt d.coolantVeryHigh.applied 4
     + bitAt d.intakeWarm.applied 8 + bitAt d.intakeHigh.applied 16 + bitAt d.intakeVeryHigh.applied 32,
   stepShown s.nsp.step,
   bitAt s.nsp.governorOwed 1 + bitAt s.nsp.abandonHold.isSome 2 + bitAt s.nsp.watch.isSome 4
     + bitAt (decide (s.nsp.urgentList ≠ [])) 8 + 16 * (s.nsp.watch.map (fun w => w.notch)).getD 0]

/-- The debounced level of a line in two bits: 0 not taken, 1 not asserted, 2 asserted. -/
def levelShown (s : State) (l : Line) : Nat :=
  match (s.lmn.lines.get l).level with
  | none => 0
  | some false => 1
  | some true => 2

/-- The speed, battery and line octets, 0x2D to 0x35. -/
def inputShown (s : State) : List Nat :=
  let v := s.lmn.sample.getD 0
  twoOctets s.lmn.measured
    ++ [v % 256,
        v / 256 % 2 + bitAt (decide (s.lmn.sample = none)) 2 + bitAt s.lmn.sagFlag 4 + bitAt s.lmn.silence 8
          + bitAt s.lmn.overspeedForce 16,
        s.lmn.sagCount, s.lmn.recoveryCount,
        levelShown s .start + 4 * levelShown s .stop + 16 * levelShown s .freset + 64 * levelShown s .estop,
        levelShown s .runIso, 0]

/-- The sixteen octets of a table entry; the relaying position shows as 0 where the source is not RELAYED (log entry 19). -/
def entryShown (e : Entry) : List Nat :=
  [[EntryState.absent, .live, .stale, .lost].idxOf e.state + (match e.source with | .relayed v => 4 + 16 * v.val | _ => 0)
     + bitAt (decide (e.tag = none)) 128, e.age]
    ++ twoOctets ((e.tag.map (fun t => t.toNat)).getD 0)
    ++ [engineNumber e.engine + 16 * (e.prev.map engineNumber).getD 15, e.completed + 16 * e.target,
        e.demand.getD 15 + 16 * e.derate,
        bitAt e.flags.isolated 1 + bitAt e.flags.cooldownAuto 2 + bitAt e.flags.autoStopped 4 + bitAt e.flags.sensorsFailed 8
          + bitAt e.claim.isSome 16,
        e.claim.getD 0, faultNumber e.lastFault, e.checkErrors, 0, 0, 0, 0, 0]

/-- The health octets of a device: consecutive failures and last exception code, none shown as 0 (log entry 19), then total
failures. -/
def healthShown (h : Health) : List Nat :=
  [h.consecutive + 16 * (h.lastException.map (fun c => exceptionCodes.idxOf c + 1)).getD 0] ++ twoOctets h.total

/-- The orders of each device, from code 1 on (section 11.2), in the order of the device numbers. -/
def deviceOrders : List (Device × List Order) :=
  [(.governor, [.setSpeed, .fuelOff]), (.starter, [.engage, .disengage]), (.prelube, [.run, .stop, .status]),
   (.load, [.setLoad, .unload]), (.sensors, [.read])]

/-- Device number and order code of an order. -/
def orderNumbers (o : Order) : Nat × Nat :=
  let d := deviceOrders.findIdx (fun x => x.2.contains o)
  (d, ((deviceOrders[d]?.map (fun x => x.2)).getD []).idxOf o + 1)

/-- The condition of a slot. -/
def slotShown : Slot → Nat
  | .empty => 0
  | .pending _ => 1
  | .inFlight _ => 2

/-- A pending request in five bits (log entry 19). -/
def pendingShown : Slot → Nat
  | .pending r => (orderNumbers r.order).1 + 8 * (orderNumbers r.order).2
  | _ => 0

/-- The channel octets 0xC0 to 0xDF (log entry 19 for a last exception code of none, the sequence tag while IDLE, the time
since sending and the pending requests). -/
def channelShown (s : State) : List Nat :=
  let e := s.erc
  let pend := pendingShown e.slots.protect + 32 * pendingShown e.slots.sequence + 1024 * pendingShown e.slots.notch
  healthShown e.health.governor ++ healthShown e.health.starter ++ healthShown e.health.prelube ++ healthShown e.health.load
    ++ healthShown e.health.sensors
    ++ [(e.sensor.coolant + 50).toNat, (e.sensor.intake + 50).toNat,
        bitAt e.sensor.oilLow 1 + 2 * [RecordState.empty, .valid, .stale].idxOf e.sensor.state]
    ++ twoOctets e.sensor.age
    ++ [[Sequencer.idle, .sending, .awaiting].idxOf e.sequencer + 16 * e.tag.toNat,
        slotShown e.slots.protect + 4 * slotShown e.slots.sequence + 16 * slotShown e.slots.notch + 64 * slotShown e.slots.poll,
        match e.current with
        | none => 0
        | some x =>
          [Client.protect, .sequence, .notch, .poll].idxOf x.client + 1 + 8 * (orderNumbers x.request.order).1
            + 64 * (orderNumbers x.request.order).2]
    ++ twoOctets ((e.current.map (fun x => x.request.arg.toNat)).getD 0) ++ [min 255 e.sinceSent] ++ twoOctets pend ++ [0, 0, 0, 0]

/-- The counters, 0xE0 to 0xF5, in their order. -/
def countersShown (s : State) : List Nat :=
  let c := s.clc.counters
  [c.recordsGood, c.checkError, c.collision, c.windowMissed, c.dupPositionSeen, c.tagChange, c.lineBitErrors, c.checkRecordsSeen,
   s.cpa.permitClash, s.erc.lateReply, s.mpt.writeRefused].flatMap twoOctets

/-- The first-fault record and the CRANK_FAIL cause with its hold time left in whole seconds, rounded up, 0xF9 to 0xFC (log entry 19
for the octets of an empty record). -/
def faultsShown (s : State) : List Nat :=
  (match s.fcl.firstFault with
   | none => [0, 0, 0]
   | some f => [faultNumber (some f.kind), engineNumber f.engine, f.cycle.toNat])
    ++ [causeNumber s.fcl.crankFailCause + 16 * ((s.fcl.crankFailTimer.getD 0 + 999) / 1000)]

/-- The status window, offset by offset (R177, section 11.5): identity and configuration, commit and line check, engine and link,
notch, inputs, phantom holds, table entries, channel, counters and faults. Each bit of a set map stands for the kind of its code.
-/
def WindowShows (s : State) : Prop :=
  (∀ x, s.mpt.straps = some x →
      Shows s 0x00 ([x.position.val + 8 * x.engineClass.val + 32 * x.floor.val] ++ configurationShown x s))
    ∧ Shows s 0x08 (s.mpt.buffer.toList.map (fun b => b.toNat)) ∧ Shows s 0x18 (commitShown s)
    ∧ (∃ n, tenthsShown (s.mpt.configTimer.getD 0) n ∧ Shows s 0x1A [n])
    ∧ Shows s 0x1B [s.clc.remainingCheck, s.clc.remainingInjected, s.clc.checkIndex, 0, 0]
    ∧ Shows s 0x20 (engineShown s) ∧ (∃ n, tenthsShown (s.nsp.dwell.getD 0) n ∧ Shows s 0x25 [min 255 n])
    ∧ Shows s 0x26 (notchShown s) ∧ Shows s 0x2D (inputShown s)
    ∧ (∀ p : Fin 8, (s.windowOctet 0x36).getLsbD p.val = (s.cpa.holds.get p).isSome
        ∧ Shows s (0x37 + p.val) [((s.cpa.holds.get p).getD 0 + 99) / 100])
    ∧ Shows s 0x3F [faultNumber s.fcl.notices.head?]
    ∧ (∀ k : Fin 8, Shows s (0x40 + 16 * k.val) (entryShown (s.entry k)))
    ∧ Shows s 0xC0 (channelShown s) ∧ Shows s 0xE0 (countersShown s) ∧ Shows s 0xF9 (faultsShown s)
    ∧ ∀ (j : Fin 3) (i : Fin 8),
        ((s.windowOctet (BitVec.ofNat 8 (0xF6 + j.val))).getLsbD i.val = true ↔
          ∃ k, s.faultActive k = true ∧ faultNumber (some k) = 8 * j.val + i.val + 1)
        ∧ ((s.windowOctet (BitVec.ofNat 8 (0xFD + j.val))).getLsbD i.val = true ↔
          ∃ k, k ∈ s.fcl.notices ∧ faultNumber (some k) = 8 * j.val + i.val + 1)

/-- Every offset of the window shows what section 11.5 gives it: identity and configuration, engine, link, notch, inputs, holds,
table entries, channel, counters and faults (a time between two tenths of a second shows as either, log entry 17; 0xD4, 0xD9 to
0xDB, a last exception code of none, the relaying position of an entry that is not RELAYED, 0x2B with no step in flight, the notch of
an idle deviation watch and the octets of an empty first-fault record as the model reads the map, log entry 19; the relay octets 0x04 and 0x05 before
commit as 0, where R170 says OFF, and source 0 is the choice of log entry 18). COHERENT_ENTRY_READ at the first
octet of an entry copies the entry, and the rest of the block is then served from the copy; without that copy it is served as the
entry stands. COUNTER_LATCH_READ at the low octet of a 16-bit value latches its high octet, which the next read is served from;
PORT_OCTET_READ elsewhere shows the window as it stands. -/
def Obligations.PortReadsServeTheWindow : Prop :=
  (∀ s : State, WindowShows s) ∧
  (∀ (addr : BitVec 7) (k : Fin 8) (s : State), s.answers addr = true → s.mpt.pointer.toNat = 0x40 + 16 * k.val →
    exec (.coherentEntryRead addr) s = .next { s with
      mpt := { s.mpt with
        pointer := s.mpt.pointer + 1, coherence := some ⟨k, (entryShown (s.entry k)).map (BitVec.ofNat 8)⟩
        latch := none }
      pins := { s.pins with portAck := true, portOut := some (s.windowOctet s.mpt.pointer) } }) ∧
  (∀ (addr : BitVec 7) (k : Fin 8) (j : Nat) (bs : List Byte) (s : State), s.answers addr = true → 1 ≤ j → j ≤ 15 →
    s.mpt.pointer.toNat = 0x40 + 16 * k.val + j → s.mpt.coherence = some ⟨k, bs⟩ →
    exec (.portOctetRead addr) s = .next { s with
      mpt := { s.mpt with pointer := s.mpt.pointer + 1, latch := none }
      pins := { s.pins with portAck := true, portOut := some (bs.getD j 0) } }) ∧
  (∀ (addr : BitVec 7) (k : Fin 8) (j : Nat) (s : State), s.answers addr = true → 1 ≤ j → j ≤ 15 →
    s.mpt.pointer.toNat = 0x40 + 16 * k.val + j → (∀ c, s.mpt.coherence = some c → c.entry ≠ k) →
    exec (.portOctetRead addr) s = .next { s with
      mpt := { s.mpt with pointer := s.mpt.pointer + 1, coherence := none, latch := none }
      pins := { s.pins with portAck := true, portOut := some (s.windowOctet s.mpt.pointer) } }) ∧
  (∀ (addr : BitVec 7) (s : State), s.answers addr = true → s.mpt.pointer.toNat ∈ lowOffsets → s.mpt.latch = none →
    exec (.counterLatchRead addr) s = .next { s with
      mpt := { s.mpt with
        pointer := s.mpt.pointer + 1, coherence := none
        latch := some ⟨s.mpt.pointer + 1, s.windowOctet (s.mpt.pointer + 1)⟩ }
      pins := { s.pins with portAck := true, portOut := some (s.windowOctet s.mpt.pointer) } }) ∧
  (∀ (addr : BitVec 7) (v : Byte) (s : State), s.answers addr = true →
    s.mpt.pointer.toNat < 0x40 ∨ 0xC0 ≤ s.mpt.pointer.toNat → s.mpt.pointer.toNat ∉ lowOffsets →
    s.mpt.latch = some ⟨s.mpt.pointer, v⟩ →
    exec (.portOctetRead addr) s = .next { s with
      mpt := { s.mpt with pointer := s.mpt.pointer + 1, coherence := none, latch := none }
      pins := { s.pins with portAck := true, portOut := some v } }) ∧
  (∀ (addr : BitVec 7) (s : State), s.answers addr = true →
    s.mpt.pointer.toNat < 0x40 ∨ 0xC0 ≤ s.mpt.pointer.toNat → s.mpt.pointer.toNat ∉ lowOffsets → s.mpt.latch = none →
    exec (.portOctetRead addr) s = .next { s with
      mpt := { s.mpt with pointer := s.mpt.pointer + 1, coherence := none, latch := none }
      pins := { s.pins with portAck := true, portOut := some (s.windowOctet s.mpt.pointer) } })

/-! ## Frames -/

/-- Once committed, the configuration, the commit state, the straps, the override buffer and its flags stay under every command but
power-on reset. In every step the commit state and the link state go on agreeing: nothing is committed in reset, and the link state
is CONFIG, with no configuration, until the commit and not from it on. -/
def Obligations.CommittedConfigurationStays : Prop :=
  (∀ (c : Instr) (cause : CommitCause) (s t : State), c ≠ .powerOnReset → s.inReset = false →
    s.mpt.commitState = .committed cause → exec c s = .next t →
    t.mpt.committed = s.mpt.committed ∧ t.mpt.commitState = s.mpt.commitState ∧ t.mpt.straps = s.mpt.straps
      ∧ t.mpt.buffer = s.mpt.buffer ∧ t.mpt.overrideWritten = s.mpt.overrideWritten
      ∧ t.mpt.accepted = s.mpt.accepted ∧ t.mpt.rejected = s.mpt.rejected) ∧
  (∀ s t : State, CommitFitsLink s → step s = .next t → CommitFitsLink t)

/-- The timer commands of SSQ, NSP and FCL. -/
def timerCommands : List Instr :=
  [.prelubeTick, .prelubeTimerExpiry, .turnCheckExpiry, .crankTimerExpiry, .firingHoldExpiry, .restTimerExpiry,
   .firingTimerExpiry, .warmUpTimerExpiry, .autostopIdleTimerExpiry, .cooldownTimerExpiry, .disagreementTimerExpiry,
   .dwellClockReached .down, .dwellClockReached .up, .abandonHoldExpiry, .deviationWatchExpiry, .crankFailHoldExpiry]

/-- What each group of commands leaves unchanged. -/
def Obligations.CommandsKeepWhatIsNotTheirs : Prop :=
  (∀ (c : Instr) (s t : State), c ∈ timerCommands → exec c s = .next t →
    KeepsOutside s t ∧ KeepsDevices s t ∧ KeepsDemandAndDerates s t) ∧
  (∀ (s t : State), exec .demandStabilityExpiry s = .next t →
    KeepsOutside s t ∧ KeepsDevices s t ∧ t.nsp.derates = s.nsp.derates) ∧
  (∀ (d : Derate) (s t : State), exec (.derateApplyTimerExpiry d) s = .next t ∨ exec (.derateReleaseTimerExpiry d) s = .next t →
    KeepsOutside s t ∧ KeepsDevices s t ∧ t.nsp.reading = s.nsp.reading) ∧
  (∀ (l : Line) (s t : State), l ≠ .freset → exec (.lineStabilityExpiry l) s = .next t →
    t.table = s.table ∧ t.mpt = s.mpt ∧ t.pins = s.pins ∧ t.cpa.holds = s.cpa.holds ∧ KeepsDevices s t
      ∧ KeepsDemandAndDerates s t ∧ t.clc.counters = s.clc.counters) ∧
  (∀ (c : Instr) (s t : State), c = .gateEnd ∨ c = .silenceTimerExpiry ∨ c = .sagEvent ∨ c = .sagRecovery
      ∨ (∃ mv, c = .batterySample mv) →
    exec c s = .next t →
    t.table = s.table ∧ t.mpt = s.mpt ∧ t.pins = s.pins ∧ t.cpa.holds = s.cpa.holds ∧ t.lmn.lines = s.lmn.lines
      ∧ KeepsDevices s t ∧ KeepsDemandAndDerates s t ∧ t.clc.counters = s.clc.counters) ∧
  (∀ (c : Instr) (s t : State),
    c = .listeningEnd ∨ c = .lineCheckEnd ∨ (∃ b, c = .windowTimerExpiry b) ∨ (∃ ws, c = .recordTaken ws)
      ∨ (∃ p, c = .phantomHoldExpiry p) → exec c s = .next t →
    t.lmn = s.lmn ∧ t.mpt = s.mpt ∧ t.pins = s.pins ∧ KeepsDevices s t ∧ KeepsDemandAndDerates s t) ∧
  (∀ (c : Instr) (s t : State), c = .replyTimeout ∨ (∃ ws, c = .replyTaken ws) → exec c s = .next t →
    KeepsOutside s t ∧ t.nsp.reading = s.nsp.reading ∧ t.erc.pollTimer = s.erc.pollTimer)

/-! ## Invariants of every step -/

/-- In every step the claim stays present exactly in CLAIMING, PRELUBE and CRANKING, and FUEL_RUN asserted only in CRANKING, FIRING,
IDLE_WARM, RUNNING and COOLDOWN. -/
def Obligations.ClaimAndFuelFitTheEngine : Prop :=
  ∀ s t : State, ClaimFitsEngine s → FuelFitsEngine s → step s = .next t →
    ClaimFitsEngine t ∧ FuelFitsEngine t ∧ (t.fuelRun = true → t.ssq.engine.mayFuel = true)

/-- In every step ESTOP asserted keeps the engine in STOPPED, SHUTDOWN or LOCKED_OUT with FUEL_RUN deasserted. -/
def Obligations.EstopKeepsTheEngineDown : Prop :=
  ∀ s t : State, EstopFitsEngine s → step s = .next t → EstopFitsEngine t ∧ (t.estop = true → t.fuelRun = false)

/-- In every step at most one transaction is in flight: none with the sequencer IDLE, else exactly the slot of the current one. -/
def Obligations.OneTransactionInFlight : Prop :=
  ∀ s t : State, OneTransaction s → step s = .next t → OneTransaction t

/-- The active fault set holds each kind at most once, in every step; ALARM_LAMP is lit exactly while it holds one of the seven
latched kinds, is out in power-on reset, and DUPLICATE_POSITION keeps it lit under every command but power-on reset (R165). -/
def Obligations.AlarmLampShowsTheLatchedKinds : Prop :=
  (∀ s t : State, FaultSetListed s → step s = .next t → FaultSetListed t) ∧
  (∀ s : State, FaultSetListed s → s.fcl.active.Nodup) ∧
  (∀ s : State, s.alarmLamp = true ↔ ∃ k ∈ s.fcl.active,
    k = .duplicatePosition ∨ k = .crankLockout ∨ k = .starterStuck ∨ k = .overspeed ∨ k = .oilLow ∨ k = .prelubeFail
      ∨ k = .stall) ∧
  (∀ s : State, ∃ t, exec .powerOnReset s = .next t ∧ t.alarmLamp = false ∧ t.fcl.active = []) ∧
  (∀ (p : BitVec 3) (c f : BitVec 2), ∃ t, exec (.resetRelease p c f) State.reset = .next t ∧ t.alarmLamp = false) ∧
  (∀ (c : Instr) (s t : State), c ≠ .powerOnReset → s.faultActive .duplicatePosition = true → exec c s = .next t →
    t.faultActive .duplicatePosition = true ∧ t.alarmLamp = true)

/-- In every step the notice-pending set holds each kind at most once, and CRANK_FAIL's cause and hold timer stand exactly while
the kind is active. -/
def Obligations.FaultRecordsStayListed : Prop :=
  (∀ s t : State, NoticesListed s → step s = .next t → NoticesListed t) ∧
  (∀ s t : State, CrankFailTimed s → step s = .next t → CrankFailTimed t)

/-- The invariants hold at reset. -/
def Obligations.InvariantsHoldAtReset : Prop :=
  ClaimFitsEngine State.reset ∧ FuelFitsEngine State.reset ∧ EstopFitsEngine State.reset ∧ OneTransaction State.reset
    ∧ FaultSetListed State.reset ∧ NoticesListed State.reset ∧ CrankFailTimed State.reset
    ∧ CommitFitsLink State.reset
end

