-- ==== Sys2Proof/WellFormed.lean ====
section
/-! DEFINITION. Which commands the outside world can send at all: a record or reply has at least one octet (R9, R129), and a
port transaction is addressed to a station (R171). `exec` is total and does not rest on these checks. -/

namespace Sys2Proof

/-- The target addresses a station can have: 0x30 plus a position (R171). -/
def stationAddress (addr : BitVec 7) : Bool :=
  decide (0x30 ≤ addr.toNat) && decide (addr.toNat ≤ 0x37)

/-- The check of one command. -/
def Instr.wellFormed : Instr → Bool
  | .recordTaken octets => !octets.isEmpty
  | .replyTaken octets => !octets.isEmpty
  | .portPointerSet addr _ => stationAddress addr
  | .overrideWrite addr _ => stationAddress addr
  | .commitWrite addr => stationAddress addr
  | .writeRefused addr _ => stationAddress addr
  | .coherentEntryRead addr => stationAddress addr
  | .counterLatchRead addr => stationAddress addr
  | .portOctetRead addr => stationAddress addr
  | .powerOnReset => true
  | .resetRelease _ _ _ => true
  | .windowTimerExpiry _ => true
  | .listeningEnd => true
  | .deferredSend => true
  | .deferralTimeout => true
  | .collision => true
  | .checkRecordSent => true
  | .lineCheckEnd => true
  | .phantomHoldExpiry _ => true
  | .lineLevelChange _ _ => true
  | .lineStabilityExpiry _ => true
  | .demandCodeChange _ => true
  | .demandStabilityExpiry => true
  | .disagreementTimerExpiry => true
  | .derateApplyTimerExpiry _ => true
  | .derateReleaseTimerExpiry _ => true
  | .dwellClockReached _ => true
  | .abandonHoldExpiry => true
  | .deviationWatchExpiry => true
  | .prelubeTick => true
  | .prelubeTimerExpiry => true
  | .turnCheckExpiry => true
  | .crankTimerExpiry => true
  | .firingHoldExpiry => true
  | .restTimerExpiry => true
  | .firingTimerExpiry => true
  | .warmUpTimerExpiry => true
  | .autostopIdleTimerExpiry => true
  | .cooldownTimerExpiry => true
  | .sendingEnd => true
  | .replyTimeout => true
  | .pollTimerExpiry => true
  | .speedPulse _ => true
  | .gateEnd => true
  | .silenceTimerExpiry => true
  | .batterySample _ => true
  | .sagEvent => true
  | .sagRecovery => true
  | .crankFailHoldExpiry => true
  | .configTimerExpiry => true

end Sys2Proof
end

