-- ==== Sys2Proof/Tests/Slice0.lean ====
section
/-! SUPPORT. Tests of the model: ill-formed commands, single commands on small states after the spec's worked examples, and, for
every statement with hypotheses, a state and operands that meet them together, clause by clause. -/

open Sys2Proof Sys2Proof.Machine

namespace Sys2Proof.Tests

/-! ## Ill-formed commands -/

theorem test_empty_record_ill_formed : (Instr.recordTaken []).wellFormed = false := by decide
theorem test_empty_reply_ill_formed : (Instr.replyTaken []).wellFormed = false := by decide
theorem test_low_address_ill_formed : (Instr.portPointerSet 0x2F 0).wellFormed = false := by decide
theorem test_high_address_ill_formed : (Instr.portOctetRead 0x38).wellFormed = false := by decide
theorem test_override_address_ill_formed : (Instr.overrideWrite 0 0).wellFormed = false := by decide
theorem test_commit_address_ill_formed : (Instr.commitWrite 0x38).wellFormed = false := by decide
theorem test_refused_address_ill_formed : (Instr.writeRefused 0x7F 0).wellFormed = false := by decide
theorem test_coherent_address_ill_formed : (Instr.coherentEntryRead 0x2F).wellFormed = false := by decide
theorem test_latch_address_ill_formed : (Instr.counterLatchRead 0x38).wellFormed = false := by decide
theorem test_port_address_well_formed : (Instr.portOctetRead 0x37).wellFormed = true := by decide
theorem test_no_word_spells_a_command : decodeTableWord 8 0xA5 = none := by decide

/-! ## Small states -/

/-- What a command leaves, put to a test. -/
def leaves (c : Instr) (s : State) (p : State → Bool) : Bool :=
  match exec c s with
  | .next t => p t
  | _ => false

/-- Out of power-on reset. -/
def out : State := { State.reset with inReset := false }

/-- A configuration: position 3, class 0. -/
def config : Committed := ⟨3, 0, 1, 0x3463, ⟨0, .off⟩, ⟨0, .off⟩, false, 0, 0⟩

/-- Committed, in a link state, with reception taken up and the reply line quiet. -/
def linked (l : LinkState) : State :=
  { out with clc := { out.clc with linkState := l, reception := .ready }
             ssq := { out.ssq with seqList := [], releasePending := false }
             erc := { out.erc with replyLine := .clear }
             mpt := { out.mpt with straps := some ⟨3, 0, 1⟩, commitState := .committed .expiry, committed := some config } }

/-- In an engine state, with the SSQ state changed besides. -/
def inEngine (e : EngineState) (f : Ssq → Ssq) (s : State) : State := { s with ssq := f { s.ssq with engine := e } }

/-- In a window, its timer running, with a sending side. -/
def inWindow (i : Fin 8) (mark : Bool) (tx : Tx) (s : State) : State :=
  { s with clc := { s.clc with windowIndex := i, windowTimer := some 2000, repeatMark := mark, tx := tx } }

/-- With a state of reception. -/
def receiving (r : Reception) (s : State) : State := { s with clc := { s.clc with reception := r } }

/-- With CHECK records that remain to be sent. -/
def remaining (n : Nat) (s : State) : State := { s with clc := { s.clc with remainingCheck := n } }

/-- With a LISTENING count. -/
def listened (n : Nat) (s : State) : State := { s with clc := { s.clc with listeningCount := n } }

/-- LMN changed. -/
def withLmn (f : Lmn → Lmn) (s : State) : State := { s with lmn := f s.lmn }

/-- NSP changed. -/
def withNsp (f : Nsp → Nsp) (s : State) : State := { s with nsp := f s.nsp }

/-- ERC changed. -/
def withErc (f : Erc → Erc) (s : State) : State := { s with erc := f s.erc }

/-- With a state of the reply line. -/
def withReplyLine (l : ReplyLine) (s : State) : State := withErc (fun e => { e with replyLine := l }) s

/-- MPT changed. -/
def withMpt (f : Mpt → Mpt) (s : State) : State := { s with mpt := f s.mpt }

/-- A line with its debounced level, the level on it, and its stability timer running. -/
def lineAt (l : Line) (level : Option Bool) (pin : Bool) (s : State) : State :=
  { s with lmn := { s.lmn with lines := s.lmn.lines.set l ⟨level, some 1⟩ }
           pins := { s.pins with lines := s.pins.lines.set l pin } }

/-- The own claim. -/
def claiming (a : Nat) (s : State) : State := { s with cpa := { s.cpa with claim := some a } }

/-- A peer's entry. -/
def peerEntry (st : EntryState) (age : Nat) (e : EngineState) (claim : Option Nat) : Entry :=
  { Entry.absentWith 0 with state := st, age := age, engine := e, claim := claim, source := .relayed 1 }

/-- A peer at a position. -/
def withPeer (p : Fin 8) (e : Entry) (s : State) : State := { s with table := s.table.set p e }

/-- The STATUS record of position 6, tag 0x2A07, cycle 9: RUNNING at 4/5, demand 5, cap 8, no claim (section 11.1). -/
def statusHeard : List Byte := [0xA5, 0x16, 0x07, 0x2A, 0x09, 0x07, 0x54, 0x85, 0x00, 0x41]

/-- The same octets with their parity bits. -/
def statusWire : List WireOctet := statusHeard.map withParity

/-- What that record says. -/
def statusRecord : Record :=
  { mark := .status, origin := 6, deferred := false, tag := 0x2A07, cycle := 9,
    contents := ⟨.running, 4, 5, some 5, 8, ⟨false, false, false, false⟩, none⟩, fault := none, summaries := [],
    payload := [] }

/-- A transaction with the starter, and the channel awaiting its reply. -/
def engageSent : Transaction := ⟨.sequence, ⟨.engage, 0, .ssq⟩, 5⟩

/-- The channel with that transaction, in a sequencer state. -/
def transacting (q : Sequencer) (s : State) : State :=
  withErc (fun e => { e with
    sequencer := q, current := some engageSent, tag := 5, slots := { e.slots with sequence := .inFlight engageSent.request } }) s

/-- A CHECK record being sent. -/
def checkSent : Tx := .sending ⟨.check true, [], 5⟩

/-- RUNNING at a notch with a demand, free to step, with RUN_ISO at RUN. -/
def runningAt (n : Nat) (demand : Nat) (dwell : Nat) : State :=
  inEngine .running id (withLmn (fun m => { m with lines := m.lines.set .runIso ⟨some false, none⟩ })
    (withNsp (fun x => { x with completed := n, reading := some demand, dwell := some dwell }) (linked .joined)))

/-- A device one transport ending away from FAILED. -/
def failing (d : Device) (s : State) : State := withErc (fun e => { e with health := e.health.set d ⟨2, 2, none⟩ }) s

/-- The channel awaiting the reply to a transaction. -/
def awaiting (tr : Transaction) (s : State) : State :=
  withErc (fun e => { e with
    sequencer := .awaiting, current := some tr, tag := tr.tag, slots := e.slots.set tr.client (.inFlight tr.request) }) s

/-- The ACCEPT of a transaction. -/
def acceptOf (tr : Transaction) (d0 d1 d2 : Byte) : List WireOctet :=
  (closed [0xC3, tr.request.order.device.address, tr.tag.setWidth 8, 0, d0, d1, d2]).map withParity

/-- The EXCEPTION of a transaction, DEVICE_BUSY. -/
def busyOf (tr : Transaction) : List WireOctet :=
  (closed [0xE7, tr.request.order.device.address, tr.tag.setWidth 8, 1, 0, 0, 0]).map withParity

/-- A SEQUENCE transaction. -/
def seqSent (o : Order) : Transaction := ⟨.sequence, ⟨o, 0, .ssq⟩, 5⟩

/-- A PROTECT transaction. -/
def protSent (o : Order) (p : Producer) : Transaction := ⟨.protect, ⟨o, 0, p⟩, 5⟩

/-- A NOTCH transaction. -/
def notchSent (o : Order) : Transaction := ⟨.notch, ⟨o, 0, .nsp⟩, 5⟩

/-- The poll. -/
def readSent : Transaction := ⟨.poll, ⟨.read, 0, .erc⟩, 5⟩

/-- A deferred STATUS record of position 6, tag 0x2A07, with an engine state, flags and summaries. -/
def deferredWire (p : Fin 8) (e : EngineState) (f : UnitFlags) (ms : List Summary) : List WireOctet :=
  (statusOctets none p true .joined 0x2A07 9 ⟨e, 0, 0, none, 8, f, none⟩ ms).map withParity

/-- What that record says. -/
def deferredRecord (p : Fin 8) (e : EngineState) (f : UnitFlags) (ms : List Summary) : Record :=
  { mark := .status, origin := p, deferred := true, tag := 0x2A07, cycle := 9,
    contents := ⟨e, 0, 0, none, 8, f, none⟩, fault := none, summaries := ms, payload := [] }

/-- The CHECK record of position 6 in cycle 9. -/
def checkWire : List WireOctet := (checkOctets 6 false 0x2A07 9 (checkPayload 6 9)).map withParity

theorem test_no_check_on_an_idle_link {s : State} (h : s.clc.tx = .idle) : noCheckOnPair s := fun r i e => by
  rw [h] at e; cases e

theorem test_timeout_ends (tr : Transaction) (s : State) : EndsWith .replyTimeout tr .noReply (awaiting tr s) :=
  ⟨rfl, rfl, Or.inl ⟨rfl, rfl⟩⟩

theorem test_reply_ends (ws : List WireOctet) (tr : Transaction) (e : Ending) (s : State)
    (h : classifyReply tr ws = some e) (r : s.inReset = false) :
    EndsWith (.replyTaken ws) tr e (awaiting tr s) :=
  ⟨rfl, rfl, Or.inr ⟨ws, rfl, r, h⟩⟩

theorem test_failed_reply_ends (tr : Transaction) :
    EndsWith (.replyTaken []) tr .corrupt (awaiting tr (linked .joined)) :=
  ⟨rfl, rfl, Or.inr ⟨[], rfl, rfl, rfl⟩⟩

/-! ## Single commands -/

theorem test_status_record_is_read : acceptRecord statusWire = some statusRecord := by decide
theorem test_parity_error_is_refused : acceptRecord (statusWire.set 4 0x009) = none := by decide
theorem test_composed_status : statusOctets none 6 false .joined 0x2A07 9 statusRecord.contents [] = statusHeard := by decide
theorem test_gate_of_eight_pulses_is_40_rpm :
    leaves .gateEnd (withLmn (fun m => { m with gateTimer := some 0, gateCount := 8 }) (linked .joined))
      (fun t => t.lmn.measured == 40) = true := by decide
theorem test_sample_is_rounded_down :
    leaves (.batterySample 48249) (withLmn (fun m => { m with sampleTimer := some 0 }) (linked .joined))
      (fun t => t.lmn.sample == some 192) = true := by decide
theorem test_notch_speeds_of_class_0 : (linked .joined).notchSpeed 0 = 320 ∧ (linked .joined).notchSpeed 1 = 393 := by decide
theorem test_engage_accept_starts_the_fuel :
    leaves (.replyTaken ((closed [0xC3, 0x05, 5, 0, 0, 0, 0]).map withParity))
      (claiming 3 (inEngine .cranking id (transacting .awaiting (linked .joined))))
      (fun t => t.fuelRun && t.ssq.crank == some 15000 && t.ssq.turnCheck == some 3000 && t.erc.sequencer == .idle) = true := by
  decide
theorem test_release_sends_disengage_first :
    leaves (.resetRelease 3 0 1) State.reset (fun t => t.erc.current == some ⟨.sequence, ⟨.disengage, 0, .ssq⟩, 0⟩) = true := by
  decide
theorem test_commit_write_of_section_10_5 :
    leaves (.commitWrite 0x33)
      (withMpt (fun m => { m with
        straps := some ⟨3, 1, 1⟩, commitState := .opened, overrideWritten := true, pointer := 0x18,
        buffer := #v[0x09, 5, 0, 0, 0x07, 0x2A, 6, 2, 0, 0, 1, 4, 1, 0, 0, 0x21] }) out)
      (fun t => t.mpt.committed == some ⟨5, 1, 1, 0x2A07, ⟨6, .snapshot⟩, ⟨0, .off⟩, true, 4, 1⟩ && t.mpt.accepted
        && t.mpt.pointer == 0x19) = true := by decide
theorem test_sag_event_is_the_31st_low_sample :
    leaves .sagEvent (withLmn (fun m => { m with sampleTimer := some 0, sagCount := 29 }) out)
      (fun t => !t.lmn.sagFlag && t.lmn.sagCount == 29) = true := by decide
theorem test_pair_stays_busy_for_80_us_after_a_collision :
    leaves .collision (inWindow 3 false checkSent (linked .checking)) (fun t => t.pairBusy && t.clc.busyUs == 80) = true := by
  decide
theorem test_octets_still_on_the_pair_after_a_collision_are_no_record :
    leaves (.recordTaken statusWire) (receiving (.suspended 0 799) (linked .joined))
      (fun t => t.clc.counters == out.clc.counters && t.clc.reception == .ready && !t.pairBusy) = true := by decide
theorem test_a_record_after_quiet_is_taken :
    leaves (.recordTaken statusWire) (receiving (.suspended 0 800) (linked .joined))
      (fun t => t.clc.counters.recordsGood == 1 && t.clc.windowIndex == 6) = true := by decide
/-- The NOTICE STALL of position 6 with a claim and two summaries, 24 octets. -/
def noticeWire : List WireOctet :=
  let s : Summary := ⟨1, 4, .running, 2, 3, some 3, 8, some 7⟩
  (statusOctets (some .stall) 6 false .joined 0x2A07 9 ⟨.stopped, 0, 0, none, 8, ⟨true, false, false, false⟩, some 2⟩
    [s, s]).map withParity
theorem test_quiet_is_counted_over_the_window_end :
    ((Reception.suspended 1808 0).pass 1000).pass 2000 = .suspended 0 1192
    ∧ leaves (.windowTimerExpiry 1708) (receiving (.suspended 0 1192) (inWindow 3 false .idle (linked .joined)))
      (fun t => t.clc.reception == .suspended 0 4192 && t.clc.busyUs == 1708) = true
    ∧ (Reception.suspended 0 3192).frames noticeWire.length = true ∧ noticeWire.length = 24 := by decide
theorem test_listening_end_is_the_25th_boundary :
    leaves .listeningEnd (listened 23 (inWindow 7 false .idle (linked .listening)))
      (fun t => t.clc.linkState == .listening && t.clc.listeningCount == 23) = true
    ∧ leaves .listeningEnd (listened 24 (inWindow 7 false .idle (linked .listening)))
      (fun t => t.clc.linkState == .alone && t.clc.listeningCount == 25 && t.clc.cycleCount == 1 && !t.clc.injectDone) = true
    ∧ leaves .listeningEnd (remaining 1 (listened 24 (inWindow 7 false .idle (linked .listening))))
      (fun t => t.clc.linkState == .checking && t.clc.injectDone) = true := by decide
theorem test_line_check_end_is_the_last_check_record :
    leaves .lineCheckEnd (remaining 2 (inWindow 3 false checkSent (linked .checking)))
      (fun t => t.clc.linkState == .checking && t.clc.remainingCheck == 2) = true
    ∧ leaves .lineCheckEnd (remaining 1 (inWindow 3 false checkSent (linked .checking)))
      (fun t => t.clc.linkState == .alone && t.clc.remainingCheck == 0) = true := by decide
theorem test_check_record_counts_at_its_windows_end :
    leaves (.windowTimerExpiry 0) (remaining 2 (inWindow 3 false checkSent (linked .checking)))
      (fun t => t.clc.remainingCheck == 1 && t.clc.checkIndex == 1 && t.clc.tx == .idle) = true := by decide
theorem test_refused_octet_is_acknowledged :
    leaves (.writeRefused 0x33 0x99) (linked .joined) (fun t => t.pins.portAck && t.mpt.writeRefused == 1) = true
    ∧ leaves (.writeRefused 0x32 0x99) (linked .joined) (fun t => !t.pins.portAck && t.mpt.writeRefused == 0) = true := by decide
theorem test_request_line_carries_parity :
    (transacting .sending (linked .joined)).requestLine = [0x13C, 0x105, 0x015, 0x100, 0x100, 0x02C] := by decide
set_option maxRecDepth 8000 in
theorem test_firing_summary_yields_whatever_follows :
    leaves (.recordTaken (deferredWire 6 .stopped ⟨false, false, false, false⟩
        [⟨1, 0, .firing, 0, 0, none, 8, none⟩, ⟨2, 0, .stopped, 0, 0, none, 8, none⟩]))
      (claiming 3 (inEngine .prelube id (linked .joined)))
      (fun t => t.ssq.engine == .claiming && t.cpa.permitClash == 1) = true := by decide
set_option maxRecDepth 8000 in
theorem test_grant_between_two_summaries_is_taken :
    leaves (.recordTaken (deferredWire 6 .stopped ⟨false, false, false, false⟩
        [⟨1, 0, .stopped, 0, 0, none, 8, none⟩, ⟨2, 0, .firing, 0, 0, none, 8, none⟩]))
      (withPeer 1 (peerEntry .stale 9 .prelube none)
        (claiming 3 (withLmn (fun m => { m with sample := some 232 }) (inEngine .claiming id (linked .joined)))))
      (fun t => t.ssq.engine == .claiming && t.cpa.permitClash == 1) = true := by decide
/-- Just out of power-on reset, in the first request, with the timers that the release starts. -/
def released : State :=
  inWindow 0 false .idle (withNsp (fun n => { n with demandTimer := some 60 }) (withMpt (fun m => { m with configTimer := some 3000 })
    (withLmn (fun m => { m with silenceTimer := some 250 }) (withReplyLine (.waiting 0) (transacting .sending out)))))
theorem test_rest_of_a_lost_reply_is_not_counted :
    leaves (.replyTaken [1, 2]) released (fun t => t.erc.lateReply == 0 && t.erc.replyLine == .clear) = true
    ∧ leaves (.replyTaken [1]) released (fun t => t.erc.lateReply == 1 && t.erc.replyLine == .clear) = true
    ∧ leaves (.windowTimerExpiry 500) released
      (fun s => leaves (.replyTaken [1, 2]) s (fun t => t.erc.lateReply == 1)) = true := by decide
theorem test_late_reply_after_the_first_request_is_counted :
    leaves .sendingEnd released (fun t => t.erc.replyLine == .waiting 54 && t.erc.sequencer == .awaiting) = true
    ∧ leaves (.replyTaken ((closed [0xC3, 0x05, 4, 0, 0, 0, 0]).map withParity)) (transacting .awaiting released)
      (fun t => t.erc.lateReply == 1 && t.erc.sequencer == .awaiting) = true
    ∧ leaves (.replyTaken [1]) (transacting .awaiting released)
      (fun t => (t.erc.health.get .starter).total == 1 && t.erc.tag == 6) = true := by decide
theorem test_window_of_a_running_unit :
    (runningAt 5 8 1000).windowOctet 0x20 = 7 ∧ (runningAt 5 8 1000).windowOctet 0x25 = 10
      ∧ (runningAt 5 8 1000).windowOctet 0x29 = 0x58 ∧ (runningAt 5 8 1000).windowOctet 0x00 = 0x23
      ∧ (withPeer 6 (peerEntry .live 1 .running none) out).windowOctet 0xA0 = 0x95 := by decide
theorem test_transport_ending_of_protective_disengage_pends :
    leaves .replyTimeout (awaiting (protSent .disengage .ssq) (inEngine .shutdown id (linked .joined)))
      (fun t => t.ssq.releasePending && t.erc.slots.protect.request == some ⟨.disengage, 0, .ssq⟩) = true := by decide
theorem test_isolation_of_section_7_11 :
    leaves (.lineStabilityExpiry .runIso) (lineAt .runIso (some false) true (runningAt 5 8 0))
      (fun t => t.nsp.completed == 0 && t.erc.current == some ⟨.protect, ⟨.unload, 0, .nsp⟩, 0⟩) = true := by decide
theorem test_overspeed_of_section_9_8 :
    leaves .gateEnd (withLmn (fun m => { m with gateTimer := some 0, gateCount := 201, silence := false })
        (inEngine .running (fun q => { q with fuelOrder := true }) (linked .joined)))
      (fun t => t.fcl.active == [.overspeed] && t.fcl.notices == [.overspeed] && t.alarmLamp && !t.fuelRun
        && t.fcl.firstFault == some ⟨.overspeed, .running, 0⟩) = true := by decide

/-! ## The hypotheses of the statements can be met -/

theorem test_hyps_IdleStepPassesOneMillisecond :
    out.pending = [] ∧ out.inReset = false ∧ out.clc.tx = .idle ∧
    (let s := inWindow 3 false (.sending ⟨.status, [], 1001⟩) out
     s.pending = [] ∧ s.inReset = false ∧ s.clc.tx = .sending ⟨.status, [], 1001⟩ ∧ 1000 < 1001) := by decide

theorem test_hyps_ResetReleaseStartsTheTimers : State.reset.inReset = true := by decide

theorem test_hyps_WindowExpiryAdvancesTheIndex :
    (∀ i ∈ [(0 : Fin 8), 3, 6], let s := inWindow i false .idle (linked .joined)
      s.clc.windowTimer.isSome = true ∧ s.clc.tx = .idle ∧ s.clc.windowIndex ≠ 7
        ∧ s.ownPosition ≠ some (s.clc.windowIndex + 1)) ∧
    (let s := inWindow 7 true .idle (linked .joined)
     s.clc.windowTimer.isSome = true ∧ s.clc.tx = .idle ∧ s.clc.windowIndex = 7 ∧ s.clc.repeatMark = true
       ∧ s.ownPosition ≠ some 0) := by decide

theorem test_hyps_BoundaryAgesEveryOtherEntry :
    (∀ a ∈ [2, 3, 48, 49, 63],
      let s := withPeer 6 (peerEntry .live a .running (some 255)) (inWindow 7 false .idle (linked .joined))
      s.clc.windowTimer.isSome = true ∧ s.clc.windowIndex = 7 ∧ s.clc.repeatMark = false ∧ s.ownPosition ≠ some 6
        ∧ (s.entry 6).state ≠ .absent ∧ s.ownPosition ≠ some 5 ∧ (s.entry 5).state = .absent) ∧
    (inWindow 7 false .idle out).mpt.committed = none ∧
    (∀ r ∈ [RelayMode.off, .latest, .snapshot],
      let c : Committed := { config with relayA := ⟨6, r⟩, relayB := ⟨2, .snapshot⟩ }
      let s := withMpt (fun m => { m with committed := some c }) (inWindow 7 false .idle (linked .joined))
      s.clc.windowTimer.isSome = true ∧ s.clc.windowIndex = 7 ∧ s.clc.repeatMark = false ∧ s.mpt.committed = some c
        ∧ relayAActs c = decide (r ≠ .off) ∧ relayBActs c = true) ∧
    (∀ e ∈ [EngineState.claiming, .prelube, .cranking], let s := claiming 255 (inEngine e id (inWindow 7 false .idle (linked .joined)))
      s.ssq.engine = e ∧ s.cpa.claim = some 255
        ∧ leaves (.windowTimerExpiry 0) s (fun t => t.ssq.engine == e && t.cpa.claim == some 255) = true) ∧
    (∀ l ∈ [LinkState.checking, .silenced, .listening, .joined, .alone], let s := inWindow 7 false .idle (linked l)
      s.ownPosition = some 3 ∧ (3 : Fin 8) ≠ 0 ∧ s.clc.tx = .idle ∧ s.clc.linkState = l) ∧
    (let s := withMpt (fun m => { m with committed := some { config with position := 0 } })
       (listened 23 (inWindow 7 false .idle (linked .listening)))
     s.ownPosition = some 0 ∧ s.clc.linkState = .listening ∧ s.clc.listeningCount < 24) := by decide

theorem test_hyps_PhantomHoldsStartAndEnd :
    (∀ e ∈ [EngineState.prelube, .cranking, .firing, .running],
      let s := withPeer 6 (peerEntry .stale 49 e none) (inWindow 7 false .idle (linked .joined))
      s.clc.windowTimer.isSome = true ∧ s.clc.windowIndex = 7 ∧ s.clc.repeatMark = false ∧ s.ownPosition ≠ some 6
        ∧ ((s.entry 6).state = .live ∨ (s.entry 6).state = .stale) ∧ 49 ≤ (s.entry 6).age) ∧
    (∀ p ∈ [(0 : Fin 8), 7], let s := { out with cpa := { out.cpa with holds := out.cpa.holds.set p (some 0) } }
      (s.cpa.holds.get p).isSome = true) := by decide

theorem test_hyps_OwnWindowSendsTheOwnRecord :
    (∀ l ∈ [LinkState.joined, .alone, .checking], let s := inWindow 2 false .idle (linked l)
      s.mpt.committed = some config ∧ s.clc.windowTimer.isSome = true ∧ s.clc.windowIndex ≠ 7
        ∧ config.position = s.clc.windowIndex + 1 ∧ s.clc.linkState = l) ∧
    (∀ b ∈ [true, false], ∀ l ∈ [LinkState.joined, .alone],
      let c : Committed := { config with position := 0 }
      let s := withMpt (fun m => { m with committed := some c }) (inWindow 7 b .idle (linked l))
      s.mpt.committed = some c ∧ s.clc.windowTimer.isSome = true ∧ s.clc.windowIndex = 7 ∧ c.position = 0
        ∧ s.clc.tx = .idle ∧ (s.clc.linkState = .joined ∨ s.clc.linkState = .alone) ∧ s.clc.repeatMark = b) := by decide

theorem test_hyps_OwnWindow_silent :
    ∀ l ∈ [LinkState.config, .silenced, .listening], ∀ i ∈ [(2 : Fin 8), 7],
      let s := listened 23 (inWindow i false .idle (linked l))
      s.clc.windowTimer.isSome = true ∧ s.clc.tx ≠ .deferring
        ∧ (s.clc.linkState = .config ∨ s.clc.linkState = .silenced
          ∨ (s.clc.linkState = .listening ∧ (s.clc.windowIndex ≠ 7 ∨ s.clc.repeatMark = true ∨ s.clc.listeningCount < 24))) := by
  decide

theorem test_hyps_OwnWindow_no_check : ∀ l, noCheckOnPair (inWindow 2 false .idle (linked l)) :=
  fun _ => test_no_check_on_an_idle_link rfl

theorem test_hyps_DeferredSendSetsDeferred :
    ∀ l ∈ [LinkState.joined, .alone, .checking], let s := inWindow 3 false .deferring (linked l)
      s.mpt.committed = some config ∧ s.clc.tx = .deferring ∧ s.clc.windowTimer = some 2000 ∧ (2000 : Nat) ≤ 2000
        ∧ s.clc.linkState = l := by decide

theorem test_hyps_BusyPairDefersThenMisses :
    0 < 1 ∧ (∀ l ∈ [LinkState.joined, .alone, .checking], let s := inWindow 2 false .idle (linked l)
      s.mpt.committed = some config ∧ s.clc.windowTimer.isSome = true ∧ s.clc.windowIndex ≠ 7
        ∧ config.position = s.clc.windowIndex + 1
        ∧ (s.clc.linkState = .joined ∨ s.clc.linkState = .alone ∨ s.clc.linkState = .checking)) ∧
    (inWindow 3 false .deferring (linked .joined)).clc.tx = .deferring := by decide

theorem test_hyps_CollisionHandsTheNoticeBack :
    ∀ k ∈ [RecordKind.status, .notice .stall, .check true],
      (inWindow 3 false (.sending ⟨k, [], 5⟩) (linked .joined)).clc.tx = .sending ⟨k, [], 5⟩ := by decide

theorem test_hyps_CheckRecordSentCounts :
    let s := { inWindow 3 false checkSent (linked .checking) with clc := { (inWindow 3 false checkSent (linked .checking)).clc with
      remainingCheck := 2, remainingInjected := 1 } }
    s.clc.tx = .sending ⟨.check true, [], 5⟩ ∧ 2 ≤ s.clc.remainingCheck := by decide

theorem test_hyps_ListeningAndCheckingEndByTheLiveSet :
    (∀ n ∈ [23, 24], ∀ k ∈ [0, 1], let s := remaining k (listened n (inWindow 7 false .idle (linked .listening)))
      s.clc.windowTimer.isSome = true ∧ s.clc.linkState = .listening ∧ s.clc.windowIndex = 7 ∧ s.clc.repeatMark = false
        ∧ s.clc.tx = .idle ∧ s.clc.listeningCount = n ∧ s.clc.remainingCheck = k) ∧
    (out.clc.windowTimer = none ∧ (linked .joined).clc.linkState ≠ .listening
      ∧ (inWindow 6 false .idle (linked .listening)).clc.windowIndex ≠ 7
      ∧ (inWindow 7 true .idle (linked .listening)).clc.repeatMark = true) ∧
    (∀ n ∈ [1, 2], let s := remaining n (inWindow 3 false checkSent (linked .checking))
     s.clc.linkState = .checking ∧ s.clc.tx = .sending ⟨.check true, [], 5⟩ ∧ s.clc.remainingCheck = n
       ∧ s.clc.windowTimer.isSome = true ∧ s.inReset = false ∧ 1 ≤ n) := by decide

theorem test_hyps_Listening_no_check (n : Nat) : noCheckOnPair (listened n (inWindow 7 false .idle (linked .listening))) :=
  test_no_check_on_an_idle_link rfl

theorem test_hyps_FailedRecordIsOnlyCounted :
    ((linked .joined).inReset = false ∧ acceptRecord (statusWire.set 4 0x009) = none
      ∧ legibleOrigin (statusWire.set 4 0x009) = some 6 ∧ (linked .joined).ownPosition ≠ some 6) ∧
    framed (statusWire.set 4 0x009).length (linked .joined) ∧
    framed statusWire.length (receiving (.suspended 0 800) (linked .joined)) ∧
    ¬ framed statusWire.length (receiving (.suspended 0 799) (linked .joined)) ∧
    noCheckOnPair (linked .joined) ∧ noCheckOnPair (receiving (.suspended 0 799) (linked .joined)) :=
  ⟨by decide, Or.inl rfl, Or.inr ⟨0, 800, rfl, by decide⟩,
   fun h => h.elim (fun e => Reception.noConfusion e) (fun ⟨own, q, e, b⟩ => by
     have hq : 0 = own ∧ 799 = q := by simpa [receiving, linked] using e
     obtain ⟨_, hq⟩ := hq
     subst hq; exact absurd b (by decide)),
   test_no_check_on_an_idle_link rfl, test_no_check_on_an_idle_link rfl⟩

theorem test_hyps_AcceptedRecordRefreshesItsEntry :
    (∀ s ∈ [linked .joined, inWindow 4 false .deferring (linked .joined), inWindow 7 true .idle (linked .alone)],
      s.inReset = false ∧ acceptRecord statusWire = some statusRecord ∧ statusRecord.mark ≠ .check
        ∧ s.mpt.committed = some config ∧ config.position ≠ statusRecord.origin) ∧
    (∃ r, acceptRecord checkWire = some r ∧ r.mark = .check ∧ (linked .joined).inReset = false
      ∧ (linked .joined).ownPosition ≠ some r.origin) ∧
    (out.inReset = false ∧ acceptRecord statusWire = some statusRecord ∧ statusRecord.mark ≠ .check
      ∧ out.mpt.committed = none) :=
  ⟨by decide,
   ⟨{ mark := .check, origin := 6, deferred := false, tag := 0x2A07, cycle := 9,
      contents := (acceptRecord checkWire).elim statusRecord.contents Record.contents, fault := none, summaries := [],
      payload := checkPayload 6 9 }, by decide, by decide, by decide, by decide⟩,
   by decide⟩

theorem test_record_tests :
    (lengthAsked statusWire = some 10 ∧ lengthAsked checkWire = some 23 ∧ lengthAsked noticeWire = some 24
       ∧ relaysTold noticeWire = 2 ∧ claimFlag noticeWire = true
       ∧ summaryTaken noticeWire 11 = ⟨1, 4, .running, 2, 3, some 3, 8, some 7⟩ ∧ faultTaken 21 = none) ∧
    lengthAsked (statusWire.set 5 (withParity 0x37)) = none ∧ engineTaken 11 = .lockedOut ∧ demandTaken 9 = none
      ∧ onesOf (0x009 : WireOctet) % 2 = 0 := by decide

set_option maxRecDepth 8000 in
theorem test_hyps_AcceptedRecord_tests :
    PassesTests statusWire ∧ PassesTests checkWire ∧ ¬ PassesTests (statusWire.set 4 0x009) ∧ ¬ PassesTests []
      ∧ ReadsAs statusWire statusRecord :=
  ⟨by unfold PassesTests; decide, by unfold PassesTests; decide, by unfold PassesTests; decide, by unfold PassesTests; decide,
   by unfold ReadsAs; decide⟩

theorem test_check_payload_of_position_6 :
    expectedPayload 6 9 = checkPayload 6 9 ∧ expectedPayload 0 0 = checkPayload 0 0
      ∧ wrongBits [0x01, 0x80] [] = 2 := by decide

theorem test_hyps_AcceptedRecord_boundary :
    let s := inWindow 7 false .idle (linked .joined)
    let ws := (checkOctets 1 false 0x2A07 9 (checkPayload 1 9)).map withParity
    (acceptRecord ws).any (fun r => decide (r.mark = .check) && takesBoundary r s && decide (s.ownPosition ≠ some r.origin)) = true
      ∧ s.clc.linkState = .joined := by decide

theorem test_hyps_AcceptedRecord_framed :
    (∀ l, framed statusWire.length (linked l)) ∧ (∀ l, framed checkWire.length (linked l))
      ∧ framed statusWire.length (receiving (.suspended 0 800) out) :=
  ⟨fun _ => Or.inl rfl, fun _ => Or.inl rfl, Or.inr ⟨0, 800, rfl, by decide⟩⟩

theorem test_hyps_DuplicatePositionSilencesTheStation :
    let s := withMpt (fun m => { m with committed := some { config with position := 6 } }) (linked .joined)
    s.inReset = false ∧ acceptRecord statusWire = some statusRecord ∧ s.mpt.committed = some { config with position := 6 }
      ∧ statusRecord.origin = 6 ∧ statusRecord.tag ≠ config.tag := by decide

theorem test_hyps_DuplicatePosition_own_tag :
    let c : Committed := { config with position := 6, tag := 0x2A07 }
    let s := withMpt (fun m => { m with committed := some c }) (linked .joined)
    s.inReset = false ∧ acceptRecord statusWire = some statusRecord ∧ s.mpt.committed = some c
      ∧ statusRecord.origin = c.position ∧ statusRecord.tag = c.tag ∧ s.clc.tx = .idle := by decide

theorem test_commit_fits (l : LinkState) (h : l ≠ .config) : CommitFitsLink (linked l) :=
  ⟨fun r => Bool.noConfusion r, Or.inr ⟨h, rfl, .expiry, rfl⟩⟩

theorem test_hyps_DuplicatePosition_silenced :
    Instr.gateEnd ≠ .powerOnReset ∧ CommitFitsLink (linked .silenced) ∧ (linked .silenced).clc.linkState = .silenced
      ∧ ∃ t, exec .gateEnd (linked .silenced) = .next t :=
  ⟨by decide, test_commit_fits _ (by decide), rfl, _, rfl⟩

theorem test_hyps_LiveSetIsTheOtherLiveEntries :
    let s := withPeer 6 (peerEntry .live 1 .running none) (linked .joined)
    s.ownPosition.isSome = true ∧ s.ownPosition ≠ some 6 ∧ (s.entry 6).state = .live
      ∧ (s.entry 6).source = .relayed 1 := by decide

theorem test_hyps_PermitIsGrantedOnItsSixConditions :
    let s := claiming 3 (inEngine .claiming id (withLmn (fun m => { m with sampleTimer := some 0 }) (linked .joined)))
    s.lmn.sampleTimer.isSome = true ∧ s.ssq.engine = .claiming ∧ s.cpa.claim = some 3 ∧ 3 ≤ 3 ∧ s.ownFirst = true
      ∧ s.permitInUse = false ∧ (s.clc.linkState = .joined ∨ s.clc.linkState = .alone) ∧ s.estop = false
      ∧ 58000 ≤ 58000 := by decide

/-- CLAIMING with a claim of this age and a latest sample, about to take a battery sample. -/
def queued (a v : Nat) : State :=
  claiming a (inEngine .claiming id (withLmn (fun m => { m with sampleTimer := some 0, sample := some v }) (linked .joined)))

theorem test_no_peer (p : Fin 8) : ((linked .joined).entry p).state = .absent ∧ ((linked .joined).entry p).claim = none := by
  revert p; decide

theorem test_first_alone (a v : Nat) : FirstInTheList (queued a v) :=
  ⟨3, a, rfl, rfl, fun p _ _ _ h => absurd ((test_no_peer p).2.symm.trans h) (by simp)⟩

theorem test_hyps_Permit_due : PermitDue (queued 3 232) ∧ (queued 3 232).ssq.engine = .claiming :=
  ⟨⟨⟨3, rfl, by decide⟩, test_first_alone 3 232, by decide, Or.inl rfl, by decide, 232, rfl, by decide⟩, rfl⟩

theorem test_hyps_Permit_not_due :
    ¬ PermitDue (queued 2 232) ∧ (linked .joined).ssq.engine ≠ .claiming ∧
    (¬ PermitDue { queued 3 300 with lmn := { (queued 3 300).lmn with sample := some (min 511 (57999 / 250)) } }
      ∧ (queued 3 300).lmn.sampleTimer.isSome = true ∧ (queued 3 300).ssq.engine = .claiming) :=
  ⟨fun h => h.1.elim (fun a ha => by
     have e : 2 = a := by simpa [queued, claiming] using ha.1
     omega),
   by decide,
   fun h => h.2.2.2.2.2.elim (fun v hv => by
     have e : 231 = v := by simpa using hv.1
     omega),
   by decide, by decide⟩

set_option maxRecDepth 8000 in
theorem test_hyps_Permit_one_event :
    leaves (.batterySample 58000) (queued 3 0) (fun t => t.ssq.engine == .prelube) = true
      ∧ (queued 3 0).ssq.engine ≠ .prelube ∧ OneEvent (.batterySample 58000) (queued 3 0) :=
  ⟨by decide, by decide, test_no_check_on_an_idle_link rfl, fun _ _ h => Instr.noConfusion h⟩

/-- A clash with position 1, whose claim is older. -/
def clashing (e : EngineState) : State :=
  withPeer 1 (peerEntry .live 0 .prelube (some 9)) (claiming 3 (inEngine e id (linked .joined)))

theorem test_hyps_YieldsAreCountedOnPermitClash :
    (∀ e ∈ [EngineState.prelube, .cranking], let s := clashing e
      (s.ssq.engine = .prelube ∨ s.ssq.engine = .cranking) ∧ s.inClash = true ∧ s.mustYield = true) ∧
    (let s := withPeer 1 (peerEntry .live 0 .prelube (some 2)) (clashing .prelube)
     s.inClash = true ∧ s.mustYield = false) := by decide

theorem test_hyps_YieldGivesThePermitUp_ruling :
    (∀ b ∈ [(some 9 : Option Nat), some 3, some 2, none],
      let s := withPeer 1 (peerEntry .live 0 .prelube b) (clashing .prelube)
      s.ownPosition = some 3 ∧ s.cpa.claim = some 3 ∧ s.mustYield = decide (b ≠ some 2)) ∧
    (let s := withPeer 4 (peerEntry .live 0 .cranking (some 3)) (claiming 3 (inEngine .cranking id (linked .joined)))
     s.ownPosition = some 3 ∧ s.cpa.claim = some 3 ∧ s.inClash = true ∧ s.mustYield = false) := by decide

/-- A summary that shows a unit in FIRING. -/
def firingSummary : Summary := ⟨1, 48, .firing, 0, 0, none, 8, none⟩

theorem test_hyps_YieldGivesThePermitUp :
    (∀ e ∈ [EngineState.prelube, .cranking], (clashing e).inClash = true ∧ (clashing e).mustYield = true
      ∧ (clashing e).ssq.engine = e) ∧
    (let s := inEngine .prelube id (linked .joined)
     let f : UnitFlags := ⟨false, false, false, false⟩
     s.inReset = false ∧ s.mpt.committed = some config ∧ s.ssq.engine = .prelube
       ∧ (acceptRecord (deferredWire 6 .firing f []) = some (deferredRecord 6 .firing f [])
          ∧ (deferredRecord 6 .firing f []).contents.engine = .firing)
       ∧ acceptRecord (deferredWire 6 .stopped f [firingSummary]) = some (deferredRecord 6 .stopped f [firingSummary])
       ∧ config.position ≠ 6 ∧ firingSummary.origin ≠ config.position ∧ firingSummary.origin ≠ 6
       ∧ firingSummary.engine = .firing ∧ firingSummary.age ≤ 48 ∧ (s.entry firingSummary.origin).state = .absent) := by
  decide

theorem test_hyps_LevelAndCodeChangesStartTheirTimers :
    (∀ l ∈ [Line.start, .estop, .runIso], out.inReset = false ∧ out.pins.lines.get l ≠ true) ∧
    (∀ c ∈ [(0b1100 : BitVec 4), 0b1000], out.pins.demandCode ≠ c) := by decide

theorem test_hyps_StableLevelIsTaken :
    (∀ l ∈ [Line.start, .stop, .freset, .estop, .runIso],
      ((lineAt l none true out).lmn.lines.get l).timer.isSome = true) ∧
    (let s := lineAt .stop (some true) true out
     (s.lmn.lines.get .stop).timer.isSome = true ∧ (s.lmn.lines.get .stop).level = some (s.pins.lines.get .stop)) := by decide

/-- STOPPED, with a START edge about to be taken, at a latest sample. -/
def starting (sample : Option Nat) (l : LinkState) : State :=
  withLmn (fun m => { m with sample := sample }) (inEngine .stopped id (lineAt .start (some false) true (linked l)))

/-- The ESTOP level taken as asserted. -/
def estopped (s : State) : State :=
  withLmn (fun m => { m with lines := m.lines.set .estop ⟨some true, none⟩ }) s

theorem test_hyps_StartRequestClaimsOrIsRefused :
    (∀ s ∈ [starting (some 232) .joined, starting (some 231) .joined, starting none .joined, starting (some 300) .silenced,
        estopped (starting (some 300) .joined)],
      (s.lmn.lines.get .start).timer.isSome = true ∧ (s.lmn.lines.get .start).level = some false
        ∧ s.pins.lines.get .start = true ∧ s.ssq.engine = .stopped) ∧
    ((starting (some 232) .joined).lmn.sample = some 232 ∧ 232 ≤ 232 ∧ (starting (some 232) .joined).clc.linkState ≠ .silenced
      ∧ (starting (some 232) .joined).estop = false) ∧
    ((starting (some 231) .joined).lmn.sample = some 231 ∧ 231 < 232) ∧ (starting none .joined).lmn.sample = none ∧
    (starting (some 300) .silenced).clc.linkState = .silenced ∧ (estopped (starting (some 300) .joined)).estop = true ∧
    (let s := inEngine .cooldown id (starting none .joined)
     (s.lmn.lines.get .start).timer.isSome = true ∧ (s.lmn.lines.get .start).level = some false
       ∧ s.pins.lines.get .start = true ∧ s.ssq.engine = .cooldown) ∧
    ((linked .joined).ssq.engine ≠ .stopped ∧ (linked .joined).ssq.engine ≠ .cooldown) := by
  decide

/-- A STOP edge about to be taken, with the engine turning. -/
def stopping (e : EngineState) (n : Nat) : State :=
  withLmn (fun m => { m with silence := false })
    (withNsp (fun x => { x with completed := n }) (inEngine e id (lineAt .stop (some false) true (linked .joined))))

theorem test_hyps_StopRequestByEngineState :
    (∀ e ∈ [EngineState.stopped, .claiming, .prelube, .cranking, .crankRest, .firing, .idleWarm, .cooldown, .shutdown],
      let s := stopping e 0
      (s.lmn.lines.get .stop).timer.isSome = true ∧ (s.lmn.lines.get .stop).level = some false
        ∧ s.pins.lines.get .stop = true ∧ s.ssq.engine ≠ .running ∧ s.ssq.engine ≠ .lockedOut) ∧
    (∀ s ∈ [stopping .running 1, stopping .running 0, stopping .lockedOut 0,
        withNsp (fun x => { x with step := some ⟨.up, 0, 1, .first, false⟩ }) (stopping .running 0)],
      (s.lmn.lines.get .stop).timer.isSome = true ∧ (s.lmn.lines.get .stop).level = some false
        ∧ s.pins.lines.get .stop = true) ∧
    ((stopping .running 1).ssq.engine = .running ∧ (stopping .running 1).nsp.completed ≠ 0) ∧
    ((stopping .running 0).nsp.completed = 0 ∧ (stopping .running 0).nsp.step = none) ∧
    (stopping .lockedOut 0).ssq.engine = .lockedOut ∧ Direction.up ≠ .retry ∧ (stopping .cranking 0).estop = false := by decide

/-- An ESTOP assertion about to be taken, with the engine turning. -/
def estopping (e : EngineState) : State :=
  withLmn (fun m => { m with silence := false }) (inEngine e id (lineAt .estop (some false) true (linked .joined)))

/-- CRANKING with STARTER ENGAGE pending, as an ESTOP assertion is taken. -/
def engaging (n attempts : Nat) : State :=
  { withErc (fun e => { e with slots := { e.slots with sequence := .pending ⟨.engage, 0, .ssq⟩ } })
      (claiming 3 (inEngine .cranking (fun q => { q with attempts := attempts }) (estopping .cranking))) with freeCount := n }

theorem test_hyps_EstopAssertionStopsTheEngine :
    (∀ e ∈ [EngineState.stopped, .lockedOut, .running, .shutdown], let s := estopping e
      (s.lmn.lines.get .estop).timer.isSome = true ∧ (s.lmn.lines.get .estop).level ≠ some true
        ∧ s.pins.lines.get .estop = true ∧ s.ssq.engine = e) ∧
    (ClaimFitsEngine (estopping .running) ∧ ¬ engageRefusedFirst (estopping .running)) ∧
    ∀ n, Config.inhibitFirst n = true → ∀ k ∈ [1, 2], engageRefusedFirst (engaging n k) ∧ (engaging n k).ssq.attempts = k
      ∧ ((engaging n k).lmn.lines.get .estop).timer.isSome = true ∧ ((engaging n k).lmn.lines.get .estop).level ≠ some true
      ∧ (engaging n k).pins.lines.get .estop = true :=
  ⟨by decide, ⟨by unfold ClaimFitsEngine; decide, fun h => absurd h.1 (by decide)⟩,
   fun n h k _ => ⟨⟨rfl, ⟨_, rfl, rfl⟩, h⟩, rfl, rfl, fun c => absurd c (by decide : (some false : Option Bool) ≠ some true), rfl⟩⟩

theorem test_hyps_EstopAssertion_protective :
    (∀ b ∈ [true, false], ∀ h ∈ [true, false],
      let s := inEngine .running (fun q => { q with releasePending := b, pumpHeld := h }) (estopping .running)
      s.ssq.engine ≠ .stopped ∧ s.ssq.engine ≠ .lockedOut ∧ s.ssq.releasePending = b ∧ s.ssq.pumpHeld = h
        ∧ s.erc.slots.sequence = .empty ∧ s.erc.slots.protect = .empty
        ∧ (transacting .awaiting s).erc.slots.protect = .empty) ∧
    (withErc (fun e => { e with slots := e.slots.set .protect (.inFlight ⟨.unload, 0, .nsp⟩) }) (estopping .running)).erc.slots.protect
      ≠ .empty := by decide

theorem test_hyps_EstopHoldsStartsAndOrders :
    (let s := estopped (inEngine .stopped id (linked .joined))
     s.estop = true ∧ s.ssq.engine = .stopped) ∧
    (let s := lineAt .estop (some true) false (linked .joined)
     (s.lmn.lines.get .estop).timer.isSome = true ∧ (s.lmn.lines.get .estop).level = some true
       ∧ s.pins.lines.get .estop = false) ∧
    (let s := inEngine .stopped (fun q => { q with stopReason := .auto }) (linked .joined)
     s.ssq.engine = .stopped ∧ s.ssq.stopReason = .auto) ∧
    ¬ ((linked .joined).ssq.engine = .stopped ∧ (linked .joined).ssq.stopReason = .auto) := by decide

theorem test_hyps_EstopHoldsStartsAndOrders_release :
    ∀ e ∈ [EngineState.stopped, .shutdown, .lockedOut], let s := inEngine e id (lineAt .estop (some true) false (linked .joined))
      (s.estop = true → s.ssq.engine = .stopped ∨ s.ssq.engine = .shutdown ∨ s.ssq.engine = .lockedOut)
        ∧ ¬ (s.ssq.engine = .stopped ∧ s.ssq.stopReason = .auto) ∧ (s.lmn.lines.get .estop).timer.isSome = true
        ∧ (s.lmn.lines.get .estop).level = some true ∧ s.pins.lines.get .estop = false := by decide

/-- A fault reset about to be taken in LOCKED_OUT. -/
def resetting (silence : Bool) : State :=
  withLmn (fun m => { m with silence := silence }) (inEngine .lockedOut id (lineAt .freset (some false) true (linked .joined)))

theorem test_hyps_FaultResetByClass :
    (∀ b ∈ [true, false], let s := resetting b
      (s.lmn.lines.get .freset).timer.isSome = true ∧ (s.lmn.lines.get .freset).level = some false
        ∧ s.pins.lines.get .freset = true ∧ (s.estop = true → s.ssq.engine = .lockedOut) ∧ s.ssq.engine = .lockedOut
        ∧ s.lmn.silence = b ∧ s.lmn.silenceTimer ≠ some 0) ∧
    ((linked .joined).ssq.engine ≠ .lockedOut ∧ (resetting false).lmn.silence = false) ∧
    (∀ e ∈ [EngineState.shutdown, .lockedOut],
      let s := inEngine e id (withLmn (fun m => { m with silenceTimer := some 0 }) (resetting false))
      (s.lmn.lines.get .freset).timer.isSome = true ∧ (s.lmn.lines.get .freset).level = some false
        ∧ s.pins.lines.get .freset = true ∧ s.lmn.silenceTimer = some 0 ∧ s.ssq.stopReason = .manual
        ∧ (s.ssq.engine = .shutdown ∨ s.ssq.engine = .lockedOut)) := by decide

theorem test_hyps_FaultResetByClass_estop : EstopFitsEngine (resetting true) := fun _ => Or.inr (Or.inr rfl)

theorem test_hyps_IsolationUnloadsAtOnce :
    ∀ s ∈ [runningAt 1 1 0, withNsp (fun x => { x with step := some ⟨.up, 0, 1, .first, false⟩ }) (runningAt 0 1 0),
        runningAt 0 1 0, inEngine .idleWarm id (runningAt 1 1 0)],
      let u := lineAt .runIso (some false) true s
      (u.lmn.lines.get .runIso).timer.isSome = true ∧ (u.lmn.lines.get .runIso).level = some false
        ∧ u.pins.lines.get .runIso = true ∧ u.nsp.urgentList = [] := by decide

theorem test_hyps_Isolation_cases :
    ((runningAt 1 1 0).ssq.engine = .running ∧ 0 < (runningAt 1 1 0).nsp.completed
      ∧ (runningAt 1 1 0).ssq.stopInProgress = false ∧ (runningAt 1 1 0).ssq.idleElapsed = false) ∧
    (let s := withNsp (fun x => { x with step := some ⟨.up, 0, 1, .first, false⟩ }) (runningAt 0 1 0)
     s.nsp.completed = 0 ∧ s.nsp.step ≠ none) ∧
    ((runningAt 0 1 0).nsp.completed = 0 ∧ (runningAt 0 1 0).nsp.step = none) ∧
    (inEngine .idleWarm id (runningAt 1 1 0)).ssq.engine ≠ .running := by decide

/-- The apply timer of coolant very high about to expire. -/
def overheating (s : State) : State :=
  withNsp (fun x => { x with derates := x.derates.set .coolantVeryHigh ⟨false, some 1, none⟩ }) s

theorem test_hyps_Derate_unload :
    ∀ s ∈ [runningAt 1 1 0, withNsp (fun x => { x with step := some ⟨.up, 0, 1, .first, false⟩ }) (runningAt 0 1 0),
        runningAt 0 1 0, inEngine .idleWarm id (runningAt 1 1 0)],
      let u := overheating s
      (u.nsp.derates.get .coolantVeryHigh).applyTimer.isSome = true ∧ (u.nsp.derates.get .coolantVeryHigh).applied = false
        ∧ u.ssq = s.ssq ∧ u.nsp.completed = s.nsp.completed ∧ u.nsp.step = s.nsp.step ∧ u.nsp.urgentList = [] := by decide

theorem test_hyps_DemandCodeIsTaken :
    (withNsp (fun x => { x with demandTimer := some 1 }) out).nsp.demandTimer.isSome = true
      ∧ demandCodes[0]? = some (0b0000 : BitVec 4) ∧ demandCodes[8]? = some (0b1100 : BitVec 4)
      ∧ out.pins.demandCode = 0b0000
      ∧ ({ out.pins with demandCode := 0b1000 } : Pins).demandCode ∉ demandCodes := by decide

theorem test_hyps_FaultTimersExpire :
    (withNsp (fun x => { x with disagreeTimer := some 1 }) out).nsp.disagreeTimer.isSome = true
      ∧ (withNsp (fun x => { x with watch := some ⟨1, 1⟩ }) out).nsp.watch.isSome = true
      ∧ ({ out.fcl with active := [.crankFail], crankFailCause := some .sag, crankFailTimer := some 1 } : Fcl).crankFailTimer.isSome
          = true := by decide

theorem test_hyps_DerateConditionsApplyAndRelease :
    (∀ c ∈ [Derate.coolantVeryHigh, .intakeWarm],
      ((out.nsp.derates.set c ⟨false, some 1, none⟩).get c).applyTimer.isSome = true
        ∧ ((out.nsp.derates.set c ⟨true, none, some 1⟩).get c).releaseTimer.isSome = true) ∧
    (let s := awaiting readSent (linked .joined)
     s.inReset = false ∧ s.erc.sequencer = .awaiting ∧ s.erc.current = some readSent ∧ readSent.request.order = .read) ∧
    classifyReply readSent (acceptOf readSent 147 104 0) = some (.accept 147 104 0) ∧
    classifyReply readSent (acceptOf readSent 160 125 0) = some (.accept 160 125 0) := by decide

theorem test_hyps_TargetNotchIsDemandUnderTheCap :
    (linked .joined).ssq.engine ≠ .running ∧ out.isolated = true
      ∧ (inEngine .running (fun q => { q with stopInProgress := true }) out).ssq.stopInProgress = true
      ∧ (withErc (fun e => { e with health := e.health.set .load ⟨3, 3, none⟩ }) out).deviceFailed .load = true
      ∧ (withErc (fun e => { e with health := e.health.set .sensors ⟨3, 3, none⟩ }) out).deviceFailed .sensors = true
      ∧ ((out.nsp.derates.set .intakeHigh ⟨true, none, none⟩).get .intakeHigh).applied = true
      ∧ (∀ c ∈ [Derate.coolantWarm, .coolantHigh, .coolantVeryHigh, .intakeWarm, .intakeHigh, .intakeVeryHigh],
          (out.nsp.derates.get c).applied = false)
      ∧ out.nsp.reading = none ∧ (runningAt 1 5 0).nsp.reading = some 5
      ∧ (let s := runningAt 1 5 0
         s.ssq.engine = .running ∧ s.isolated = false ∧ s.ssq.stopInProgress = false ∧ s.deviceFailed .load = false) := by
  decide

theorem test_hyps_TableViews :
    (let s := withPeer 6 { peerEntry .live 0 .running none with target := 3, completed := 2 }
       (withPeer 5 { peerEntry .stale 9 .running none with target := 1 } (linked .joined))
     s.climbingSet = [6] ∧ s.lowestClimbing = some 2 ∧ s.staleClimber = true ∧ s.runningNow = 1 ∧ s.runningLast = 2) ∧
    (linked .joined).lowestClimbing = none ∧ (linked .joined).cooldownSeen = none ∧
    (let s := withPeer 6 { peerEntry .live 0 .cooldown none with flags := ⟨false, true, false, false⟩ }
       (withPeer 4 { peerEntry .stale 9 .cooldown none with flags := ⟨false, true, false, false⟩ } (linked .joined))
     s.cooldownSeen = some 4) := by decide

theorem test_hyps_UpStepStartsWithTheGovernor :
    ∀ n ∈ [0, 7], let s := runningAt n 8 10
      s.nsp.dwell = some 10 ∧ s.estop = false ∧ s.freeToStep = true ∧ s.nsp.completed < s.targetNotch
        ∧ s.lowestClimbing = none ∧ s.staleClimber = false ∧ s.nsp.abandonHold = none
        ∧ s.faultActive .speedDeviation = false := by decide

theorem test_climb_allowed (n : Fin 8) : FreeToStep (runningAt n.val 8 6000) ∧ ClimbAllowed (runningAt n.val 8 6000) :=
  ⟨⟨rfl, rfl, rfl, fun r h => absurd (show (none : Option Request) = some r from h) (by simp)⟩,
   by revert n; decide, ⟨6000, (upDwells[n.val]?).getD 0, rfl, by revert n; decide, by revert n; decide⟩,
   fun p _ l => absurd l (by revert p n; decide), fun p _ l => absurd l (by revert p n; decide), rfl, rfl⟩

theorem test_hyps_UpStep_only_then :
    (runningAt 7 8 6000).estop = false ∧ (runningAt 7 8 6000).nsp.step = none
      ∧ (stepTest (runningAt 7 8 6000)).nsp.step = some ⟨.up, 7, 8, .first, false⟩
      ∧ leaves (.dwellClockReached .up) (runningAt 7 8 6000)
          (fun t => t.nsp.step == some ⟨.up, 7, 8, .first, false⟩) = true
      ∧ OneEvent (.dwellClockReached .up) (runningAt 7 8 6000) :=
  ⟨by decide, rfl, by decide, by decide, test_no_check_on_an_idle_link rfl, fun _ _ h => Instr.noConfusion h⟩

theorem test_hyps_DownStepStartsWithTheLoad :
    (∀ n ∈ [1, 8], let s := runningAt n 0 1000
      s.targetNotch < s.nsp.completed ∧ s.freeToStep = true ∧ s.dwellReached 1000 = true ∧ s.estop = false) ∧
    (runningAt 5 2 1000).nsp.step = none ∧ (stepTest (runningAt 5 2 1000)).nsp.step = some ⟨.down, 5, 4, .first, false⟩ := by
  decide

theorem test_hyps_StepTestsFindNothingDue :
    (let s := withNsp (fun x => { x with abandonHold := some 1 }) (runningAt 4 4 0)
     s.nsp.abandonHold.isSome = true ∧ s.nsp.completed = s.targetNotch ∧ s.nsp.governorOwed = false ∧ s.nsp.dwell = some 0) ∧
    (let s := withNsp (fun x => { x with abandonHold := some 1 }) (runningAt 4 1 1000)
     s.nsp.abandonHold.isSome = true ∧ s.nsp.dwell = some 1000 ∧ s.estop = false ∧ s.freeToStep = true
       ∧ s.targetNotch < s.nsp.completed ∧ 1000 ≤ 1000) := by decide

/-- PRELUBE with its claim, in a transaction that awaits its reply. -/
def preluding (o : Order) (f : State → State) : State :=
  awaiting (seqSent o) (f (claiming 3 (inEngine .prelube id (linked .joined))))

theorem test_hyps_PrelubeAsksAndFails :
    (∀ b ∈ [true, false],
      let s := inEngine .prelube (fun q => { q with prelube := some 1, prelubeTick := some 1, runAccepted := b }) (linked .joined)
      s.ssq.prelubeTick.isSome = true ∧ s.ssq.prelube.isSome = true ∧ s.ssq.engine = .prelube ∧ s.estop = false
        ∧ s.ssq.runAccepted = b ∧ s.fcl.firstFault = none ∧ s.faultActive .prelubeFail = false) ∧
    (∀ o ∈ [Order.run, .status], ∀ d0 ∈ [(0 : Byte), 1],
      EndsWith (.replyTaken (acceptOf (seqSent o) d0 0 0)) (seqSent o) (.accept d0 0 0) (preluding o id)) ∧
    (let s := preluding .status id
     (seqSent .status).client = .sequence ∧ s.ssq.engine = .prelube ∧ s.estop = false ∧ (1 : Byte).getLsbD 0 = true
       ∧ (0 : Byte).getLsbD 0 = false ∧ s.deviceFailed .governor = false ∧ s.mustYield = false
       ∧ (awaiting (seqSent .status) (withErc (fun e => { e with health := e.health.set .governor ⟨3, 3, none⟩ })
            (preluding .status id))).deviceFailed .governor = true) ∧
    (EndsWith .replyTimeout (seqSent .run) .noReply (preluding .run (failing .prelube))
      ∧ ThirdFailure .prelube (seqSent .run) .noReply (preluding .run (failing .prelube))
      ∧ (preluding .run (failing .prelube)).ssq.engine = .prelube) :=
  ⟨by decide, fun o ho d0 hd => test_reply_ends _ _ _ _ (by revert o d0; decide) rfl, by decide, test_timeout_ends _ _,
   ⟨rfl, rfl, rfl⟩, rfl⟩

theorem test_hyps_AttemptsFail :
    (∀ n ∈ [1, 2],
      let s := withLmn (fun m => { m with lastGate := 29, silence := false, sampleTimer := some 1, sagCount := 30 })
        (inEngine .cranking (fun q => { q with turnCheck := some 1, crank := some 1, attempts := n, pumpHeld := true })
          (linked .joined))
      s.estop = false ∧ s.ssq.pumpHeld = true ∧
      s.ssq.turnCheck.isSome = true ∧ s.ssq.engine = .cranking ∧ (s.lmn.lastGate < 30 ∨ s.lmn.silence = true)
        ∧ s.ssq.crank.isSome = true ∧ s.lmn.sampleTimer.isSome = true ∧ s.lmn.sagFlag = false ∧ s.lmn.sagCount = 30) ∧
    (let s := awaiting engageSent (inEngine .cranking id (linked .joined))
     EndsWith (.replyTaken (busyOf engageSent)) engageSent (.exception .deviceBusy) s
       ∧ NoFailure engageSent (.exception .deviceBusy) s ∧ engageSent.client = .sequence
       ∧ engageSent.request.order = .engage ∧ s.ssq.engine = .cranking) ∧
    (let s := awaiting engageSent (failing .starter (inEngine .cranking id (linked .joined)))
     EndsWith .replyTimeout engageSent .noReply s ∧ s.ssq.releasePending = false ∧ s.ssq.engine = .cranking) ∧
    (let s := withLmn (fun m => { m with silenceTimer := some 0 })
       (inEngine .firing (fun q => { q with firing := some 1 }) (linked .joined))
     s.ssq.firing.isSome = true ∧ s.lmn.silenceTimer.isSome = true ∧ s.ssq.engine = .firing) :=
  ⟨by decide, ⟨test_reply_ends _ _ _ _ (by decide) rfl, fun h => absurd h (by decide), rfl, rfl, rfl⟩,
   ⟨test_timeout_ends _ _, rfl, rfl⟩, by decide⟩

theorem test_hyps_PhaseTimersMoveTheStartOn_endings :
    (let s := awaiting engageSent (claiming 3 (inEngine .cranking id (linked .joined)))
     EndsWith (.replyTaken (acceptOf engageSent 0 0 0)) engageSent (.accept 0 0 0) s ∧ engageSent.client = .sequence
       ∧ engageSent.request.order = .engage ∧ s.ssq.engine = .cranking ∧ s.estop = false) ∧
    (let s := awaiting readSent (inEngine .idleWarm id (linked .joined))
     EndsWith (.replyTaken (acceptOf readSent 90 0 0)) readSent (.accept 90 0 0) s ∧ readSent.client = .poll
       ∧ readSent.request.order = .read ∧ s.ssq.engine = .idleWarm ∧ (0 : Byte).getLsbD 0 = false
       ∧ 90 ≤ (90 : Byte).toNat) :=
  ⟨⟨test_reply_ends _ _ _ _ (by decide) rfl, rfl, rfl, rfl, by decide⟩,
   ⟨test_reply_ends _ _ _ _ (by decide) rfl, rfl, rfl, rfl, by decide, by decide⟩⟩

theorem test_hyps_PhaseTimersMoveTheStartOn :
    (let s := withLmn (fun m => { m with lastGate := 30, silence := false })
      (inEngine .cranking (fun q => { q with firingHold := some 1, turnCheck := some 1 }) (linked .joined))
     s.ssq.firingHold.isSome = true ∧ s.ssq.turnCheck.isSome = true ∧ s.ssq.engine = .cranking ∧ 30 ≤ s.lmn.lastGate
       ∧ s.lmn.silence = false ∧ s.estop = false) ∧
    (∀ b ∈ [true, false],
      let s := withLmn (fun m => { m with silence := b }) (inEngine .crankRest (fun q => { q with rest := some 1 }) (linked .joined))
      s.ssq.rest.isSome = true ∧ s.ssq.engine = .crankRest ∧ s.lmn.silence = b) ∧
    (let s := inEngine .idleWarm (fun q => { q with warmUp := some 1 }) (linked .joined)
     s.ssq.warmUp.isSome = true ∧ s.ssq.engine = .idleWarm) := by decide

/-- RUNNING idle with the autostop idle timer running and a warm engine; autostop enabled or not, with a peer running. -/
def idling (enabled : Bool) : State :=
  withPeer 6 (peerEntry .live 0 .running none)
    (withMpt (fun m => { m with committed := some { config with autostop := enabled } })
      (withLmn (fun m => { m with sample := some 300 })
        (withErc (fun e => { e with sensor := ⟨80, 40, false, 0, .valid⟩ })
          (inEngine .running (fun q => { q with autostopIdle := some 1 }) (runningAt 0 0 0)))))

set_option maxRecDepth 8000 in
theorem test_sensors_return_does_not_autostop :
    leaves (.lineStabilityExpiry .freset)
      (inEngine .running (fun q => { q with idleElapsed := true })
        (lineAt .freset (some false) true
          (withErc (fun e => { e with health := e.health.set .sensors ⟨3, 3, none⟩, sensor := { e.sensor with state := .stale } })
            (idling true))))
      (fun t => t.ssq.engine == .running && t.erc.sensor.state == .valid && t.autostopConditions) = true := by decide

theorem test_hyps_AutostopAndCooldown :
    (∀ b ∈ [true, false], (idling b).ssq.autostopIdle.isSome = true ∧ (idling b).ssq.engine = .running
      ∧ (idling b).nsp.completed = 0 ∧ (idling b).effectiveDemand = 0 ∧ (idling b).autostopConditions = b
      ∧ (idling b).ssq.stopInProgress = false) ∧
    (let s := withLmn (fun m => { m with silence := false })
      (inEngine .cooldown (fun q => { q with cooldown := some 1 }) (linked .joined))
     s.ssq.cooldown.isSome = true ∧ s.ssq.engine = .cooldown ∧ s.lmn.silence = false ∧ s.estop = false) ∧
    (let s := inEngine .cooldown (fun q => { q with stopReason := .auto }) (linked .joined)
     let f : UnitFlags := ⟨false, true, false, false⟩
     s.inReset = false ∧ acceptRecord (deferredWire 2 .cooldown f []) = some (deferredRecord 2 .cooldown f [])
       ∧ s.mpt.committed = some config ∧ s.ssq.engine = .cooldown ∧ s.ssq.stopReason = .auto ∧ s.cooldownSeen = none
       ∧ (deferredRecord 2 .cooldown f []).origin < config.position) ∧
    (let s := withPeer 4 { peerEntry .live 0 .cooldown none with flags := ⟨false, true, false, false⟩ } (linked .joined)
     s.ownPosition = some 3 ∧ s.cooldownSeen = some 4 ∧ (3 : Fin 8) ≤ 4) ∧
    (∀ e ∈ [EngineState.stopped, .cooldown],
      let s := withLmn (fun m => { m with sampleTimer := some 0 })
        (inEngine e (fun q => { q with stopReason := .auto }) (linked .joined))
      s.lmn.sampleTimer.isSome = true ∧ s.ssq.stopReason = .auto ∧ s.ssq.engine = e ∧ s.clc.linkState ≠ .silenced
        ∧ s.estop = false ∧ 63999 < 64000 ∧ 58000 ≤ 58000 ∧ 57999 < 58000) := by decide

/-- STOPPED with reason AUTO, the battery good and a cool reading not taken: no trigger is true. -/
def autoStopped (e : EngineState) (v : Nat) (f : State → State) : State :=
  f (withLmn (fun m => { m with sample := some v })
    (inEngine e (fun q => { q with stopReason := .auto })
      (withMpt (fun m => { m with committed := some { config with floor := 0 } }) (linked .joined))))

theorem test_hyps_Autorestart_triggers :
    (∀ e ∈ [EngineState.stopped, .cooldown], (autoStopped e 300 id).ssq.engine = e ∧ (autoStopped e 300 id).ssq.stopReason = .auto) ∧
    (∀ e, AutorestartDue (autoStopped e 300 (withNsp (fun x => { x with reading := some 1 })))
      ∧ AutorestartDue (autoStopped e 255 id)
      ∧ AutorestartDue (autoStopped e 300 (withErc (fun c => { c with sensor := ⟨29, 20, false, 0, .valid⟩ })))
      ∧ AutorestartDue (autoStopped e 300 (withMpt (fun m => { m with committed := some config })))) :=
  ⟨by decide, fun e => ⟨Or.inl (by cases e <;> decide), Or.inr (Or.inl ⟨255, rfl, by decide⟩),
    Or.inr (Or.inr (Or.inl ⟨rfl, by cases e <;> decide⟩)), Or.inr (Or.inr (Or.inr ⟨config, rfl, by cases e <;> decide⟩))⟩⟩

theorem test_hyps_Autorestart_not_due :
    ¬ AutorestartDue (autoStopped .stopped 256 id) ∧ (linked .joined).ssq.stopReason = .manual
      ∧ ((runningAt 1 1 0).ssq.engine ≠ .stopped ∧ (runningAt 1 1 0).ssq.engine ≠ .cooldown) :=
  ⟨fun h => h.elim (fun a => absurd a (by decide)) (fun h => h.elim (fun ⟨v, e, l⟩ => by
      have hv : 256 = v := by simpa [autoStopped, withLmn] using e
      omega) (fun h => h.elim (fun a => absurd a.1 (by decide)) (fun ⟨c, _, l⟩ => by
      have hc : c = { config with floor := 0 } := by simp_all [autoStopped, withLmn, withMpt, inEngine]
      subst hc; exact absurd l (Nat.not_lt_zero _)))),
   by decide, by decide⟩

theorem test_hyps_Autorestart_commands :
    AutoStopped (autoStopped .stopped 232 id) ∧
    (let s := autoStopped .stopped 232 (fun s => { withNsp (fun x => { x with demandTimer := some 1 }) s with
        pins := { s.pins with demandCode := 0b1100 } })
     AutoStopped s ∧ s.nsp.demandTimer.isSome = true ∧ demandCodes[8]? = some s.pins.demandCode ∧ s.effectiveDemand = 0
       ∧ s.peerDemands = []) ∧
    (let s := awaiting readSent (autoStopped .stopped 232 id)
     EndsWith (.replyTaken (acceptOf readSent 79 0 0)) readSent (.accept 79 0 0) s ∧ AutoStopped s
       ∧ (79 : Byte).toNat < 80) :=
  ⟨⟨rfl, rfl, ⟨232, rfl, by decide⟩, by decide, by decide⟩,
   ⟨⟨rfl, rfl, ⟨232, rfl, by decide⟩, by decide, by decide⟩, by decide⟩,
   ⟨test_reply_ends _ _ _ _ (by decide) rfl, ⟨rfl, rfl, ⟨232, rfl, by decide⟩, by decide, by decide⟩, by decide⟩⟩

theorem test_hyps_Autorestart_record :
    let f : UnitFlags := ⟨false, false, false, false⟩
    let s := withPeer 6 (peerEntry .lost 63 .running none) (withMpt (fun m => { m with committed := some config })
      (autoStopped .stopped 300 id))
    acceptRecord (deferredWire 6 .stopped f []) = some (deferredRecord 6 .stopped f []) ∧ s.inReset = false
      ∧ s.mpt.committed = some config ∧ (6 : Fin 8) ≠ config.position ∧ (s.entry 6).state ≠ .absent ∧ runningPeer s 6 = true
      ∧ s.runningLast = config.floor.val ∧ s.clc.reception = .ready ∧ s.ssq.engine = .stopped ∧ s.ssq.stopReason = .auto
      ∧ s.lmn.sample = some 300 ∧ s.clc.linkState ≠ .silenced ∧ s.estop = false := by decide

theorem test_hyps_ChannelKeepsItsTimersAndCounts :
    (transacting .sending out).erc.sequencer = .sending ∧ out.inReset = false ∧ out.erc.sequencer ≠ .awaiting
      ∧ out.erc.sequencer ≠ .sending
      ∧ (transacting .awaiting out).erc.sequencer = .awaiting ∧ (transacting .awaiting out).erc.current = some engageSent
      ∧ classifyReply engageSent ((closed [0xC3, 0x05, 4, 0, 0, 0, 0]).map withParity) = none
      ∧ (let s := withErc (fun e => { e with pollTimer := some 0 }) out
         s.erc.pollTimer.isSome = true ∧ s.erc.slots.poll = .empty ∧ s.estop = false ∧ s.erc.sequencer = .idle)
      ∧ (let s := withErc (fun e => { e with
          pollTimer := some 0, slots := { e.slots with poll := .pending ⟨.read, 0, .erc⟩ } }) out
         s.erc.pollTimer.isSome = true ∧ s.erc.slots.poll ≠ .empty) := by decide

theorem test_hyps_ChannelKeepsItsTimersAndCounts_framed :
    replyFramed 8 (linked .joined) ∧ replyFramed 8 (transacting .awaiting out) ∧ replyFramed 1 released ∧ ¬ replyFramed 2 released ∧
    replyFramed 2 (withReplyLine (.waiting 54) released) ∧ replyFramed 2 (receiving .ready released) ∧ released.inReset = false :=
  ⟨fun h => Sequencer.noConfusion h.1, fun h => Sequencer.noConfusion h.1, fun h => absurd h.2.2.2 (by decide),
   fun h => h ⟨rfl, ⟨0, rfl, by decide⟩, ⟨rfl, rfl, by decide, fun l => by cases l <;> rfl, by decide, by decide, rfl⟩, by decide⟩,
   fun ⟨_, ⟨b, e, l⟩, _⟩ => by
     have hb : 54 = b := by simpa [withReplyLine, withErc] using e
     omega,
   fun h => Reception.noConfusion h.2.2.1.1, rfl⟩

theorem test_hyps_RepliesAreClassified :
    ((4 : BitVec 4) ≠ engageSent.tag ∧ (0x03 : Byte) ≠ engageSent.request.order.device.address
      ∧ ([] : List WireOctet).length ≠ 8 ∧ (1 : Byte) ≠ xorAll []) ∧
    (replyMeans 0xC3 0 1 2 3 = some (.accept 1 2 3) ∧ replyMeans 0xE7 1 0 0 0 = some (.exception .deviceBusy)
      ∧ replyMeans 0xE7 5 0 0 0 = some (.exception .stuck)) ∧
    (replyMeans 0xC3 1 0 0 0 = none ∧ replyMeans 0xE7 0 0 0 0 = none ∧ replyMeans 0xE7 6 0 0 0 = none
      ∧ replyMeans 0x3C 0 0 0 0 = none) ∧
    ((0x003 : WireOctet) ∈ [(0x003 : WireOctet)] ∧ onesOf 0x003 % 2 = 0) :=
  ⟨by decide, ⟨rfl, rfl, rfl⟩, ⟨rfl, rfl, rfl, rfl⟩, List.mem_singleton.mpr rfl, rfl⟩

/-- An engine state on a link state that follows the live set, in a transaction that awaits its reply. -/
def answering (tr : Transaction) (e : EngineState) (f : State → State) : State :=
  awaiting tr (f (withLmn (fun m => { m with silence := false }) (inEngine e id (linked .alone))))

theorem test_hyps_TransactionsEndWithTheirHealth :
    (EndsWith .replyTimeout readSent .noReply (answering readSent .running id)
      ∧ EndsWith (.replyTaken (acceptOf readSent 255 0 1)) readSent (.accept 255 0 1) (answering readSent .running id)
      ∧ EndsWith (.replyTaken (busyOf readSent)) readSent (.exception .deviceBusy) (answering readSent .running id)) ∧
    (∀ e ∈ [EngineState.idleWarm, .running], let s := answering readSent e id
      s.ssq.engine = e ∧ s.ssq.idleElapsed = false ∧ s.lmn.silence = false) ∧
    (readSent.client = .poll ∧ readSent.request.order = .read ∧ (1 : Byte).getLsbD 0 = true) :=
  ⟨⟨test_timeout_ends _ _, test_reply_ends _ _ _ _ (by decide) rfl, test_reply_ends _ _ _ _ (by decide) rfl⟩, by decide,
   by decide⟩

theorem test_hyps_orders_wait :
    (answering readSent .running id).erc.slots.protect = .empty ∧ (answering (seqSent .disengage) .shutdown id).erc.slots.protect = .empty
      ∧ (∀ e ∈ [EngineState.prelube, .cranking], ∀ b ∈ [true, false],
          let s := inEngine e (fun q => { q with pumpHeld := b }) (clashing e)
          s.inClash = true ∧ s.mustYield = true ∧ s.estop = false ∧ s.ssq.pumpHeld = b) := by decide

theorem test_hyps_TransactionsEndWithTheirHealth_third :
    (∀ o ∈ [Order.setSpeed, .engage, .run, .setLoad, .read],
      let s := answering (seqSent o) .running (fun s => failing o.device (withNsp (fun x => { x with completed := 1 }) s))
      EndsWith .replyTimeout (seqSent o) .noReply s ∧ ThirdFailure o.device (seqSent o) .noReply s) ∧
    (let s := answering (seqSent .setLoad) .running
       (fun s => failing .load (withNsp (fun x => { x with completed := 1 }) s))
     s.ssq.engine = .running ∧ s.lmn.silence = false ∧ 0 < s.nsp.completed) ∧
    (let s := answering (notchSent .setLoad) .running
       (fun s => failing .load (withNsp (fun x => { x with step := some ⟨.down, 1, 0, .first, false⟩ }) s))
     s.nsp.completed = 0 ∧ s.nsp.step ≠ none ∧ (s.erc.health.get .load).consecutive = 2) ∧
    (answering (seqSent .engage) .running (fun s => failing .starter (inEngine .running (fun q => { q with releasePending := true }) s))).ssq.releasePending
      = true ∧
    (let s := answering readSent .running (fun s => failing .sensors (withErc (fun e => { e with sensor := ⟨80, 40, false, 0, .valid⟩ })
       (withNsp (fun x => { x with derates := x.derates.set .coolantHigh ⟨true, none, some 5⟩ }) s)))
     s.erc.sensor.state = .valid ∧ (s.nsp.derates.get .coolantHigh).releaseTimer = some 5) :=
  ⟨fun o ho => ⟨test_timeout_ends _ _, rfl, rfl, by revert o; decide⟩, by decide, by decide, rfl, by decide⟩

theorem test_hyps_TransactionsEndWithTheirHealth_release :
    ∀ tr ∈ [seqSent .disengage, protSent .disengage .ssq], let s := answering tr .shutdown id
      EndsWith (.replyTaken (acceptOf tr 0 0 0)) tr (.accept 0 0 0) s
        ∧ EndsWith (.replyTaken (busyOf tr)) tr (.exception .deviceBusy) s ∧ EndsWith .replyTimeout tr .noReply s
        ∧ NoFailure tr .noReply s ∧ releasesStarter tr ∧ s.estop = false ∧ s.ssq.protList = []
        ∧ s.ssq.stopInProgress = false ∧ linkUpdate s = s :=
  fun tr h => ⟨test_reply_ends _ _ _ _ (by revert tr; decide) rfl, test_reply_ends _ _ _ _ (by revert tr; decide) rfl,
    test_timeout_ends _ _, fun _ => by revert tr; decide, by unfold releasesStarter; revert tr; decide, by revert tr; decide⟩

theorem test_hyps_TransactionsEndWithTheirHealth_steps :
    ∀ o ∈ [Order.setSpeed, .setLoad],
      ∀ x ∈ [(⟨.up, 1, 2, .first, false⟩ : Step), ⟨.up, 1, 2, .second, false⟩, ⟨.up, 1, 2, .second, true⟩,
          ⟨.down, 2, 1, .first, false⟩, ⟨.down, 2, 1, .second, false⟩, ⟨.retry, 1, 1, .first, false⟩],
        let s := answering (notchSent o) .running (withNsp (fun n => { n with completed := x.fromNotch, step := some x }))
        EndsWith (.replyTaken (acceptOf (notchSent o) 0 0 0)) (notchSent o) (.accept 0 0 0) s
          ∧ EndsWith .replyTimeout (notchSent o) .noReply s ∧ NoFailure (notchSent o) .noReply s
          ∧ (notchSent o).client = .notch ∧ s.nsp.step = some x ∧ s.ssq.engine = .running ∧ s.ssq.stopInProgress = false
          ∧ s.ssq.idleElapsed = false ∧ s.estop = false :=
  fun o h x _ => ⟨test_reply_ends _ _ _ _ (by revert o; decide) rfl, test_timeout_ends _ _,
    fun _ => (by decide : ∀ o ∈ [Order.setSpeed, .setLoad], ((linked .alone).erc.health.get o.device).consecutive ≠ 2) o h,
    rfl, rfl, rfl, rfl, rfl, rfl⟩

theorem test_hyps_TransactionsEndWithTheirHealth_unload :
    ∀ tr ∈ [protSent .unload .nsp, protSent .setSpeed .nsp],
      let s := answering tr .running (withNsp (fun n => { n with urgentList := if tr.request.order = .unload then [.setSpeed] else [] }))
      EndsWith (.replyTaken (acceptOf tr 0 0 0)) tr (.accept 0 0 0) s ∧ NoFailure tr (.accept 0 0 0) s
        ∧ tr.client = .protect ∧ tr.request.producer = .nsp ∧ s.estop = false ∧ s.ssq.protList = []
        ∧ (tr.request.order = .unload → s.nsp.urgentList = [.setSpeed]) :=
  fun tr h => ⟨test_reply_ends _ _ _ _ (by revert tr; decide) rfl, fun c => absurd c (by simp [Ending.transport]),
    by revert tr; decide⟩

theorem test_hyps_SpeedReadings_class :
    (∀ k ∈ [(0 : Fin 4), 3], classInEffect (withMpt (fun m => { m with committed := some { config with engineClass := k } }) out) k) ∧
    classInEffect (withMpt (fun m => { m with straps := some ⟨3, 1, 1⟩ }) out) 1 :=
  ⟨fun _ _ => Or.inl ⟨_, rfl, rfl⟩, Or.inr ⟨rfl, _, rfl, rfl⟩⟩

theorem test_hyps_SpeedReadings :
    (out.inReset = false ∧ out.lmn.pulseCounted = false) ∧
    (let s := withLmn (fun m => { m with pulseCounted := true, gateTimer := some 0, silenceTimer := some 0 })
      (inEngine .shutdown id out)
     s.lmn.pulseCounted = true ∧ 100 ≤ 100 ∧ 99 < 100 ∧ s.lmn.gateTimer.isSome = true ∧ s.lmn.silenceTimer.isSome = true
       ∧ s.ssq.engine = .shutdown ∧ s.ssq.stopReason = .manual) ∧
    (∀ x ∈ [(none : Timer), some 1],
      let s := withLmn (fun m => { m with silenceTimer := some 0 })
        (inEngine .crankRest (fun q => { q with rest := x }) (linked .joined))
      s.lmn.silenceTimer.isSome = true ∧ s.ssq.engine = .crankRest ∧ s.ssq.rest = x) ∧
    (∀ e ∈ [EngineState.cranking, .idleWarm, .running, .cooldown],
      let s := withLmn (fun m => { m with silenceTimer := some 0 })
        (inEngine e id (linked .joined))
      s.lmn.silenceTimer.isSome = true ∧ s.ssq.engine = e ∧ s.estop = false) := by decide

/-- A gate about to end in an engine state, with the engine turning. -/
def gating (e : EngineState) (n : Nat) : State :=
  withLmn (fun m => { m with gateTimer := some 0, gateCount := n, silence := false }) (inEngine e id (linked .joined))

theorem test_hyps_GateResultsMoveTheEngine :
    (∀ e ∈ [EngineState.stopped, .claiming, .running], (gating e 200).lmn.gateTimer.isSome = true
      ∧ (gating e 200).row.overspeed ≤ (gating e 200).lmn.gateCount * 600 / (gating e 200).row.teeth
      ∧ (gating e 200).lmn.silence = false) ∧
    ((gating .idleWarm 44).lmn.gateCount * 600 / (gating .idleWarm 44).row.teeth < (gating .idleWarm 44).row.idle70
      ∧ (gating .idleWarm 44).ssq.engine = .idleWarm ∧ (gating .idleWarm 44).lmn.silence = false) ∧
    ((gating .firing 58).ssq.engine = .firing ∧ (gating .firing 58).estop = false
      ∧ (gating .firing 58).row.idle90 ≤ (gating .firing 58).lmn.gateCount * 600 / (gating .firing 58).row.teeth
      ∧ (gating .firing 58).lmn.gateCount * 600 / (gating .firing 58).row.teeth < (gating .firing 58).row.overspeed) ∧
    (∀ n ∈ [(79, true), (90, false)],
      let s := withNsp (fun x => { x with completed := 1, watch := some ⟨1, 10000⟩ }) (gating .running n.1)
      let r := s.lmn.gateCount * 600 / s.row.teeth
      s.lmn.gateTimer.isSome = true ∧ s.ssq.engine = .running ∧ s.row.idle70 ≤ r ∧ r < s.row.overspeed
        ∧ s.ssq.stopInProgress = false ∧ s.ssq.idleElapsed = false ∧ withinBand s 1 r = n.2) ∧
    (∀ n ∈ [(27, false), (28, true)], ∀ f ∈ [true, false],
      let s := inEngine .cranking (fun q => { q with fuelOrder := f }) (gating .cranking n.1)
      s.lmn.gateTimer.isSome = true ∧ s.ssq.engine = .cranking ∧ s.lmn.gateCount * 600 / s.row.teeth < s.row.overspeed
        ∧ s.estop = false ∧ s.ssq.fuelOrder = f
        ∧ decide (s.row.firing ≤ s.lmn.gateCount * 600 / s.row.teeth) = n.2) := by
  decide

theorem test_hyps_BatterySamplesAndSag :
    ∀ n ∈ [29, 30],
      (let s := withLmn (fun m => { m with sampleTimer := some 0, sagCount := n }) out
       s.lmn.sampleTimer.isSome = true ∧ s.lmn.sagFlag = false ∧ s.lmn.sagCount = n ∧ s.ssq.engine ≠ .cranking) ∧
      (let s := withLmn (fun m => { m with sampleTimer := some 0, sagFlag := true, recoveryCount := n }) out
       s.lmn.sampleTimer.isSome = true ∧ s.lmn.sagFlag = true ∧ s.lmn.recoveryCount = n) ∧
      47999 < 48000 ∧ 48000 ≤ 48000 ∧ out.lmn.sampleTimer = none := by decide

/-- In the CONFIG phase with the straps of position 3, class 1, floor 1. -/
def configuring (f : Mpt → Mpt) : State :=
  withMpt (fun m => f { m with straps := some ⟨3, 1, 1⟩, commitState := .opened, configTimer := some 3000 }) out

/-- The override record of section 10.5, with its check octet. -/
def overrideRecord (check : Byte) : Vector Byte 16 := #v[0x09, 5, 0, 0, 0x07, 0x2A, 6, 2, 0, 0, 1, 4, 1, 0, 0, check]

set_option maxRecDepth 8000 in
theorem test_hyps_CommitFormsTheConfiguration :
    ∀ w ∈ [true, false], ∀ b ∈ [(0x21 : Byte), 0x20],
      let s := configuring (fun m => { m with pointer := 0x18, overrideWritten := w, buffer := overrideRecord b })
      s.answers 0x33 = true ∧ s.mpt.straps = some ⟨3, 1, 1⟩ ∧ s.mpt.commitState = .opened ∧ s.mpt.pointer = 0x18
        ∧ s.mpt.configTimer.isSome = true ∧ s.mpt.overrideWritten = w ∧ overridePasses s.mpt.buffer = decide (b = 0x21) := by
  decide

theorem test_buffer_ranges :
    overridePasses ((overrideRecord 0x20).set 6 7) = true ∧ overridePasses ((overrideRecord 0x2F).set 6 8) = true
      ∧ overridePasses ((overrideRecord 0x2C).set 1 8) = false ∧ overridePasses ((overrideRecord 0x25).set 2 4) = true
      ∧ overridePasses (((overrideRecord 0x27).set 2 4).set 0 0x0B) = false
      ∧ overridePasses (((overrideRecord 0x21).set 3 4).set 0 0x0D) = false := by decide

theorem test_hyps_OverrideBufferHoldsTheLastOctets :
    (∀ i ∈ [(0 : Fin 16), 15], let s := configuring (fun m => { m with pointer := BitVec.ofNat 8 (0x08 + i.val) })
      s.answers 0x33 = true ∧ s.mpt.commitState = .opened ∧ s.mpt.pointer.toNat = 0x08 + i.val) ∧
    (linked .joined).answers 0x33 = true ∧ (linked .joined).mpt.commitState = .committed .expiry := by decide

theorem test_hyps_PointerAndRefusedOctets :
    (linked .joined).answers 0x33 = true ∧ (linked .joined).mpt.commitState ≠ .opened ∧
    (∀ o ∈ [(0x07 : Byte), 0x19], let s := configuring (fun m => { m with pointer := o })
      s.answers 0x33 = true ∧ s.mpt.commitState = .opened ∧ (s.mpt.pointer.toNat < 0x08 ∨ 0x18 < s.mpt.pointer.toNat)) ∧
    (let s := configuring (fun m => { m with pointer := 0x18 })
     s.mpt.pointer = 0x18 ∧ (0x5B : Byte) ≠ 0x5A) ∧
    (linked .joined).answers 0x32 = false ∧ State.reset.answers 0x30 = false ∧ State.reset.inReset = true ∧
    (∀ p ∈ [(0 : Fin 8), 7], (configuring (fun m => { m with straps := some ⟨p, 1, 1⟩ })).mpt.straps = some ⟨p, 1, 1⟩
      ∧ (configuring id).inReset = false) := by decide

/-- The pointer at an offset, with the coherence buffer and the latch. -/
def pointing (o : Byte) (c : Option Coherence) (l : Option Latch) : State :=
  withMpt (fun m => { m with pointer := o, coherence := c, latch := l }) (linked .joined)

theorem test_hyps_PortReadsServeTheWindow :
    (∀ k ∈ [(0 : Fin 8), 7], (pointing (BitVec.ofNat 8 (0x40 + 16 * k.val)) none none).answers 0x33 = true
      ∧ (pointing (BitVec.ofNat 8 (0x40 + 16 * k.val)) none none).mpt.pointer.toNat = 0x40 + 16 * k.val) ∧
    (∀ j ∈ [1, 15], (pointing (BitVec.ofNat 8 (0xB0 + j)) (some ⟨7, []⟩) none).mpt.pointer.toNat = 0x40 + 16 * (7 : Fin 8).val + j
      ∧ 1 ≤ j ∧ j ≤ 15 ∧ (pointing (BitVec.ofNat 8 (0xB0 + j)) (some ⟨7, []⟩) none).mpt.coherence = some ⟨7, []⟩) ∧
    (∀ c ∈ [(none : Option Coherence), some ⟨6, []⟩], (pointing 0xBF c none).mpt.pointer.toNat = 0x40 + 16 * (7 : Fin 8).val + 15
      ∧ (pointing 0xBF c none).mpt.coherence = c ∧ (7 : Fin 8) ≠ 6) ∧
    ((pointing 0xF0 none none).mpt.pointer.toNat ∈ lowOffsets ∧ (pointing 0xF0 none none).mpt.latch = none) ∧
    (let s := pointing 0xF1 none (some ⟨0xF1, 2⟩)
     (s.mpt.pointer.toNat < 0x40 ∨ 0xC0 ≤ s.mpt.pointer.toNat) ∧ s.mpt.pointer.toNat ∉ lowOffsets
       ∧ s.mpt.latch = some ⟨s.mpt.pointer, 2⟩) ∧
    (∀ o ∈ [(0x00 : Byte), 0x3F, 0xC0], let s := pointing o none none
      (s.mpt.pointer.toNat < 0x40 ∨ 0xC0 ≤ s.mpt.pointer.toNat) ∧ s.mpt.pointer.toNat ∉ lowOffsets ∧ s.mpt.latch = none) := by
  decide

theorem test_hyps_CommittedConfigurationStays :
    Instr.gateEnd ≠ .powerOnReset ∧ (gating .firing 58).inReset = false
      ∧ (gating .firing 58).mpt.commitState = .committed .expiry ∧ leaves .gateEnd (gating .firing 58) (fun _ => true) = true
      ∧ (CommitFitsLink (linked .joined) ∧ ∃ t, step (linked .joined) = .next t) :=
  ⟨by decide, rfl, rfl, by decide, test_commit_fits _ (by decide), _, rfl⟩

theorem test_hyps_CommandsKeepWhatIsNotTheirs :
    (∀ c ∈ [Instr.prelubeTick, .demandStabilityExpiry, .derateApplyTimerExpiry .intakeWarm, .derateReleaseTimerExpiry .coolantHigh,
        .lineStabilityExpiry .stop, .gateEnd, .sagEvent, .sagRecovery, .windowTimerExpiry 0, .recordTaken statusWire, .replyTimeout],
      leaves c (transacting .awaiting (gating .prelube 58)) (fun _ => true) = true)
      ∧ Instr.prelubeTick ∈ timerCommands ∧ Line.stop ≠ Line.freset := by decide

theorem test_hyps_ClaimAndFuelFitTheEngine :
    ClaimFitsEngine (claiming 3 (gating .cranking 58)) ∧ FuelFitsEngine (claiming 3 (gating .cranking 58))
      ∧ ∃ t, step { claiming 3 (gating .cranking 58) with pending := [.gateEnd] } = .next t :=
  ⟨by unfold ClaimFitsEngine; decide, fun _ => by decide, _, rfl⟩

theorem test_hyps_EstopKeepsTheEngineDown :
    EstopFitsEngine (estopped (gating .shutdown 58)) ∧ (estopped (gating .shutdown 58)).estop = true
      ∧ ∃ t, step { estopped (gating .shutdown 58) with pending := [.gateEnd] } = .next t :=
  ⟨fun _ => Or.inr (Or.inl rfl), by decide, _, rfl⟩

theorem test_hyps_OneTransactionInFlight :
    OneTransaction (transacting .awaiting (linked .joined))
      ∧ ∃ t, step { transacting .awaiting (linked .joined) with pending := [.replyTimeout] } = .next t :=
  ⟨⟨engageSent, rfl, rfl, fun c h => by cases c <;> first | rfl | exact absurd rfl h⟩, _, rfl⟩

theorem test_hyps_AlarmLampShowsTheLatchedKinds :
    let s := { gating .firing 58 with fcl := { out.fcl with active := [.duplicatePosition] } }
    FaultSetListed s ∧ Instr.gateEnd ≠ .powerOnReset ∧ s.faultActive .duplicatePosition = true
      ∧ leaves .gateEnd s (fun _ => true) = true :=
  ⟨by unfold FaultSetListed; decide, by decide, by decide, by decide⟩

theorem test_hyps_FaultRecordsStayListed :
    NoticesListed (linked .joined) ∧ CrankFailTimed (linked .joined) ∧ ∃ t, step (linked .joined) = .next t :=
  ⟨by unfold NoticesListed; decide, by unfold CrankFailTimed; decide, _, rfl⟩

end Sys2Proof.Tests
end

section
/-! The derived views of the Consist Table (chapter 3): membership in the lists they are read from, then O18 and O19. -/

namespace Sys2Proof.Machine

/-! ## Positions and entries -/

@[simp] theorem mem_allPositions (p : Fin 8) : p ∈ allPositions := by
  revert p; decide

theorem allPositions_nodup : allPositions.Nodup := by decide

@[simp] theorem mem_others {s : State} {p : Fin 8} : p ∈ s.others ↔ s.ownPosition ≠ some p := by
  simp [State.others]

theorem others_nodup (s : State) : s.others.Nodup := allPositions_nodup.filter _

@[simp] theorem Entry.live_iff {e : Entry} : e.live = true ↔ e.state = .live := decide_eq_true_iff

@[simp] theorem Entry.liveOrStale_iff {e : Entry} : e.liveOrStale = true ↔ e.state = .live ∨ e.state = .stale := by
  simp [Entry.liveOrStale]

@[simp] theorem EngineState.holdsPermit_iff {e : EngineState} :
    e.holdsPermit = true ↔ e = .prelube ∨ e = .cranking ∨ e = .firing := by
  cases e <;> simp [EngineState.holdsPermit]

/-! ## The live set (R46) -/

theorem mem_liveSet {s : State} {p : Fin 8} :
    p ∈ s.liveSet ↔ s.ownPosition ≠ some p ∧ (s.entry p).state = .live := by
  simp [State.liveSet]

theorem liveSet_nodup (s : State) : s.liveSet.Nodup := (others_nodup s).filter _

/-- Once committed, the own position is one of the eight and stands outside the live set. -/
theorem liveSet_length_le_of_committed {s : State} {own : Fin 8} (hown : s.ownPosition = some own) :
    s.liveSet.length ≤ 7 := by
  have hout : own ∉ s.liveSet := fun hin => (mem_liveSet.mp hin).1 hown
  have hcard := (List.nodup_cons.mpr ⟨hout, liveSet_nodup s⟩).length_le_card
  simpa [Nat.lt_succ_iff] using hcard

theorem joinedOrAlone_eq (s : State) :
    s.joinedOrAlone = if s.liveSet.length = 0 then .alone else .joined := by
  simp [State.joinedOrAlone]

theorem joinedOrAlone_of_mem_liveSet {s : State} {p : Fin 8} (hp : p ∈ s.liveSet) : s.joinedOrAlone = .joined := by
  rw [joinedOrAlone_eq, if_neg (List.length_pos_of_mem hp).ne']

/-- Settles O18: membership is read off the two filters that make the live set; the bound is a count of positions, and a member,
whatever its source, keeps the choice at JOINED. -/
theorem liveSetIsTheOtherLiveEntries : Obligations.LiveSetIsTheOtherLiveEntries := by
  intro s
  refine ⟨fun p => mem_liveSet, liveSet_nodup s, fun hcommitted => ?length, fun p _ hother hlive _ => ?relayed,
    joinedOrAlone_eq s⟩
  case length =>
    obtain ⟨own, hown⟩ := Option.isSome_iff_exists.mp hcommitted
    exact liveSet_length_le_of_committed hown
  case relayed =>
    have hmem : p ∈ s.liveSet := mem_liveSet.mpr ⟨hother, hlive⟩
    exact ⟨hmem, joinedOrAlone_of_mem_liveSet hmem⟩

/-! ## Permit in use (R48) -/

theorem holdRunning_iff {s : State} : s.holdRunning = true ↔ ∃ p, (s.cpa.holds.get p).isSome = true := by
  simp [State.holdRunning]

/-- Some other entry is LIVE or STALE in a permit state: the first of the two cases of R48. -/
theorem any_others_holdsPermit_iff {s : State} :
    s.others.any (fun p => (s.entry p).liveOrStale && (s.entry p).engine.holdsPermit) = true ↔
      ∃ p, s.ownPosition ≠ some p ∧ ((s.entry p).state = .live ∨ (s.entry p).state = .stale)
        ∧ ((s.entry p).engine = .prelube ∨ (s.entry p).engine = .cranking ∨ (s.entry p).engine = .firing) := by
  simp only [List.any_eq_true, mem_others, Bool.and_eq_true, Entry.liveOrStale_iff,
    EngineState.holdsPermit_iff]

/-- Settles O19: the view is the disjunction of R48's two cases, a peer in a permit state and a running phantom hold. -/
theorem permitInUseIsAPeerOrAHold : Obligations.PermitInUseIsAPeerOrAHold := by
  intro s
  rw [State.permitInUse, Bool.or_eq_true, any_others_holdsPermit_iff, holdRunning_iff]

end Sys2Proof.Machine
end

section
/-! The yield's count and faults (R71): what the operations of a yield and of a fault reset do to the arbiter's group and to the
active fault set, the counter's octets in the status window, then O22. -/

namespace Sys2Proof.Machine

/-! ## The arbiter's group -/

@[simp] theorem raiseFault_cpa (k : FaultKind) (s : State) : (raiseFault k s).cpa = s.cpa := by
  unfold raiseFault; split <;> rfl

@[simp] theorem clearFault_cpa (k : FaultKind) (s : State) : (clearFault k s).cpa = s.cpa := by
  unfold clearFault; split <;> rfl

@[simp] theorem withdraw_cpa (c : Client) (s : State) : (withdraw c s).cpa = s.cpa := by
  unfold withdraw; split <;> rfl

@[simp] theorem addSeq_cpa (o : Order) (s : State) : (addSeq o s).cpa = s.cpa := by
  unfold addSeq; split
  · rfl
  · cases o <;> rfl

@[simp] theorem addStopIfHeld_cpa (s : State) : (addStopIfHeld s).cpa = s.cpa := by
  unfold addStopIfHeld; split <;> simp

@[simp] theorem nspOnLeave_cpa (old new : EngineState) (s : State) : (nspOnLeave old new s).cpa = s.cpa := by
  unfold nspOnLeave; repeat' split
  all_goals simp [endWatch, dropStep]

@[simp] theorem idleUpkeep_cpa (s : State) : (idleUpkeep s).cpa = s.cpa := by
  unfold idleUpkeep; repeat' split
  all_goals rfl

@[simp] theorem clearRefusal_cpa (n : EngineState) (s : State) : (clearRefusal n s).cpa = s.cpa := by
  unfold clearRefusal; split <;> simp

@[simp] theorem startRunning_cpa (n : EngineState) (s : State) : (startRunning n s).cpa = s.cpa := by
  unfold startRunning; split <;> simp

/-- Of the arbiter's group an entry into an engine state moves the claim alone. -/
theorem enter_cpa (n : EngineState) (s : State) :
    (enter n s).cpa = { s.cpa with claim := claimOnEnter s.ssq.engine n s.cpa.claim } := by
  simp [enter]

@[simp] theorem enter_permitClash (n : EngineState) (s : State) : (enter n s).cpa.permitClash = s.cpa.permitClash := by
  rw [enter_cpa]

@[simp] theorem enterCrankRest_permitClash (s : State) : (enterCrankRest s).cpa.permitClash = s.cpa.permitClash := by
  simp [enterCrankRest]

/-! ## The active fault set -/

@[simp] theorem addSeq_fcl (o : Order) (s : State) : (addSeq o s).fcl = s.fcl := by
  unfold addSeq; split
  · rfl
  · cases o <;> rfl

@[simp] theorem addStopIfHeld_fcl (s : State) : (addStopIfHeld s).fcl = s.fcl := by
  unfold addStopIfHeld; split <;> simp

@[simp] theorem dropStep_fcl (s : State) : (dropStep s).fcl = s.fcl := by
  unfold dropStep withdraw; split <;> rfl

@[simp] theorem idleUpkeep_fcl (s : State) : (idleUpkeep s).fcl = s.fcl := by
  unfold idleUpkeep; repeat' split
  all_goals rfl

@[simp] theorem startRunning_fcl (n : EngineState) (s : State) : (startRunning n s).fcl = s.fcl := by
  unfold startRunning; split <;> simp

theorem clearFault_active_subset (k : FaultKind) (s : State) : (clearFault k s).fcl.active ⊆ s.fcl.active := by
  unfold clearFault; split
  · exact List.filter_subset_self _
  · exact List.Subset.refl _

theorem clearRefusal_active_subset (n : EngineState) (s : State) : (clearRefusal n s).fcl.active ⊆ s.fcl.active := by
  unfold clearRefusal; split
  · exact List.Subset.refl _
  · exact clearFault_active_subset _ s

theorem endWatch_active_subset (s : State) : (endWatch s).fcl.active ⊆ s.fcl.active :=
  clearFault_active_subset _ _

theorem nspOnLeave_active_subset (old new : EngineState) (s : State) :
    (nspOnLeave old new s).fcl.active ⊆ s.fcl.active := by
  unfold nspOnLeave; split
  · split
    · exact endWatch_active_subset _
    · simpa using endWatch_active_subset { dropStep s with nsp := _ }
  · split
    · simpa using endWatch_active_subset { dropStep s with nsp := _ }
    · exact List.Subset.refl _

/-- An entry into an engine state can end faults and raises none. -/
theorem enter_active_subset (n : EngineState) (s : State) : (enter n s).fcl.active ⊆ s.fcl.active := by
  unfold enter
  rw [startRunning_fcl]
  exact List.Subset.trans (clearRefusal_active_subset n _) (nspOnLeave_active_subset s.ssq.engine n s)

theorem enterCrankRest_active_subset (s : State) : (enterCrankRest s).fcl.active ⊆ s.fcl.active := by
  simpa [enterCrankRest] using enter_active_subset .crankRest s

theorem faultActive_of_active_subset {s t : State} (hsub : t.fcl.active ⊆ s.fcl.active) {k : FaultKind}
    (hk : t.faultActive k = true) : s.faultActive k = true :=
  List.contains_iff_mem.mpr (hsub (List.contains_iff_mem.mp hk))

/-! ## The yield (R68, R69, R71) -/

/-- One yield more on PERMIT_CLASH. -/
def countYield (s : State) : State := { s with cpa := { s.cpa with permitClash := sat16 s.cpa.permitClash } }

theorem yieldPermit_of_prelube {s : State} (he : s.ssq.engine = .prelube) :
    yieldPermit s = enter .claiming (addSeq .stop (countYield s)) := by
  simp [yieldPermit, countYield, he]

theorem yieldPermit_of_cranking {s : State} (he : s.ssq.engine = .cranking) :
    yieldPermit s = enterCrankRest (addSeq .disengage (countYield s)) := by
  simp [yieldPermit, countYield, he]

/-- A yield, from either state that can yield, is counted once. -/
theorem yieldPermit_permitClash {s : State} (he : s.ssq.engine = .prelube ∨ s.ssq.engine = .cranking) :
    (yieldPermit s).cpa.permitClash = min 65535 (s.cpa.permitClash + 1) := by
  have hcount : (countYield s).cpa.permitClash = min 65535 (s.cpa.permitClash + 1) := rfl
  rcases he with he | he
  · simp [yieldPermit_of_prelube he, hcount]
  · simp [yieldPermit_of_cranking he, hcount]

/-- A yield, from either state that can yield, raises no fault. -/
theorem yieldPermit_active_subset {s : State} (he : s.ssq.engine = .prelube ∨ s.ssq.engine = .cranking) :
    (yieldPermit s).fcl.active ⊆ s.fcl.active := by
  have hcount : (countYield s).fcl = s.fcl := rfl
  rcases he with he | he
  · simpa [yieldPermit_of_prelube he, hcount] using enter_active_subset .claiming (addSeq .stop (countYield s))
  · simpa [yieldPermit_of_cranking he, hcount] using
      enterCrankRest_active_subset (addSeq .disengage (countYield s))

theorem clashTest_of_yield {s : State} (hclash : s.inClash = true) (hyield : s.mustYield = true) :
    clashTest s = yieldPermit s := by
  simp [clashTest, hclash, hyield]

theorem clashTest_of_keep {s : State} (hkeep : s.mustYield = false) : clashTest s = s := by
  simp [clashTest, hkeep]

/-! ## The fault reset (R142, R155) -/

/-- A health record set to OK starts no failure, so the arbiter's group stays. -/
@[simp] theorem changeHealth_ok_cpa (d : Device) (s : State) : (changeHealth d Health.ok s).cpa = s.cpa := by
  have hok : Health.ok.failed = false := rfl
  simp only [changeHealth, hok, Bool.false_and, Bool.false_eq_true, if_false]
  split <;> simp

@[simp] theorem sensorsReturn_cpa (old s : State) : (sensorsReturn old s).cpa = s.cpa := by
  unfold sensorsReturn; split <;> simp

@[simp] theorem ercFaultReset_cpa (s : State) : (ercFaultReset s).cpa = s.cpa := by
  simp [ercFaultReset]

@[simp] theorem faultResetFaults_cpa (s : State) : (faultResetFaults s).cpa = s.cpa := rfl

@[simp] theorem startRequest_permitClash (s : State) : (startRequest s).cpa.permitClash = s.cpa.permitClash := by
  unfold startRequest; repeat' split
  all_goals simp

@[simp] theorem triggerTest_permitClash (s : State) : (triggerTest s).cpa.permitClash = s.cpa.permitClash := by
  unfold triggerTest; repeat' split
  all_goals simp

@[simp] theorem enterStopped_permitClash (s : State) : (enterStopped s).cpa.permitClash = s.cpa.permitClash := by
  simp [enterStopped]

@[simp] theorem ssqFaultReset_permitClash (s : State) : (ssqFaultReset s).cpa.permitClash = s.cpa.permitClash := by
  unfold ssqFaultReset; split <;> simp

@[simp] theorem faultReset_permitClash (s : State) : (faultReset s).cpa.permitClash = s.cpa.permitClash := by
  simp [faultReset]

/-! ## The counters in the status window (section 11.5, R177) -/

theorem channelRegion_length (s : State) : s.channelRegion.length = 32 := rfl

theorem counterRegion_length (s : State) : s.counterRegion.length = 22 := rfl

/-- The counters stand from 0xE0 on, behind the 32 octets of the engine-room channel. -/
theorem highRegion_getD_counter (s : State) {i : Nat} (hi : i < 22) :
    s.highRegion.getD (32 + i) 0 = s.counterRegion.getD i 0 := by
  rw [State.highRegion, List.append_assoc, List.getD_append_right _ _ _ _ (by simp [channelRegion_length]),
    List.getD_append _ _ _ _ (by rw [counterRegion_length, channelRegion_length]; omega), channelRegion_length,
    Nat.add_sub_cancel_left]

theorem windowOctet_counter (s : State) {a : Byte} {i : Nat} (ha : a.toNat = 0xE0 + i) (hi : i < 22) :
    s.windowOctet a = byteOf (s.counterRegion.getD i 0) := by
  have hlow : ¬ 0xE0 + i < 0x40 := by omega
  have htable : ¬ 0xE0 + i < 0xC0 := by omega
  have hoffset : 0xE0 + i - 0xC0 = 32 + i := by omega
  rw [State.windowOctet, ha, if_neg hlow, if_neg htable, hoffset, highRegion_getD_counter s hi]

/-- PERMIT_CLASH stands at 0xF0 and 0xF1, low octet first. -/
theorem windowOctet_permitClash (s : State) :
    s.windowOctet 0xF0 = BitVec.ofNat 8 (s.cpa.permitClash % 256)
      ∧ s.windowOctet 0xF1 = BitVec.ofNat 8 (s.cpa.permitClash / 256 % 256) :=
  ⟨windowOctet_counter s (i := 16) rfl (by decide), windowOctet_counter s (i := 17) rfl (by decide)⟩

/-- Settles O22: the count is made before the entry that gives the permit up; an entry moves the claim alone of the arbiter's
group and ends faults at most; and a fault reset reaches the arbiter through entries alone. -/
theorem yieldsAreCountedOnPermitClash : Obligations.YieldsAreCountedOnPermitClash := by
  refine ⟨fun s he hclash hyield => ?yields, fun s => clashTest_of_keep, rfl, faultReset_permitClash, fun s => ?window⟩
  case yields =>
    rw [clashTest_of_yield hclash hyield]
    exact ⟨yieldPermit_permitClash he, fun k => faultActive_of_active_subset (yieldPermit_active_subset he)⟩
  case window =>
    obtain ⟨hlow, hhigh⟩ := windowOctet_permitClash s
    exact ⟨hlow, hhigh, by decide⟩

end Sys2Proof.Machine
end

section
/-! ESTOP holds starts and orders back until its release (R96): what the requests, the tests and the blocks' reaction can do to the
active fault set, an engine that nothing but a command moves, the level taken on a line, then O29. -/

namespace Sys2Proof.Machine

/-! ## The Start Sequencer's state and the ESTOP level -/

@[simp] theorem clearFault_ssq (k : FaultKind) (s : State) : (clearFault k s).ssq = s.ssq := by
  unfold clearFault; split <;> rfl

@[simp] theorem linkUpdate_ssq (s : State) : (linkUpdate s).ssq = s.ssq := by
  unfold linkUpdate; split <;> rfl

@[simp] theorem disagreeUpkeep_ssq (s : State) : (disagreeUpkeep s).ssq = s.ssq := by
  unfold disagreeUpkeep; repeat' split
  all_goals simp

theorem engine_of_drive {s t : State} (h : t.drive = s.drive) : t.ssq.engine = s.ssq.engine := congrArg Prod.fst h

theorem estop_iff {s : State} : s.estop = true ↔ (s.lmn.lines.get .estop).level = some true := by
  simp [State.estop, PerLine.get]

theorem estop_of_outer {s t : State} (h : t.outer = s.outer) : t.estop = s.estop :=
  congrArg (fun o : Outer => o.lmn.lines.estop.level == some true) h

@[simp] theorem setLevel_estop_estop (v : Bool) (s : State) : (setLevel .estop v s).estop = v := by
  cases v <;> rfl

/-! ## Requests and orders under ESTOP (R80, R96) -/

theorem startRequest_of_estop {s : State} (hestop : s.estop = true) (he : s.ssq.engine = .stopped) :
    startRequest s = raiseFault .startRefused s := by
  simp [startRequest, he, hestop]

/-- In STOPPED the test of the triggers is a start request, or nothing. -/
theorem triggerTest_of_stopped {s : State} (he : s.ssq.engine = .stopped) :
    triggerTest s = if s.ssq.stopReason = .auto && s.autorestartTrigger then startRequest s else s := by
  simp [triggerTest, he]

theorem triggerTest_of_estop {s : State} (hestop : s.estop = true) (he : s.ssq.engine = .stopped) :
    triggerTest s = s ∨ triggerTest s = raiseFault .startRefused s := by
  rw [triggerTest_of_stopped he, startRequest_of_estop hestop he]
  exact (ite_eq_or_eq _ _ _).symm

theorem addSeq_of_estop {s : State} (hestop : s.estop = true) (o : Order) : addSeq o s = s := by
  simp [addSeq, hestop]

/-! ## Faults that the requests and the reaction leave clear -/

theorem faultInactive_of_active_subset {s t : State} (hsub : t.fcl.active ⊆ s.fcl.active) {k : FaultKind}
    (hk : s.faultActive k = false) : t.faultActive k = false :=
  Bool.eq_false_iff.mpr fun ht => Bool.eq_false_iff.mp hk (faultActive_of_active_subset hsub ht)

theorem faultActive_of_fcl {s t : State} (h : t.fcl = s.fcl) (k : FaultKind) : t.faultActive k = s.faultActive k :=
  congrArg (fun f : Fcl => f.active.contains k) h

theorem faultActive_raiseFault_ne {k j : FaultKind} (hkj : k ≠ j) (s : State) :
    (raiseFault j s).faultActive k = s.faultActive k := by
  have hall : k ∈ FaultKind.all := by
    cases k with
    | deviceFailed d => cases d <;> decide
    | _ => decide
  unfold raiseFault
  split
  · rfl
  · simp [State.faultActive, addKind, hkj, hall]

/-- A block's clear removes a self-clearing kind. -/
theorem faultActive_clearFault_same {k : FaultKind} (hself : k.selfClearing = true) (s : State) :
    (clearFault k s).faultActive k = false := by
  simp [clearFault, hself, State.faultActive, dropKind]

@[simp] theorem grantSlot_fcl (c : Client) (s : State) : (grantSlot c s).fcl = s.fcl := by
  unfold grantSlot; split <;> rfl

@[simp] theorem post_fcl (c : Client) (r : Request) (s : State) : (post c r s).fcl = s.fcl := by
  unfold post; simp only []; split <;> simp

@[simp] theorem notePosted_fcl (o : Order) (s : State) : (notePosted o s).fcl = s.fcl := by
  cases o <;> rfl

@[simp] theorem pumpProtect_fcl (s : State) : (pumpProtect s).fcl = s.fcl := by
  unfold pumpProtect; repeat' split
  all_goals simp

@[simp] theorem linkUpdate_fcl (s : State) : (linkUpdate s).fcl = s.fcl := by
  unfold linkUpdate; split <;> rfl

theorem disagreeUpkeep_active_subset (s : State) : (disagreeUpkeep s).fcl.active ⊆ s.fcl.active := by
  unfold disagreeUpkeep; repeat' split
  · exact List.Subset.refl _
  · exact List.Subset.refl _
  · exact clearFault_active_subset _ _

theorem stopToCooldown_cases (s : State) :
    stopToCooldown s = s ∨ stopToCooldown s = setReason .manual (enter .cooldown s) := by
  unfold stopToCooldown; exact (ite_eq_or_eq _ _ _).symm

theorem stopToCooldown_active_subset (s : State) : (stopToCooldown s).fcl.active ⊆ s.fcl.active := by
  rcases stopToCooldown_cases s with h | h
  · simp [h]
  · simpa [h] using enter_active_subset .cooldown s

theorem clashTest_active_subset (s : State) : (clashTest s).fcl.active ⊆ s.fcl.active := by
  unfold clashTest; split
  next h =>
    have he : s.ssq.engine = .prelube ∨ s.ssq.engine = .cranking := by
      simp only [State.inClash, Bool.and_eq_true, Bool.or_eq_true, decide_eq_true_eq] at h
      exact h.1.1
    exact yieldPermit_active_subset he
  next => exact List.Subset.refl _

theorem grantTest_active_subset (s : State) : (grantTest s).fcl.active ⊆ s.fcl.active := by
  unfold grantTest; split
  · simpa [grantPermit] using enter_active_subset .prelube s
  · exact List.Subset.refl _

theorem contention_active_subset (s : State) : (contention s).fcl.active ⊆ s.fcl.active := by
  unfold contention; repeat' split
  · exact enter_active_subset .running s
  · exact List.Subset.refl _
  · exact List.Subset.refl _

theorem autostopTest_active_subset (s : State) : (autostopTest s).fcl.active ⊆ s.fcl.active := by
  unfold autostopTest; split
  · exact enter_active_subset .cooldown s
  · exact List.Subset.refl _

/-- A start request raises START_REFUSED at most. -/
theorem startRequest_keeps_inactive {k : FaultKind} (hk : k ≠ .startRefused) {s : State} (h : s.faultActive k = false) :
    (startRequest s).faultActive k = false := by
  unfold startRequest; repeat' split
  · exact faultInactive_of_active_subset (enter_active_subset .claiming s) h
  · rw [faultActive_raiseFault_ne hk, h]
  · exact faultInactive_of_active_subset (enter_active_subset .running s) h
  · exact h

/-- The triggers' test raises START_REFUSED at most. -/
theorem triggerTest_keeps_inactive {k : FaultKind} (hk : k ≠ .startRefused) {s : State} (h : s.faultActive k = false) :
    (triggerTest s).faultActive k = false := by
  unfold triggerTest; repeat' split
  · exact startRequest_keeps_inactive hk h
  · exact faultInactive_of_active_subset (enter_active_subset .running s) h
  · exact h
  · exact h

theorem faultInactive_ite {k : FaultKind} {b : Bool} {f : State → State} {s : State}
    (hf : s.faultActive k = false → (f s).faultActive k = false) (hs : s.faultActive k = false) :
    (if b then f s else s).faultActive k = false := by
  cases b
  · exact hs
  · exact hf hs

/-- The deciding blocks raise START_REFUSED at most. -/
theorem decideBlocks_keeps_inactive {k : FaultKind} (hk : k ≠ .startRefused) (old : State) {s : State}
    (h : s.faultActive k = false) : (decideBlocks old s).faultActive k = false := by
  have hupkeep : (stopToCooldown (idleUpkeep (disagreeUpkeep (linkUpdate s)))).faultActive k = false := by
    refine faultInactive_of_active_subset (stopToCooldown_active_subset _) ?_
    rw [faultActive_of_fcl (idleUpkeep_fcl _)]
    refine faultInactive_of_active_subset (disagreeUpkeep_active_subset _) ?_
    rw [faultActive_of_fcl (linkUpdate_fcl s), h]
  unfold decideBlocks
  apply faultInactive_ite (faultInactive_of_active_subset (autostopTest_active_subset _))
  apply faultInactive_ite (faultInactive_of_active_subset (contention_active_subset _))
  apply faultInactive_ite (faultInactive_of_active_subset (grantTest_active_subset _))
  apply faultInactive_ite (faultInactive_of_active_subset (clashTest_active_subset _))
  exact faultInactive_ite (triggerTest_keeps_inactive hk) hupkeep

/-! ## Orders posted while ESTOP is not asserted (R75, R116) -/

/-- With ESTOP not asserted the front order of the list, if the slot is empty and there is one, is posted. -/
theorem pumpSequence_cases {s : State} (hestop : s.estop = false) :
    pumpSequence s = s ∨ ∃ o rest r, s.ssq.seqList = o :: rest ∧
      pumpSequence s = post .sequence r (notePosted o { s with ssq := { s.ssq with seqList := rest } }) := by
  have hkept (o : Order) (q : Ssq) : (notePosted o { s with ssq := q }).estop = false := by
    cases o <;> exact hestop
  unfold pumpSequence; split
  · split
    next o rest hl => exact Or.inr ⟨o, rest, _, hl, by simp only [hkept]; rfl⟩
    next => exact Or.inl rfl
  · exact Or.inl rfl

theorem pumpSequence_fcl {s : State} (hestop : s.estop = false) : (pumpSequence s).fcl = s.fcl := by
  rcases pumpSequence_cases hestop with h | ⟨o, rest, r, -, h⟩ <;> simp [h]

theorem pumpSequence_drive {s : State} (hestop : s.estop = false) : (pumpSequence s).drive = s.drive := by
  rcases pumpSequence_cases hestop with h | ⟨o, rest, r, -, h⟩
  · rw [h]
  · rw [h, drive_post, drive_notePosted]; rfl

@[simp] theorem abandonStep_fcl (s : State) : (abandonStep s).fcl = s.fcl := rfl

@[simp] theorem startUp_fcl (s : State) : (startUp s).fcl = s.fcl := by
  unfold startUp; simp only []; split <;> simp [endUpFirst, postSpeed]

@[simp] theorem startDown_fcl (s : State) : (startDown s).fcl = s.fcl := by
  unfold startDown; simp only []; split <;> simp [endDownFirst, postLoad]

@[simp] theorem startRetry_fcl (s : State) : (startRetry s).fcl = s.fcl := by
  unfold startRetry; simp only []; split <;> simp [endRetry, postSpeed]

@[simp] theorem stepTest_fcl (s : State) : (stepTest s).fcl = s.fcl := by
  unfold stepTest; repeat' split
  all_goals simp

theorem estop_pumpProtect (s : State) : (pumpProtect s).estop = s.estop := estop_of_outer (outer_pumpProtect s)

theorem postOrders_fcl (old : State) {s : State} (hestop : s.estop = false) : (postOrders old s).fcl = s.fcl := by
  have hpump : (pumpSequence (pumpProtect s)).fcl = s.fcl := by
    rw [pumpSequence_fcl (by rw [estop_pumpProtect, hestop]), pumpProtect_fcl]
  unfold postOrders; simp only []; split <;> simp [hpump]

theorem postOrders_drive (old : State) {s : State} (hestop : s.estop = false) : (postOrders old s).drive = s.drive := by
  have hpump : (pumpSequence (pumpProtect s)).drive = s.drive := by
    rw [pumpSequence_drive (by rw [estop_pumpProtect, hestop]), drive_pumpProtect]
  unfold postOrders; simp only []; split <;> simp [hpump]

/-- With ESTOP not asserted the blocks' reaction raises START_REFUSED at most. -/
theorem react_keeps_inactive {k : FaultKind} (hk : k ≠ .startRefused) (old : State) {s : State} (hestop : s.estop = false)
    (h : s.faultActive k = false) : (react old s).faultActive k = false := by
  have hdecided : (decideBlocks old s).estop = false := (estop_of_outer (outer_decideBlocks old s)).trans hestop
  rw [react, faultActive_of_fcl (postOrders_fcl old hdecided), decideBlocks_keeps_inactive hk old h]

/-! ## An engine at rest -/

/-- The engine stands where no test of the deciding blocks moves it: in SHUTDOWN, in LOCKED_OUT, or in STOPPED with a reason that
tests no autorestart trigger (R92, R94). -/
def AtRest (s : State) : Prop :=
  (s.ssq.engine = .stopped ∧ s.ssq.stopReason ≠ .auto) ∨ s.ssq.engine = .shutdown ∨ s.ssq.engine = .lockedOut

/-- What ESTOP holds down is at rest, but for STOPPED with reason AUTO. -/
theorem atRest_of_estop {s : State} (hfits : EstopFitsEngine s) (hestop : s.estop = true)
    (hauto : ¬ (s.ssq.engine = .stopped ∧ s.ssq.stopReason = .auto)) : AtRest s := by
  rcases hfits hestop with he | he
  · exact Or.inl ⟨he, fun hr => hauto ⟨he, hr⟩⟩
  · exact Or.inr he

theorem AtRest.of_ssq {s t : State} (h : t.ssq = s.ssq) (hs : AtRest s) : AtRest t := by
  unfold AtRest; rw [h]; exact hs

section
variable {s : State}

theorem AtRest.idleUpkeep_eq (h : AtRest s) : idleUpkeep s = s := by
  rcases h with ⟨he, -⟩ | he | he <;> simp [idleUpkeep, he]

theorem AtRest.stopToCooldown_eq (h : AtRest s) : stopToCooldown s = s := by
  rcases h with ⟨he, -⟩ | he | he <;> simp [stopToCooldown, he]

theorem AtRest.triggerTest_eq (h : AtRest s) : triggerTest s = s := by
  rcases h with ⟨-, hr⟩ | he | he
  · simp [triggerTest, hr]
  · simp [triggerTest, he]
  · simp [triggerTest, he]

theorem AtRest.clashTest_eq (h : AtRest s) : clashTest s = s := by
  rcases h with ⟨he, -⟩ | he | he <;> simp [clashTest, State.inClash, he]

theorem AtRest.grantTest_eq (h : AtRest s) : grantTest s = s := by
  rcases h with ⟨he, -⟩ | he | he <;> simp [grantTest, he]

theorem AtRest.contention_eq (h : AtRest s) : contention s = s := by
  have he : s.ssq.engine ≠ .cooldown := by rcases h with ⟨he, -⟩ | he | he <;> simp [he]
  unfold contention; split <;> simp [he]

theorem AtRest.autostopTest_eq (h : AtRest s) : autostopTest s = s := by
  rcases h with ⟨he, -⟩ | he | he <;> simp [autostopTest, he]

end

/-- With the engine at rest the deciding blocks follow the link and the demand alone. -/
theorem decideBlocks_of_atRest (old : State) {s : State} (h : AtRest s) :
    decideBlocks old s = disagreeUpkeep (linkUpdate s) := by
  have hrest : AtRest (disagreeUpkeep (linkUpdate s)) := h.of_ssq (by simp)
  simp [decideBlocks, hrest.idleUpkeep_eq, hrest.stopToCooldown_eq, hrest.triggerTest_eq, hrest.clashTest_eq,
    hrest.grantTest_eq, hrest.contention_eq, hrest.autostopTest_eq]

/-- With the engine at rest and ESTOP not asserted the blocks' reaction does not move the engine. -/
theorem react_engine_of_atRest (old : State) {s : State} (hestop : s.estop = false) (h : AtRest s) :
    (react old s).ssq.engine = s.ssq.engine := by
  have hdecided : (decideBlocks old s).estop = false := (estop_of_outer (outer_decideBlocks old s)).trans hestop
  rw [react, engine_of_drive (postOrders_drive old hdecided), decideBlocks_of_atRest old h, disagreeUpkeep_ssq,
    linkUpdate_ssq]

/-! ## The release (R96, R154, R156) -/

/-- The stability timer of a line stopped. -/
def stopStability (l : Line) (s : State) : State :=
  { s with lmn := { s.lmn with lines := s.lmn.lines.set l { s.lmn.lines.get l with timer := none } } }

@[simp] theorem stopStability_ssq (l : Line) (s : State) : (stopStability l s).ssq = s.ssq := rfl

@[simp] theorem stopStability_level (l : Line) (s : State) :
    ((stopStability l s).lmn.lines.get l).level = (s.lmn.lines.get l).level := by
  simp [stopStability]

/-- At the expiry of a line's stability timer a level that differs from the debounced one is taken (R154). -/
theorem exec_lineStabilityExpiry_of_ne {l : Line} {v : Bool} {s : State} (htimer : (s.lmn.lines.get l).timer.isSome = true)
    (hpin : s.pins.lines.get l = v) (hlevel : (s.lmn.lines.get l).level ≠ some v) :
    exec (.lineStabilityExpiry l) s = .next (react s (takeLevel l v (stopStability l s))) := by
  have hrunning : (s.lmn.lines.get l).timer.isNone = false := by simpa using htimer
  simp [exec, execLineStabilityExpiry, hrunning, hpin, hlevel, stopStability]

theorem takeLevel_estop_release {s : State} (h : (s.lmn.lines.get .estop).level = some true) :
    takeLevel .estop false s = estopRelease s := by
  simp [takeLevel, h]

/-- The level released and EMERGENCY_STOP cleared, before any trigger is tested. -/
def clearEstop (s : State) : State := clearFault .emergencyStop (setLevel .estop false s)

theorem estopRelease_eq (s : State) :
    estopRelease s = if s.ssq.engine = .stopped then triggerTest (clearEstop s) else clearEstop s := by
  simp [estopRelease, clearEstop]

@[simp] theorem clearEstop_ssq (s : State) : (clearEstop s).ssq = s.ssq := by simp [clearEstop]

theorem clearEstop_estop (s : State) : (clearEstop s).estop = false :=
  (estop_of_outer (outer_clearFault _ _)).trans (setLevel_estop_estop false s)

theorem estopRelease_of_stopped {s : State} (he : s.ssq.engine = .stopped) : estopRelease s = triggerTest (clearEstop s) := by
  rw [estopRelease_eq, if_pos he]

theorem estopRelease_of_not_auto {s : State} (hauto : ¬ (s.ssq.engine = .stopped ∧ s.ssq.stopReason = .auto)) :
    estopRelease s = clearEstop s := by
  rw [estopRelease_eq]
  split
  next he =>
    have hrest : AtRest s := Or.inl ⟨he, fun hr => hauto ⟨he, hr⟩⟩
    exact (hrest.of_ssq (clearEstop_ssq s)).triggerTest_eq
  next => rfl

theorem estopRelease_estop (s : State) : (estopRelease s).estop = false := by
  rw [estopRelease_eq]; split
  · rw [estop_of_outer (outer_triggerTest _), clearEstop_estop]
  · exact clearEstop_estop s

theorem estopRelease_emergencyStop (s : State) : (estopRelease s).faultActive .emergencyStop = false := by
  have hclear : (clearEstop s).faultActive .emergencyStop = false := faultActive_clearFault_same rfl _
  rw [estopRelease_eq]; split
  · exact triggerTest_keeps_inactive (by decide) hclear
  · exact hclear

/-- Settles O29: under ESTOP the request falls in its refusing branch and no order is added; at the release the reaction runs with
ESTOP not asserted, raises START_REFUSED at most, and finds an engine that ESTOP held at rest, but in STOPPED with reason AUTO. -/
theorem estopHoldsStartsAndOrders : Obligations.EstopHoldsStartsAndOrders := by
  refine ⟨fun s => startRequest_of_estop, fun s => triggerTest_of_estop, fun o s hestop => addSeq_of_estop hestop o,
    fun s htimer hlevel hpin => ?command, fun s => ⟨estopRelease_emergencyStop s, estopRelease_of_not_auto,
      fun he _ => estopRelease_of_stopped he⟩⟩
  case command =>
    have hestop := estopRelease_estop (stopStability .estop s)
    have hexec := exec_lineStabilityExpiry_of_ne htimer hpin (by simp [hlevel])
    rw [takeLevel_estop_release (by simpa using hlevel)] at hexec
    refine ⟨_, hexec, (estop_of_outer (outer_react _ _)).trans hestop,
      react_keeps_inactive (by decide) s hestop (estopRelease_emergencyStop _), fun hfits hauto => ?engine⟩
    case engine =>
      have hrelease : (estopRelease (stopStability .estop s)).ssq = s.ssq := by
        rw [estopRelease_of_not_auto (by simpa using hauto)]; simp
      have hrest : AtRest s := atRest_of_estop hfits (estop_iff.mpr hlevel) hauto
      rw [react_engine_of_atRest s hestop (hrest.of_ssq hrelease), hrelease]

end Sys2Proof.Machine
end

section
/-! The start of a step (R113 to R116): what a posted request leaves in its slot, what each kind of step puts in flight as it starts,
which kind a test of the step conditions starts, then O37. -/

namespace Sys2Proof.Machine

/-! ## A request posted in a slot (R130, R132) -/

@[simp] theorem grantSlot_nsp (c : Client) (s : State) : (grantSlot c s).nsp = s.nsp := by
  unfold grantSlot; split <;> rfl

/-- A grant moves a request from pending to in flight, and the slot still holds it. -/
@[simp] theorem grantSlot_request (c : Client) (s : State) :
    ((grantSlot c s).erc.slots.get c).request = (s.erc.slots.get c).request := by
  unfold grantSlot; split
  next r hpending => simp [hpending, Slot.request]
  next => rfl

@[simp] theorem post_nsp (c : Client) (r : Request) (s : State) : (post c r s).nsp = s.nsp := by
  unfold post; simp only []; split <;> simp

/-- Granted at once or not, the posted request stands in its slot. -/
theorem post_request (c : Client) (r : Request) (s : State) : ((post c r s).erc.slots.get c).request = some r := by
  have hset : ((setSlot c (.pending r) s).erc.slots.get c).request = some r := by simp [Slot.request]
  unfold post; simp only []; split
  · rw [grantSlot_request, hset]
  · exact hset

@[simp] theorem postSpeed_nsp (n : Nat) (s : State) : (postSpeed n s).nsp = s.nsp := post_nsp _ _ s

@[simp] theorem postLoad_nsp (n : Nat) (s : State) : (postLoad n s).nsp = s.nsp := post_nsp _ _ s

theorem postLoad_request (n : Nat) (s : State) :
    (postLoad n s).erc.slots.notch.request = some ⟨.setLoad, BitVec.ofNat 16 n, .nsp⟩ := post_request .notch _ s

/-! ## The step in flight as a step starts (R113 to R115)

Under ESTOP the post is refused at once (R138), and the step ends as it starts. -/

@[simp] theorem setStep_estop (st : Option Step) (s : State) : (setStep st s).estop = s.estop := rfl

theorem startUp_step (s : State) :
    (startUp s).nsp.step =
      if s.estop then none else some ⟨.up, s.nsp.completed, s.nsp.completed + 1, .first, false⟩ := by
  by_cases hestop : s.estop = true <;> simp [startUp, hestop, endUpFirst, abandonStep]

theorem startDown_step (s : State) :
    (startDown s).nsp.step =
      if s.estop then none else some ⟨.down, s.nsp.completed, s.nsp.completed - 1, .first, false⟩ := by
  by_cases hestop : s.estop = true <;> simp [startDown, hestop, endDownFirst, abandonStep]

theorem startRetry_step (s : State) :
    (startRetry s).nsp.step =
      if s.estop then none else some ⟨.retry, s.nsp.completed, s.nsp.completed, .second, false⟩ := by
  by_cases hestop : s.estop = true <;> simp [startRetry, hestop, endRetry]

/-- The order a down-step starts with, which the NOTCH slot holds while nothing refuses it (R114). -/
theorem startDown_request {s : State} (hestop : s.estop = false) :
    (startDown s).erc.slots.notch.request = some ⟨.setLoad, BitVec.ofNat 16 (s.nsp.completed - 1), .nsp⟩ := by
  simp [startDown, hestop, postLoad_request]

/-! ## The test of the step conditions (R116) -/

theorem downStepDue_iff {s : State} :
    s.downStepDue = true ↔ s.targetNotch < s.nsp.completed ∧ s.freeToStep = true ∧ s.dwellReached 1000 = true := by
  simp [State.downStepDue, and_assoc]

/-- A climb and a descent are never due together: the target is not on both sides of the completed notch. -/
theorem upStepDue_of_target_lt {s : State} (htarget : s.targetNotch < s.nsp.completed) : s.upStepDue = false := by
  simp [State.upStepDue, htarget.le]

/-- A test starts the kind of step that is due, or changes nothing. -/
theorem stepTest_cases (s : State) :
    (s.upStepDue = true ∧ stepTest s = startUp s) ∨ (s.downStepDue = true ∧ stepTest s = startDown s)
      ∨ (s.retryDue = true ∧ stepTest s = startRetry s)
      ∨ (s.upStepDue = false ∧ s.downStepDue = false ∧ s.retryDue = false ∧ stepTest s = s) := by
  cases hup : s.upStepDue with
  | true => exact Or.inl ⟨rfl, by simp [stepTest, hup]⟩
  | false =>
    cases hdown : s.downStepDue with
    | true => exact Or.inr (Or.inl ⟨rfl, by simp [stepTest, hup, hdown]⟩)
    | false => cases hretry : s.retryDue <;> simp [stepTest, hup, hdown, hretry]

theorem stepTest_of_downStepDue {s : State} (hdue : s.downStepDue = true) : stepTest s = startDown s := by
  obtain ⟨htarget, -, -⟩ := downStepDue_iff.mp hdue
  simp [stepTest, upStepDue_of_target_lt htarget, hdue]

/-- A test that puts a down-step in flight has found one due: the other two kinds go in another direction. -/
theorem downStepDue_of_stepTest_down {s : State} {x : Step} (hidle : s.nsp.step = none)
    (hstarted : (stepTest s).nsp.step = some x) (hdown : x.direction = .down) : s.downStepDue = true := by
  rcases stepTest_cases s with ⟨-, h⟩ | ⟨hdue, -⟩ | ⟨-, h⟩ | ⟨-, -, -, h⟩
  · rw [h, startUp_step, Option.ite_none_left_eq_some, Option.some.injEq] at hstarted
    obtain ⟨-, rfl⟩ := hstarted
    cases hdown
  · exact hdue
  · rw [h, startRetry_step, Option.ite_none_left_eq_some, Option.some.injEq] at hstarted
    obtain ⟨-, rfl⟩ := hstarted
    cases hdown
  · rw [h, hidle] at hstarted
    cases hstarted

/-! ## DWELL_CLOCK_REACHED (R116) -/

theorem dwellReached_iff {s : State} {ms : Nat} : s.dwellReached ms = true ↔ ∃ d, s.nsp.dwell = some d ∧ ms ≤ d := by
  unfold State.dwellReached; split
  next d hd => simp [hd]
  next hstopped => simp [hstopped]

/-- A clock that stands at the mark or above is left as it is. -/
theorem reachDwell_of_dwellReached {s : State} {ms : Nat} (hdwell : s.dwellReached ms = true) : reachDwell ms s = s := by
  obtain ⟨d, hd, hle⟩ := dwellReached_iff.mp hdwell
  have hclock : s.nsp.dwell.map (max ms) = s.nsp.dwell := by rw [hd, Option.map_some, max_eq_right hle]
  rw [reachDwell, hclock]

theorem exec_dwellClockReached_down_of_reached {s : State} (hdwell : s.dwellReached 1000 = true) :
    exec (.dwellClockReached .down) s = .next (stepTest s) := by
  obtain ⟨d, hd, -⟩ := dwellReached_iff.mp hdwell
  simp [exec, execDwellClockReached, State.dwellMark, hd, reachDwell_of_dwellReached hdwell]

/-- Settles O37: with the target below the completed notch no up-step is due, so the test starts the down-step, whose load order is
posted where ESTOP does not refuse it; and a test that starts a step in direction DOWN has found the three conditions of R114. -/
theorem downStepStartsWithTheLoad : Obligations.DownStepStartsWithTheLoad := by
  refine ⟨fun s htarget hfree hdwell hestop => ?starts, fun x s hidle hstarted hdown =>
    downStepDue_iff.mp (downStepDue_of_stepTest_down hidle hstarted hdown)⟩
  case starts =>
    have htest : stepTest s = startDown s := stepTest_of_downStepDue (downStepDue_iff.mpr ⟨htarget, hfree, hdwell⟩)
    refine ⟨?_, ?_, exec_dwellClockReached_down_of_reached hdwell⟩
    · rw [htest, startDown_step, hestop]; rfl
    · rw [htest, startDown_request hestop]

end Sys2Proof.Machine
end

section
/-! The alarm lamp and the active fault set (R165): each operation of the station changes the set by raises and by removals of kinds
other than DUPLICATE_POSITION alone, command by command, and only power-on reset empties it; then O58. -/

namespace Sys2Proof.Machine

/-! ## Edits of the active fault set -/

/-- The second list comes from `ks` by kinds raised (R159) and by removals that spare DUPLICATE_POSITION (R159, R161, R166). -/
inductive EditedFrom (ks : List FaultKind) : List FaultKind → Prop where
  | same : EditedFrom ks ks
  | raised {l : List FaultKind} (k : FaultKind) (h : EditedFrom ks l) : EditedFrom ks (addKind k l)
  | removed {l : List FaultKind} (keep : FaultKind → Bool) (hkeep : keep .duplicatePosition = true)
      (h : EditedFrom ks l) : EditedFrom ks (l.filter keep)

/-- The active fault set of a state comes from `ks` by such edits. -/
def FaultsEdited (ks : List FaultKind) (s : State) : Prop := EditedFrom ks s.fcl.active

/-- A command answers with a state whose active fault set comes from `ks` by such edits. -/
def AnswersEdited (ks : List FaultKind) (o : Answer) : Prop := ∃ t, o = .next t ∧ FaultsEdited ks t

/-- The kinds listed once each, in the order of their codes: `FaultSetListed`, said of the list alone. -/
def KindsListed (ks : List FaultKind) : Prop := ks = FaultKind.all.filter (fun k => ks.contains k)

theorem faultSetListed_iff {s : State} : FaultSetListed s ↔ KindsListed s.fcl.active := Iff.rfl

@[simp] theorem FaultKind.mem_all (k : FaultKind) : k ∈ FaultKind.all := by
  cases k with
  | deviceFailed d => cases d <;> decide
  | _ => decide

theorem FaultKind.all_nodup : FaultKind.all.Nodup := by decide

theorem KindsListed.nodup {ks : List FaultKind} (h : KindsListed ks) : ks.Nodup := by
  rw [h]; exact FaultKind.all_nodup.filter _

/-- Every choice among all kinds is listed. -/
theorem kindsListed_filter_all (keep : FaultKind → Bool) : KindsListed (FaultKind.all.filter keep) :=
  List.filter_congr fun k _ => by rw [Bool.eq_iff_iff]; simp

theorem kindsListed_addKind (k : FaultKind) (ks : List FaultKind) : KindsListed (addKind k ks) := kindsListed_filter_all _

theorem KindsListed.filter {ks : List FaultKind} (h : KindsListed ks) (keep : FaultKind → Bool) :
    KindsListed (ks.filter keep) := by
  rw [h, List.filter_filter]; exact kindsListed_filter_all _

theorem EditedFrom.kindsListed {ks l : List FaultKind} (h : EditedFrom ks l) (hks : KindsListed ks) : KindsListed l := by
  induction h with
  | same => exact hks
  | raised k => exact kindsListed_addKind k _
  | removed keep _ _ ih => exact ih.filter keep

theorem EditedFrom.duplicatePosition_mem {ks l : List FaultKind} (h : EditedFrom ks l)
    (hks : FaultKind.duplicatePosition ∈ ks) : FaultKind.duplicatePosition ∈ l := by
  induction h with
  | same => exact hks
  | raised k _ ih => simp [addKind, ih]
  | removed keep hkeep _ ih => exact List.mem_filter.mpr ⟨ih, hkeep⟩

theorem FaultsEdited.of_active {ks : List FaultKind} {s t : State} (hactive : t.fcl.active = s.fcl.active)
    (h : FaultsEdited ks s) : FaultsEdited ks t := by
  unfold FaultsEdited; rw [hactive]; exact h

theorem FaultsEdited.of_fcl {ks : List FaultKind} {s t : State} (h : FaultsEdited ks s) (hfcl : t.fcl = s.fcl) :
    FaultsEdited ks t :=
  h.of_active (congrArg Fcl.active hfcl)

/-- A choice between two operations edits the set if each of them does. -/
theorem edited_ite {ks : List FaultKind} {s t : State} {c : Prop} [Decidable c] (hs : FaultsEdited ks s)
    (ht : FaultsEdited ks t) : FaultsEdited ks (if c then s else t) := by
  split
  · exact hs
  · exact ht

/-! ## Operations that leave the Fault Collector as it is -/

@[simp] theorem withdraw_fcl (c : Client) (s : State) : (withdraw c s).fcl = s.fcl := by
  unfold withdraw; split <;> rfl

@[simp] theorem enterIdle_fcl (s : State) : (enterIdle s).fcl = s.fcl := by
  unfold enterIdle; simp only []; split <;> simp

@[simp] theorem endRestore_fcl (ok : Bool) (s : State) : (endRestore ok s).fcl = s.fcl := rfl

@[simp] theorem postSpeed_fcl (n : Nat) (s : State) : (postSpeed n s).fcl = s.fcl := post_fcl _ _ s

@[simp] theorem postLoad_fcl (n : Nat) (s : State) : (postLoad n s).fcl = s.fcl := post_fcl _ _ s

@[simp] theorem endUpSecond_fcl (st : Step) (ok : Bool) (s : State) : (endUpSecond st ok s).fcl = s.fcl := by
  unfold endUpSecond; simp only []; repeat' split
  all_goals simp

@[simp] theorem endUpFirst_fcl (st : Step) (ok : Bool) (s : State) : (endUpFirst st ok s).fcl = s.fcl := by
  unfold endUpFirst; simp only []; repeat' split
  all_goals simp

@[simp] theorem endDownSecond_fcl (st : Step) (ok : Bool) (s : State) : (endDownSecond st ok s).fcl = s.fcl := by
  unfold endDownSecond; simp only []; split <;> simp

@[simp] theorem endDownFirst_fcl (st : Step) (ok : Bool) (s : State) : (endDownFirst st ok s).fcl = s.fcl := by
  unfold endDownFirst; simp only []; repeat' split
  all_goals simp

@[simp] theorem endRetry_fcl (st : Step) (ok : Bool) (s : State) : (endRetry st ok s).fcl = s.fcl := by
  unfold endRetry; simp only []; split <;> simp

@[simp] theorem notchEnding_fcl (e : Ending) (s : State) : (notchEnding e s).fcl = s.fcl := by
  unfold notchEnding; repeat' split
  all_goals simp

@[simp] theorem urgentTest_fcl (s : State) : (urgentTest s).fcl = s.fcl := by
  unfold urgentTest; split <;> simp [urgentUnload]

@[simp] theorem protectiveSequence_fcl (stuck : Bool) (s : State) : (protectiveSequence stuck s).fcl = s.fcl :=
  withdraw_fcl .sequence s

@[simp] theorem unloadEnding_fcl (o : Order) (e : Ending) (s : State) : (unloadEnding o e s).fcl = s.fcl := by
  unfold unloadEnding; split <;> simp

@[simp] theorem nspDeviceFailed_fcl (d : Device) (s : State) : (nspDeviceFailed d s).fcl = s.fcl := by
  cases d <;> simp [nspDeviceFailed, stopDerateTimers]

@[simp] theorem updateDerates_fcl (s : State) : (updateDerates s).fcl = s.fcl := rfl

@[simp] theorem sensorsReturn_fcl (old s : State) : (sensorsReturn old s).fcl = s.fcl := by
  unfold sensorsReturn; split <;> simp

@[simp] theorem inhibitNotch_fcl (s : State) : (inhibitNotch s).fcl = s.fcl := by
  unfold inhibitNotch; split <;> simp

@[simp] theorem derateUrgent_fcl (old s : State) : (derateUrgent old s).fcl = s.fcl := by
  unfold derateUrgent; split <;> simp

@[simp] theorem refreshOwn_fcl (code : Option FaultKind) (s : State) : (refreshOwn code s).fcl = s.fcl := by
  unfold refreshOwn; split <;> simp

@[simp] theorem takeSnapshot_fcl (s : State) : (takeSnapshot s).fcl = s.fcl := by
  unfold takeSnapshot; split <;> rfl

@[simp] theorem leaveListening_fcl (s : State) : (leaveListening s).fcl = s.fcl := by
  unfold leaveListening; split <;> rfl

@[simp] theorem countListening_fcl (s : State) : (countListening s).fcl = s.fcl := by
  unfold countListening; simp only []; repeat' split
  all_goals simp

@[simp] theorem boundaryWork_fcl (s : State) : (boundaryWork s).fcl = s.fcl := by
  unfold boundaryWork; simp only []; split <;> simp

@[simp] theorem leaveChecking_fcl (s : State) : (leaveChecking s).fcl = s.fcl := by
  unfold leaveChecking; split <;> simp

@[simp] theorem rejectRecord_fcl (ws : List WireOctet) (s : State) : (rejectRecord ws s).fcl = s.fcl := by
  unfold rejectRecord; simp only []; repeat' split
  all_goals simp [countCheckError]

@[simp] theorem startSending_fcl (kind : RecordKind) (octets : List Byte) (s : State) :
    (startSending kind octets s).fcl = s.fcl := rfl

/-- A NOTICE composed takes its kind out of the notice-pending set, and leaves the active fault set. -/
@[simp] theorem sendRecord_active (deferred : Bool) (s : State) : (sendRecord deferred s).fcl.active = s.fcl.active := by
  unfold sendRecord; repeat' split
  · rfl
  · rfl
  all_goals simp [sendStatus]

section
variable {ks : List FaultKind} {s old : State} {k : FaultKind} {m n : EngineState} {reason : StopReason} {cause : Cause}
  {o : Order} {e : Ending} {t : Transaction} {d : Device} {health : Health} {p : Fin 8} {entry : Entry} {r : Record}
  {summary : Summary} {octets : List WireOctet} {busyUs us result sample : Nat} {injected level : Bool} {l : Line}
  {cond : Derate} {mark : DwellMark} {timer : Timer} {octet : Byte} {addr : BitVec 7} {act : State → State} {instr : Instr}
  (h : FaultsEdited ks s)
include h

/-! ## Fault Collector -/

theorem edited_raiseFault : FaultsEdited ks (raiseFault k s) := by
  unfold raiseFault; split
  · exact h
  · exact EditedFrom.raised k h

/-- A block's clear spares DUPLICATE_POSITION, which is latched (R159). -/
theorem edited_clearFault : FaultsEdited ks (clearFault k s) := by
  unfold clearFault; split
  next hself =>
    have hne : FaultKind.duplicatePosition ≠ k := by rintro rfl; cases hself
    exact EditedFrom.removed _ (decide_eq_true hne) h
  next => exact h

theorem edited_raiseCrankFail : FaultsEdited ks (raiseCrankFail cause s) :=
  (edited_raiseFault h (k := .crankFail)).of_active rfl

/-- A fault reset spares DUPLICATE_POSITION, which power-on reset alone ends (R166). -/
theorem edited_faultResetFaults : FaultsEdited ks (faultResetFaults s) := EditedFrom.removed _ rfl h

theorem edited_addSeq : FaultsEdited ks (addSeq o s) := h.of_fcl (addSeq_fcl o s)

/-! ## Entering a state -/

theorem edited_endWatch : FaultsEdited ks (endWatch s) := edited_clearFault (h.of_fcl rfl)

theorem edited_nspOnLeave : FaultsEdited ks (nspOnLeave m n s) := by
  unfold nspOnLeave; repeat' split
  · exact edited_endWatch (h.of_fcl rfl)
  · exact edited_endWatch (h.of_fcl (dropStep_fcl s))
  · exact edited_endWatch (h.of_fcl (dropStep_fcl s))
  · exact h

theorem edited_clearRefusal : FaultsEdited ks (clearRefusal n s) := edited_ite h (edited_clearFault h)

theorem edited_startRunning : FaultsEdited ks (startRunning n s) := h.of_fcl (startRunning_fcl n s)

theorem edited_enter : FaultsEdited ks (enter n s) :=
  edited_startRunning (edited_clearRefusal ((edited_nspOnLeave h).of_fcl rfl))

theorem edited_enter_withReason : FaultsEdited ks (setReason reason (enter n s)) :=
  (edited_enter h).of_fcl rfl

/-! ## Start Sequencer -/

theorem edited_startRequest : FaultsEdited ks (startRequest s) := by
  unfold startRequest; split
  · exact edited_ite (edited_enter h) (edited_raiseFault h)
  · exact edited_enter_withReason h
  · exact h

theorem edited_triggerTest : FaultsEdited ks (triggerTest s) := by
  unfold triggerTest; repeat' split
  · exact edited_startRequest h
  · exact edited_enter_withReason h
  · exact h
  · exact h

theorem edited_enterStopped : FaultsEdited ks (enterStopped s) := edited_triggerTest (edited_enter h)

theorem edited_shutdownEnd : FaultsEdited ks (shutdownEnd s) := edited_ite (edited_enter h) (edited_enterStopped h)

theorem edited_enterShutdown : FaultsEdited ks (enterShutdown s) :=
  edited_ite (edited_shutdownEnd (edited_enter h)) (edited_enter h)

theorem edited_enterIdleWarm : FaultsEdited ks (enterIdleWarm s) :=
  edited_ite (edited_enter (edited_enter h)) (edited_enter h)

theorem edited_protectiveShutdown : FaultsEdited ks (protectiveShutdown s) :=
  edited_enterShutdown (h.of_fcl (protectiveSequence_fcl false (clearFuel s)))

theorem edited_stall : FaultsEdited ks (stall s) := edited_protectiveShutdown (edited_raiseFault h)

theorem edited_starterStuck : FaultsEdited ks (starterStuck s) := by
  have hraised : FaultsEdited ks (protectiveSequence true (clearFuel (raiseFault .starterStuck s))) :=
    (edited_raiseFault h).of_fcl (protectiveSequence_fcl true _)
  exact edited_ite hraised (edited_enter hraised)

theorem edited_prelubeFail : FaultsEdited ks (prelubeFail s) := by
  have hraised : FaultsEdited ks (addSeq .stop (raiseFault .prelubeFail s)) := edited_addSeq (edited_raiseFault h)
  exact edited_enterStopped (hraised.of_fcl rfl)

theorem edited_enterCrankRest : FaultsEdited ks (enterCrankRest s) := (edited_enter h).of_fcl (addStopIfHeld_fcl _)

theorem edited_failedAttempt : FaultsEdited ks (failedAttempt cause s) := by
  have hcounted {u : State} (hu : FaultsEdited ks u) :
      FaultsEdited ks (raiseCrankFail cause (countAttempt cause (addStopIfHeld u))) := by
    have hstopped : FaultsEdited ks (addStopIfHeld u) := hu.of_fcl (addStopIfHeld_fcl u)
    exact edited_raiseCrankFail (hstopped.of_fcl rfl)
  have hfailed := hcounted (edited_ite (c := s.ssq.engine = .cranking) (edited_addSeq h (o := .disengage)) h)
  exact edited_ite (edited_enter (edited_raiseFault hfailed)) (edited_enterCrankRest hfailed)

theorem edited_stopToCooldown : FaultsEdited ks (stopToCooldown s) := edited_ite (edited_enter_withReason h) h

theorem edited_stopRequest : FaultsEdited ks (stopRequest s) := by
  have hreason {u : State} (hu : FaultsEdited ks u) : FaultsEdited ks (setReason .manual u) := hu.of_fcl rfl
  unfold stopRequest; split
  · exact hreason h
  · exact hreason h
  · exact hreason h
  · exact edited_enterStopped (hreason h)
  · exact edited_enterStopped (hreason h)
  · exact edited_enterStopped (hreason (edited_addSeq h))
  · exact edited_enterShutdown (hreason (edited_addSeq (edited_addSeq (edited_addSeq h))))
  · exact edited_enterShutdown (hreason (edited_addSeq h))
  · exact edited_enter_withReason h
  · exact edited_stopToCooldown (h.of_fcl rfl)
  · exact h

theorem edited_autostopTest : FaultsEdited ks (autostopTest s) := edited_ite (edited_enter_withReason h) h

theorem edited_contention : FaultsEdited ks (contention s) := by
  unfold contention; split
  · exact edited_ite (edited_enter_withReason h) h
  · exact h

theorem edited_ssqSag : FaultsEdited ks (ssqSag s) := edited_ite (edited_failedAttempt h) h

theorem edited_ssqSilence : FaultsEdited ks (ssqSilence s) := by
  unfold ssqSilence; split
  · exact h.of_fcl rfl
  · exact edited_ite (edited_enter h) h
  · exact edited_failedAttempt h
  · exact edited_stall h
  · exact edited_stall h
  · exact edited_stall h
  · exact edited_shutdownEnd h
  · exact h

theorem edited_ssqGate : FaultsEdited ks (ssqGate result s) := by
  unfold ssqGate; split
  · exact edited_ite (edited_ite (edited_ite (h.of_fcl rfl) h) (h.of_fcl rfl)) h
  · exact edited_ite (edited_enterIdleWarm (edited_addSeq h)) h
  · exact edited_ite (edited_stall h) h
  · exact edited_ite (edited_stall h) h
  · exact edited_ite (edited_stall h) h
  · exact h

theorem edited_ssqOverspeed : FaultsEdited ks (ssqOverspeed s) := by
  have hraised : FaultsEdited ks (raiseFault .overspeed s) := edited_raiseFault h
  unfold ssqOverspeed; simp only []; split
  · exact edited_enter (hraised.of_fcl rfl)
  · exact edited_enter (hraised.of_fcl rfl)
  · exact hraised.of_fcl rfl
  · exact hraised.of_fcl rfl
  · exact edited_protectiveShutdown (hraised.of_fcl rfl)

theorem edited_ssqSensorUpdate : FaultsEdited ks (ssqSensorUpdate s) :=
  edited_triggerTest (edited_autostopTest
    (edited_ite (edited_protectiveShutdown (edited_raiseFault h)) (edited_ite (edited_enter h) h)))

theorem edited_ssqDeviceFailed : FaultsEdited ks (ssqDeviceFailed d s) := by
  cases d with
  | governor => exact edited_ite h (edited_protectiveShutdown h)
  | starter => exact edited_ite (edited_starterStuck h) h
  | prelube => exact edited_ite (edited_prelubeFail h) h
  | load => exact h
  | sensors => exact h

theorem edited_oilOk : FaultsEdited ks (oilOk s) :=
  edited_ite (edited_protectiveShutdown h) (edited_addSeq (edited_enter h))

theorem edited_disengageAnswered : FaultsEdited ks (disengageAnswered e s) := by
  unfold disengageAnswered; split
  · exact h.of_fcl rfl
  · exact edited_starterStuck h
  · exact h

theorem edited_seqEnding : FaultsEdited ks (seqEnding o e s) := by
  unfold seqEnding; split
  · exact edited_ite (h.of_fcl rfl) h
  · split
    · exact edited_ite (edited_oilOk h) h
    · exact h
  · exact edited_ite (edited_ite (h.of_fcl rfl) (edited_failedAttempt h)) h
  · exact edited_ite (edited_addSeq h) (edited_disengageAnswered h)
  · exact h

theorem edited_protEnding : FaultsEdited ks (protEnding o e s) :=
  edited_ite (edited_ite (h.of_fcl rfl) (edited_disengageAnswered h)) (edited_seqEnding h)

/-! ## The reaction -/

theorem edited_pumpSequence : FaultsEdited ks (pumpSequence s) := by
  have hposted (o : Order) (q : Ssq) : FaultsEdited ks (notePosted o { s with ssq := q }) := h.of_fcl (notePosted_fcl o _)
  unfold pumpSequence; split
  · split
    next o rest _ => exact edited_ite (edited_seqEnding (hposted o _)) ((hposted o _).of_fcl (post_fcl _ _ _))
    next => exact h
  · exact h

theorem edited_grantTest : FaultsEdited ks (grantTest s) := edited_ite (edited_addSeq (edited_enter h)) h

theorem edited_yieldPermit : FaultsEdited ks (yieldPermit s) := by
  have hcounted : FaultsEdited ks (countYield s) := h.of_fcl rfl
  unfold yieldPermit; simp only []; split
  · exact edited_enter (edited_addSeq hcounted)
  · exact edited_enterCrankRest (edited_addSeq hcounted)
  · exact hcounted

theorem edited_clashTest : FaultsEdited ks (clashTest s) := edited_ite (edited_yieldPermit h) h

theorem edited_disagreeUpkeep : FaultsEdited ks (disagreeUpkeep s) :=
  edited_ite (edited_ite (h.of_fcl rfl) h) (edited_clearFault (h.of_fcl rfl))

theorem edited_decideBlocks : FaultsEdited ks (decideBlocks old s) := by
  have hfollowed : FaultsEdited ks (disagreeUpkeep (linkUpdate s)) := edited_disagreeUpkeep (h.of_fcl (linkUpdate_fcl s))
  have hsettled : FaultsEdited ks (stopToCooldown (idleUpkeep (disagreeUpkeep (linkUpdate s)))) :=
    edited_stopToCooldown (hfollowed.of_fcl (idleUpkeep_fcl _))
  have htested {b : Bool} {f : State → State} {u : State} (hf : FaultsEdited ks u → FaultsEdited ks (f u))
      (hu : FaultsEdited ks u) : FaultsEdited ks (if b then f u else u) := edited_ite (hf hu) hu
  unfold decideBlocks
  exact htested edited_autostopTest (htested edited_contention (htested edited_grantTest
    (htested edited_clashTest (htested edited_triggerTest hsettled))))

theorem edited_postOrders : FaultsEdited ks (postOrders old s) := by
  have hpumped : FaultsEdited ks (pumpSequence (pumpProtect s)) := edited_pumpSequence (h.of_fcl (pumpProtect_fcl s))
  exact edited_ite (hpumped.of_fcl (stepTest_fcl _)) hpumped

/-- The blocks' reaction to an event reaches the active fault set by raises and by the blocks' clears alone. -/
theorem edited_react : FaultsEdited ks (react old s) := edited_postOrders (edited_decideBlocks h)

/-! ## The consist link -/

theorem edited_refreshEntry : FaultsEdited ks (refreshEntry p entry s) :=
  edited_react (edited_clashTest (h.of_fcl rfl))

theorem edited_directRefresh : FaultsEdited ks (directRefresh r s) :=
  edited_refreshEntry (edited_ite (h.of_fcl rfl) h)

theorem edited_relayedRefresh : FaultsEdited ks (relayedRefresh p summary s) := by
  rcases relayedRefresh_cases p summary s with heq | heq <;> rw [heq]
  · exact h
  · exact edited_refreshEntry h

theorem edited_relayedRefreshes (ms : List Summary) : FaultsEdited ks (relayedRefreshes p ms s) := by
  induction ms generalizing s with
  | nil => exact h
  | cons m ms ih => exact ih (edited_relayedRefresh h)

theorem edited_handOn : FaultsEdited ks (handOn r s) := edited_relayedRefreshes (edited_directRefresh h) _

theorem edited_passZero : FaultsEdited ks (passZero s) :=
  edited_ite (h.of_fcl rfl) (edited_react (h.of_fcl (boundaryWork_fcl s)))

theorem edited_beginOwnWindow : FaultsEdited ks (beginOwnWindow s) :=
  edited_ite (edited_ite (h.of_fcl rfl) (h.of_active (sendRecord_active false s))) h

theorem edited_advanceWindow : FaultsEdited ks (advanceWindow s) := by
  have hset : FaultsEdited ks (setWindow (s.clc.windowIndex + 1) 0 s) := h.of_fcl rfl
  have hpassed := edited_ite (c := s.clc.windowIndex = 7) (edited_passZero hset) hset
  exact edited_ite (edited_beginOwnWindow hpassed) hpassed

theorem edited_checkSent : FaultsEdited ks (checkSent injected s) := by
  have hsent : FaultsEdited ks (countCheckSent injected (stopSending s)) := h.of_fcl rfl
  exact edited_ite (edited_react (hsent.of_fcl (leaveChecking_fcl _))) hsent

theorem edited_finishSending : FaultsEdited ks (finishSending s) := by
  rcases finishSending_cases s with heq | heq | ⟨injected, heq⟩ <;> rw [heq]
  · exact h
  · exact h.of_fcl rfl
  · exact edited_checkSent h

theorem edited_pairQuiet : FaultsEdited ks (pairQuiet s) := (edited_finishSending h).of_fcl rfl

theorem edited_expireWindow : FaultsEdited ks (expireWindow busyUs s) := by
  have hclosed : FaultsEdited ks (closeWindow s) := edited_ite (h.of_fcl rfl) (edited_finishSending h)
  exact edited_advanceWindow (hclosed.of_fcl rfl)

theorem edited_realign : FaultsEdited ks (realign p us s) := by
  have hcrossed {i : Fin 8} {u : State} (hu : FaultsEdited ks u) : FaultsEdited ks (crossZero i p u) :=
    edited_ite (edited_passZero hu) (edited_ite (hu.of_fcl rfl) hu)
  have hmissed {c d : Prop} [Decidable c] [Decidable d] :
      FaultsEdited ks (if c then countMissed (setTx .idle s) else if d then countMissed s else s) :=
    edited_ite (h.of_fcl rfl) (edited_ite (h.of_fcl rfl) h)
  unfold realign
  exact edited_ite (edited_advanceWindow (hcrossed (hmissed.of_fcl rfl))) (hcrossed (hmissed.of_fcl rfl))

theorem edited_duplicatePosition : FaultsEdited ks (duplicatePosition s) := by
  have hraised : FaultsEdited ks (raiseFault .duplicatePosition
      (mapCounters (fun c => { c with dupPositionSeen := sat16 c.dupPositionSeen }) s)) :=
    edited_raiseFault (h.of_fcl rfl)
  unfold duplicatePosition; simp only []; split
  · exact hraised.of_fcl rfl
  · exact hraised.of_fcl rfl

theorem edited_actOnRecord : FaultsEdited ks (actOnRecord r us s) := by
  have hgood : FaultsEdited ks (mapCounters (fun c => { c with recordsGood := sat16 c.recordsGood }) s) := h.of_fcl rfl
  have haligned := edited_ite (c := r.deferred = true) hgood (edited_realign hgood (p := r.origin) (us := us))
  unfold actOnRecord; simp only []; split
  · exact edited_ite (haligned.of_fcl rfl) haligned
  · exact edited_ite (edited_ite hgood (edited_react (edited_duplicatePosition hgood)))
      (edited_ite (haligned.of_fcl rfl) (edited_handOn haligned))

theorem edited_execCollision : AnswersEdited ks (execCollision s) := by
  refine ⟨_, rfl, ?_⟩
  split
  · split
    · exact h.of_active rfl
    · exact h.of_fcl rfl
  · exact h

theorem edited_execRecordTaken : AnswersEdited ks (execRecordTaken octets s) := by
  refine ⟨_, rfl, edited_ite h (edited_ite (edited_pairQuiet h) ?_)⟩
  split
  · exact edited_actOnRecord (edited_pairQuiet h)
  · exact (edited_pairQuiet h).of_fcl (rejectRecord_fcl octets _)

/-! ## The engine-room channel -/

theorem edited_becomeFailed : FaultsEdited ks (becomeFailed d s) := by
  have hfailed {u : State} (hu : FaultsEdited ks u) : FaultsEdited ks (nspDeviceFailed d (ssqDeviceFailed d u)) :=
    (edited_ssqDeviceFailed hu).of_fcl (nspDeviceFailed_fcl d _)
  exact edited_raiseFault (hfailed (edited_ite (h.of_fcl rfl) h))

theorem edited_changeHealth : FaultsEdited ks (changeHealth d health s) := by
  have hset : FaultsEdited ks (setHealth d health s) := h.of_fcl rfl
  exact edited_ite (edited_becomeFailed hset) (edited_ite (edited_clearFault hset) hset)

theorem edited_sensorsReturn : FaultsEdited ks (sensorsReturn old s) := h.of_fcl (sensorsReturn_fcl old s)

theorem edited_healthStep : FaultsEdited ks (healthStep t e s) := by
  have hchanged {c : Prop} [Decidable c] {u : State} (hu : FaultsEdited ks u) :
      FaultsEdited ks (if c then autostopTest u else u) := edited_ite (edited_autostopTest hu) hu
  unfold healthStep
  exact edited_ite (hchanged (edited_changeHealth h)) (edited_sensorsReturn (hchanged (edited_changeHealth h)))

theorem edited_sensorStep : FaultsEdited ks (sensorStep t e s) := by
  unfold sensorStep; split
  next d0 d1 d2 =>
    have hfilled : FaultsEdited ks
        { s with erc := { s.erc with sensor := ⟨temperatureOf d0, temperatureOf d1, d2.getLsbD 0, 0, .valid⟩ } } :=
      h.of_fcl rfl
    exact edited_ite ((edited_ssqSensorUpdate hfilled).of_fcl (updateDerates_fcl _)) h
  next => exact h

theorem edited_clientEnding : FaultsEdited ks (clientEnding t e s) := by
  have hemptied : FaultsEdited ks (setSlot t.client .empty s) := h.of_fcl rfl
  unfold clientEnding; simp only []; split
  · split
    · exact hemptied.of_fcl (unloadEnding_fcl _ _ _)
    · exact edited_protEnding hemptied
  · exact edited_seqEnding hemptied
  · exact hemptied.of_fcl (notchEnding_fcl _ _)
  · exact hemptied

theorem edited_transactionEnd : FaultsEdited ks (transactionEnd e s) := by
  unfold transactionEnd; split
  · exact h.of_fcl (enterIdle_fcl s)
  · exact (edited_react (edited_clientEnding (edited_sensorStep (edited_healthStep h)))).of_fcl (enterIdle_fcl _)

theorem edited_takeReply : FaultsEdited ks (takeReply octets s) := by
  unfold takeReply; repeat' split
  · exact h.of_fcl rfl
  · exact edited_transactionEnd h
  · exact h.of_fcl rfl
  · exact h.of_fcl rfl

/-! ## The command lines and the demand lines -/

theorem edited_ercFaultReset : FaultsEdited ks (ercFaultReset s) :=
  edited_sensorsReturn (edited_changeHealth (edited_changeHealth (edited_changeHealth (edited_changeHealth
    (edited_changeHealth h)))))

theorem edited_faultReset : FaultsEdited ks (faultReset s) := by
  have hended : FaultsEdited ks (faultResetFaults (ercFaultReset s)) := edited_faultResetFaults (edited_ercFaultReset h)
  exact edited_ite (edited_enterStopped (hended.of_fcl rfl)) hended

theorem edited_resetEdge : FaultsEdited ks (resetEdge s) :=
  edited_ite (edited_ssqSilence (edited_faultReset (h.of_fcl rfl))) (edited_faultReset h)

theorem edited_inhibitPending : FaultsEdited ks (inhibitPending s) := by
  have hsequence : FaultsEdited ks (inhibitSequence s) := by
    unfold inhibitSequence; split
    · exact edited_seqEnding (h.of_fcl rfl)
    · exact h
  exact (hsequence.of_fcl (inhibitNotch_fcl _)).of_fcl (withdraw_fcl .poll _)

theorem edited_ssqEstop : FaultsEdited ks (ssqEstop s) := by
  have hraised : FaultsEdited ks (raiseFault .emergencyStop s) := edited_raiseFault h
  unfold ssqEstop; simp only []; split
  · exact hraised.of_fcl rfl
  · exact hraised.of_fcl rfl
  · exact hraised.of_fcl (protectiveSequence_fcl false _)
  · exact edited_protectiveShutdown (hraised.of_fcl rfl)

theorem edited_estopAssertion : FaultsEdited ks (estopAssertion s) := by
  have hrefused : FaultsEdited ks (refuseFirst s) :=
    edited_ite (edited_ite (edited_inhibitPending (h.of_fcl rfl)) (h.of_fcl rfl)) h
  exact edited_inhibitPending (edited_ssqEstop (hrefused.of_fcl rfl))

theorem edited_estopRelease : FaultsEdited ks (estopRelease s) := by
  have hcleared : FaultsEdited ks (clearEstop s) := edited_clearFault (h.of_fcl rfl)
  exact edited_ite (edited_triggerTest hcleared) hcleared

theorem edited_takeLevel : FaultsEdited ks (takeLevel l level s) := by
  have hset {x : Line} : FaultsEdited ks (setLevel x level s) := h.of_fcl rfl
  cases l with
  | start => exact edited_ite (edited_startRequest hset) hset
  | stop => exact edited_ite (edited_stopRequest hset) hset
  | freset => exact edited_ite (edited_resetEdge hset) hset
  | estop => exact edited_ite (edited_estopAssertion h) (edited_ite (h.of_fcl rfl) (edited_estopRelease h))
  | runIso => exact edited_ite (hset.of_fcl (urgentTest_fcl _)) hset

theorem edited_takeDemand : FaultsEdited ks (takeDemand s) :=
  edited_ite (edited_clearFault (h.of_fcl rfl)) (edited_raiseFault (h.of_fcl rfl))

/-! ## The Notch Stepper's and the Start Sequencer's timers -/

theorem edited_applyDerate : FaultsEdited ks (applyDerate cond s) := by
  have hset : FaultsEdited ks (setDerate cond ⟨true, none, none⟩ s) := h.of_fcl rfl
  exact (edited_ite (edited_raiseFault hset) hset).of_fcl (derateUrgent_fcl s _)

theorem edited_releaseDerate : FaultsEdited ks (releaseDerate cond s) :=
  edited_ite (edited_clearFault (h.of_fcl rfl)) (h.of_fcl rfl)

theorem edited_execDwellClockReached : AnswersEdited ks (execDwellClockReached mark s) := by
  refine ⟨_, rfl, ?_⟩
  split
  · exact edited_ite h (h.of_fcl (stepTest_fcl _))
  · exact h

/-- A phase timer's expiry edits the set if what it acts as does. -/
theorem edited_phaseExpiry (hact : FaultsEdited ks (act s)) : FaultsEdited ks (phaseExpiry timer n act s) :=
  edited_ite (edited_react hact) h

theorem edited_prelubeTick : FaultsEdited ks (prelubeTick s) := edited_ite (h.of_fcl rfl) (edited_addSeq (h.of_fcl rfl))

theorem edited_turnCheck : FaultsEdited ks (turnCheck s) := edited_ite (edited_failedAttempt (h.of_fcl rfl)) (h.of_fcl rfl)

theorem edited_caught : FaultsEdited ks (caught s) := edited_enter (edited_addSeq (edited_addSeq h))

theorem edited_restOver : FaultsEdited ks (restOver s) := edited_ite (edited_enter (h.of_fcl rfl)) (h.of_fcl rfl)

theorem edited_idleOver : FaultsEdited ks (idleOver s) := edited_autostopTest (h.of_fcl rfl)

theorem edited_cooldownOver : FaultsEdited ks (cooldownOver s) :=
  edited_enterShutdown (h.of_fcl (addSeq_fcl .fuelOff s))

/-! ## Speed and battery -/

theorem edited_deliverGate : FaultsEdited ks (deliverGate result s) := by
  have hforced : FaultsEdited ks (ssqOverspeed (setForce true s)) := edited_ssqOverspeed (h.of_fcl rfl)
  exact edited_ite (hforced.of_fcl rfl) (edited_ssqGate h)

theorem edited_watchGate : FaultsEdited ks (watchGate result s) := by
  unfold watchGate; simp only []; split
  · exact edited_ite (edited_clearFault (edited_ite (h.of_fcl rfl) h)) (edited_ite (h.of_fcl rfl) h)
  · exact edited_ite (edited_clearFault h) h

theorem edited_detectSag : FaultsEdited ks (detectSag sample s) := by
  have hsag : FaultsEdited ks (takeSag s) := edited_ssqSag (edited_raiseFault (h.of_fcl rfl))
  have hrecovery : FaultsEdited ks (takeRecovery s) := edited_clearFault (h.of_fcl rfl)
  have hcount {m : Lmn} : FaultsEdited ks { s with lmn := m } := h.of_fcl rfl
  exact edited_ite (edited_ite (edited_ite hrecovery hcount) hcount) (edited_ite (edited_ite hsag hcount) hcount)

theorem edited_sampleEvent : FaultsEdited ks (sampleEvent sample s) := by
  have hsample : FaultsEdited ks { s with lmn := { s.lmn with sample := some sample, sampleTimer := some 10 } } :=
    h.of_fcl rfl
  exact edited_react (edited_autostopTest (edited_triggerTest (edited_grantTest (edited_detectSag hsample))))

/-! ## The maintenance port -/

theorem edited_addressed (hact : FaultsEdited ks (act (setAck true s))) : FaultsEdited ks (addressed addr act s) :=
  edited_ite hact (h.of_fcl rfl)

theorem edited_writeOctet : FaultsEdited ks (writeOctet octet s) := by
  unfold writeOctet; simp only []; split
  · exact h.of_fcl rfl
  · exact edited_react (h.of_fcl rfl)
  · exact h.of_fcl rfl

theorem edited_readOctet : FaultsEdited ks (readOctet s) := edited_ite (h.of_fcl rfl) (h.of_fcl rfl)

/-! ## Every command but power-on reset -/

theorem edited_exec (hc : instr ≠ .powerOnReset) : AnswersEdited ks (exec instr s) := by
  cases instr with
  | powerOnReset => exact absurd rfl hc
  | resetRelease p c f => exact ⟨_, rfl, edited_ite (edited_react (h.of_fcl rfl)) h⟩
  | windowTimerExpiry busyUs => exact ⟨_, rfl, edited_ite h (edited_expireWindow h)⟩
  | listeningEnd => exact ⟨_, rfl, edited_ite (edited_expireWindow (h.of_fcl rfl)) h⟩
  | deferredSend => exact ⟨_, rfl, edited_ite ((edited_pairQuiet h).of_active (sendRecord_active true _)) h⟩
  | deferralTimeout => exact ⟨_, rfl, edited_ite (h.of_fcl rfl) h⟩
  | collision => exact edited_execCollision h
  | checkRecordSent => exact ⟨_, rfl, edited_ite (edited_finishSending h) h⟩
  | lineCheckEnd => exact ⟨_, rfl, edited_ite (edited_finishSending h) h⟩
  | recordTaken octets => exact edited_execRecordTaken h
  | phantomHoldExpiry p => exact ⟨_, rfl, edited_ite (edited_react (h.of_fcl rfl)) h⟩
  | lineLevelChange l v => exact ⟨_, rfl, edited_ite h (edited_ite (h.of_fcl rfl) (h.of_fcl rfl))⟩
  | lineStabilityExpiry l =>
    exact ⟨_, rfl, edited_ite h (edited_ite (h.of_fcl rfl) (edited_react (edited_takeLevel (h.of_fcl rfl))))⟩
  | demandCodeChange code => exact ⟨_, rfl, edited_ite h (edited_ite (h.of_fcl rfl) (h.of_fcl rfl))⟩
  | demandStabilityExpiry => exact ⟨_, rfl, edited_ite h (edited_react (edited_takeDemand h))⟩
  | disagreementTimerExpiry => exact ⟨_, rfl, edited_ite h (edited_raiseFault (h.of_fcl rfl))⟩
  | derateApplyTimerExpiry c => exact ⟨_, rfl, edited_ite h (edited_react (edited_applyDerate h))⟩
  | derateReleaseTimerExpiry c => exact ⟨_, rfl, edited_ite h (edited_react (edited_releaseDerate h))⟩
  | dwellClockReached m => exact edited_execDwellClockReached h
  | abandonHoldExpiry => exact ⟨_, rfl, edited_ite h (h.of_fcl (stepTest_fcl _))⟩
  | deviationWatchExpiry => exact ⟨_, rfl, edited_ite h (edited_raiseFault (h.of_fcl rfl))⟩
  | prelubeTick => exact ⟨_, rfl, edited_phaseExpiry h (edited_prelubeTick h)⟩
  | prelubeTimerExpiry => exact ⟨_, rfl, edited_phaseExpiry h (edited_prelubeFail h)⟩
  | turnCheckExpiry => exact ⟨_, rfl, edited_phaseExpiry h (edited_turnCheck h)⟩
  | crankTimerExpiry => exact ⟨_, rfl, edited_phaseExpiry h (edited_failedAttempt h)⟩
  | firingHoldExpiry => exact ⟨_, rfl, edited_phaseExpiry h (edited_caught h)⟩
  | restTimerExpiry => exact ⟨_, rfl, edited_phaseExpiry h (edited_restOver h)⟩
  | firingTimerExpiry => exact ⟨_, rfl, edited_phaseExpiry h (edited_failedAttempt h)⟩
  | warmUpTimerExpiry => exact ⟨_, rfl, edited_phaseExpiry h (edited_enter h)⟩
  | autostopIdleTimerExpiry => exact ⟨_, rfl, edited_phaseExpiry h (edited_idleOver h)⟩
  | cooldownTimerExpiry => exact ⟨_, rfl, edited_phaseExpiry h (edited_cooldownOver h)⟩
  | sendingEnd => exact ⟨_, rfl, edited_ite (h.of_fcl rfl) h⟩
  | replyTaken octets => exact ⟨_, rfl, edited_ite h (edited_ite (edited_takeReply (h.of_fcl rfl)) (h.of_fcl rfl))⟩
  | replyTimeout => exact ⟨_, rfl, edited_ite (edited_transactionEnd (h.of_fcl rfl)) h⟩
  | pollTimerExpiry => exact ⟨_, rfl, edited_ite h (edited_ite (h.of_fcl (post_fcl _ _ _)) (h.of_fcl rfl))⟩
  | speedPulse sinceCounted => exact ⟨_, rfl, edited_ite (h.of_fcl rfl) h⟩
  | gateEnd => exact ⟨_, rfl, edited_ite h (edited_react (edited_watchGate (edited_deliverGate (h.of_fcl rfl))))⟩
  | silenceTimerExpiry => exact ⟨_, rfl, edited_ite h (edited_react (edited_ssqSilence (h.of_fcl rfl)))⟩
  | batterySample milliVolts => exact ⟨_, rfl, edited_ite h (edited_sampleEvent h)⟩
  | sagEvent => exact ⟨_, rfl, edited_ite (edited_sampleEvent (h.of_fcl rfl)) h⟩
  | sagRecovery => exact ⟨_, rfl, edited_ite (edited_sampleEvent (h.of_fcl rfl)) h⟩
  | crankFailHoldExpiry => exact ⟨_, rfl, edited_ite h (EditedFrom.removed _ rfl h)⟩
  | configTimerExpiry => exact ⟨_, rfl, edited_ite (edited_react (h.of_fcl rfl)) h⟩
  | portPointerSet addr v => exact ⟨_, rfl, edited_addressed h (h.of_fcl rfl)⟩
  | overrideWrite addr v => exact ⟨_, rfl, edited_addressed h (edited_writeOctet (h.of_fcl rfl))⟩
  | commitWrite addr => exact ⟨_, rfl, edited_addressed h (edited_writeOctet (h.of_fcl rfl))⟩
  | writeRefused addr v => exact ⟨_, rfl, edited_addressed h (edited_writeOctet (h.of_fcl rfl))⟩
  | coherentEntryRead addr => exact ⟨_, rfl, edited_addressed h (edited_readOctet (h.of_fcl rfl))⟩
  | counterLatchRead addr => exact ⟨_, rfl, edited_addressed h (edited_readOctet (h.of_fcl rfl))⟩
  | portOctetRead addr => exact ⟨_, rfl, edited_addressed h (edited_readOctet (h.of_fcl rfl))⟩

end

/-- Every command but power-on reset changes the active fault set by raises and by removals that spare DUPLICATE_POSITION. -/
theorem exec_edits {c : Instr} {s t : State} (hc : c ≠ .powerOnReset) (hexec : exec c s = .next t) :
    EditedFrom s.fcl.active t.fcl.active := by
  obtain ⟨u, hu, hedited⟩ := edited_exec (ks := s.fcl.active) (s := s) EditedFrom.same hc
  rw [hu] at hexec
  cases hexec
  exact hedited

/-! ## The set in every step -/

theorem faultSetListed_of_active_nil {s : State} (h : s.fcl.active = []) : FaultSetListed s := by
  simp [FaultSetListed, h]

theorem exec_keeps_faultSetListed {c : Instr} {s t : State} (hs : FaultSetListed s) (hexec : exec c s = .next t) :
    FaultSetListed t := by
  by_cases hc : c = .powerOnReset
  · subst hc
    cases hexec
    exact faultSetListed_of_active_nil rfl
  · exact (exec_edits hc hexec).kindsListed hs

/-- A millisecond leaves the active fault set: of the Fault Collector it moves CRANK_FAIL's hold timer alone. -/
theorem tick_active (s : State) : (tick s).fcl.active = s.fcl.active := by
  unfold tick; split <;> rfl

theorem step_keeps_faultSetListed {s t : State} (hs : FaultSetListed s) (hstep : step s = .next t) : FaultSetListed t := by
  unfold step at hstep
  split at hstep
  · cases hstep
    rw [faultSetListed_iff, tick_active]
    exact hs
  next c rest _ => exact exec_keeps_faultSetListed (s := { s with pending := rest }) hs hstep

/-! ## The lamp (R165) -/

theorem FaultKind.latched_iff {k : FaultKind} : k.latched = true ↔
    k = .duplicatePosition ∨ k = .crankLockout ∨ k = .starterStuck ∨ k = .overspeed ∨ k = .oilLow ∨ k = .prelubeFail
      ∨ k = .stall := by
  cases k <;> simp [FaultKind.latched, FaultKind.lockout]

theorem alarmLamp_iff {s : State} : s.alarmLamp = true ↔ ∃ k ∈ s.fcl.active, k.latched = true := List.any_eq_true

theorem alarmLamp_of_faultActive {s : State} {k : FaultKind} (hk : s.faultActive k = true) (hlatched : k.latched = true) :
    s.alarmLamp = true :=
  alarmLamp_iff.mpr ⟨k, List.contains_iff_mem.mp hk, hlatched⟩

theorem alarmLamp_out_of_inactive {s : State} (h : ∀ k : FaultKind, k.latched = true → s.faultActive k = false) :
    s.alarmLamp = false :=
  List.any_eq_false.mpr fun k hk hlatched =>
    Bool.eq_false_iff.mp (h k hlatched) (List.contains_iff_mem.mpr hk)

theorem resetRelease_estop (straps : Straps) : (release straps State.reset).estop = false := rfl

theorem exec_resetRelease_of_inReset {s : State} (hreset : s.inReset = true) (p : BitVec 3) (c f : BitVec 2) :
    exec (.resetRelease p c f) s = .next (react s (release ⟨p.toFin, c.toFin, f.toFin⟩ s)) :=
  congrArg Host.Outcome.next (if_pos hreset)

/-- The blocks' reaction to the reset release finds no fault and raises START_REFUSED at most, which is not latched. -/
theorem resetRelease_alarmLamp (straps : Straps) :
    (react State.reset (release straps State.reset)).alarmLamp = false :=
  alarmLamp_out_of_inactive fun _ hlatched =>
    react_keeps_inactive (by rintro rfl; cases hlatched) State.reset (resetRelease_estop straps) rfl

/-- Settles O58: every command but power-on reset edits the set by raises, which list it anew, and by removals that spare
DUPLICATE_POSITION; power-on reset empties it, and the release from reset raises no latched kind. -/
theorem alarmLampShowsTheLatchedKinds : Obligations.AlarmLampShowsTheLatchedKinds := by
  refine ⟨fun s t => step_keeps_faultSetListed, fun s hs => KindsListed.nodup hs, fun s => ?lit,
    fun s => ⟨_, rfl, rfl, rfl⟩, fun p c f => ⟨_, exec_resetRelease_of_inReset rfl p c f, resetRelease_alarmLamp _⟩,
    fun c s t hc hdup hexec => ?kept⟩
  case lit => simp only [alarmLamp_iff, FaultKind.latched_iff]
  case kept =>
    have hmem := (exec_edits hc hexec).duplicatePosition_mem (List.contains_iff_mem.mp hdup)
    have hactive : t.faultActive .duplicatePosition = true := List.contains_iff_mem.mpr hmem
    exact ⟨hactive, alarmLamp_of_faultActive hactive rfl⟩

end Sys2Proof.Machine
end

section
/-! The override buffer (R168): what a data octet at the port does where it is kept and where it is refused, the buffer's octets in
the status window, and what the commit and a fault reset leave of it, then O50. -/

namespace Sys2Proof.Machine

/-! ## A data octet at the port (R168, R171, R172) -/

theorem addressed_of_answers {s : State} {addr : BitVec 7} (haddr : s.answers addr = true) (act : State → State) :
    addressed addr act s = act (setAck true s) :=
  if_pos haddr

theorem exec_overrideWrite_of_answers {s : State} {addr : BitVec 7} (haddr : s.answers addr = true) (v : Byte) :
    exec (.overrideWrite addr v) s = .next (writeOctet v (setAck true s)) := by
  rw [← addressed_of_answers haddr (writeOctet v)]; rfl

/-- In 0x08 to 0x17, while OPEN, an octet is kept, at the buffer index counted from 0x08 (R168). -/
theorem writeKind_eq_keep {s : State} {i : Fin 16} (hopen : s.mpt.commitState = .opened)
    (hpointer : s.mpt.pointer.toNat = 0x08 + i.val) (v : Byte) : s.writeKind v = .keep i := by
  have hlow : 0x08 ≤ 0x08 + i.val := by omega
  have hhigh : 0x08 + i.val ≤ 0x17 := by omega
  have hindex : Fin.ofNat 16 (0x08 + i.val - 0x08) = i := by simp
  rw [State.writeKind, hpointer, if_pos hopen, if_pos ⟨hlow, hhigh⟩, hindex]

/-- Once no longer OPEN, every octet is refused, wherever the pointer stands (R172). -/
theorem writeKind_eq_refuse {s : State} (hopen : s.mpt.commitState ≠ .opened) (v : Byte) : s.writeKind v = .refuse :=
  if_neg hopen

theorem writeOctet_of_keep {s : State} {v : Byte} {i : Fin 16} (hkind : s.writeKind v = .keep i) :
    writeOctet v s = keepOctet i v (bumpPointer s) := by
  simp only [writeOctet, hkind]

theorem writeOctet_of_refuse {s : State} {v : Byte} (hkind : s.writeKind v = .refuse) :
    writeOctet v s = refuseOctet (bumpPointer s) := by
  simp only [writeOctet, hkind]

/-! ## The override buffer in the status window (section 11.5, R177) -/

theorem identityRegion_length (s : State) : s.identityRegion.length = 8 := rfl

theorem configRegion_length (s : State) : s.configRegion.length = 24 := by simp [State.configRegion]

/-- The buffer's sixteen octets come first in their region. -/
theorem configRegion_getD_buffer (s : State) (i : Fin 16) : s.configRegion.getD i.val 0 = s.mpt.buffer[i].toNat := by
  have hbuffer : i.val < (s.mpt.buffer.toList.map BitVec.toNat).length := by simp
  rw [State.configRegion, List.getD_append _ _ _ _ hbuffer, List.getD_eq_getElem _ _ hbuffer]
  simp

/-- The buffer stands from 0x08 on, behind the eight octets of the straps and the configuration. -/
theorem lowRegion_getD_buffer (s : State) (i : Fin 16) :
    s.lowRegion.getD (0x08 + i.val) 0 = s.mpt.buffer[i].toNat := by
  have hidentity : s.identityRegion.length ≤ 0x08 + i.val := by rw [identityRegion_length]; omega
  have hconfig : i.val < s.configRegion.length := by rw [configRegion_length]; omega
  simp only [State.lowRegion, List.append_assoc]
  rw [List.getD_append_right _ _ _ _ hidentity, identityRegion_length, Nat.add_sub_cancel_left,
    List.getD_append _ _ _ _ hconfig, configRegion_getD_buffer]

theorem windowOctet_buffer (s : State) (i : Fin 16) :
    s.windowOctet (BitVec.ofNat 8 (0x08 + i.val)) = s.mpt.buffer[i] := by
  have hoffset : (BitVec.ofNat 8 (0x08 + i.val)).toNat = 0x08 + i.val := by
    rw [BitVec.toNat_ofNat]; omega
  have hlow : 0x08 + i.val < 0x40 := by omega
  rw [State.windowOctet, hoffset, if_pos hlow, lowRegion_getD_buffer, byteOf, BitVec.ofNat_toNat, BitVec.setWidth_eq]

/-! ## What leaves the override buffer as it was (R166, R170) -/

@[simp] theorem commit_buffer (cause : CommitCause) (s : State) : (commit cause s).mpt.buffer = s.mpt.buffer := rfl

@[simp] theorem faultReset_mpt (s : State) : (faultReset s).mpt = s.mpt :=
  congrArg Outer.mpt (outer_faultReset s)

/-- Settles O50: a data octet's kind is read off the commit state and the pointer, the window shows the buffer behind the eight
octets of the configuration, and a fault reset stays inside the deciding blocks. -/
theorem overrideBufferHoldsTheLastOctets : Obligations.OverrideBufferHoldsTheLastOctets := by
  refine ⟨⟨rfl, rfl⟩, fun addr v i s haddr hopen hpointer => ⟨_, exec_overrideWrite_of_answers haddr v, ?kept⟩,
    fun i s => windowOctet_buffer s i, commit_buffer,
    fun addr v cause s haddr hcommitted => ⟨_, exec_overrideWrite_of_answers haddr v, ?refused⟩, fun s => ?faultReset⟩
  case kept =>
    have hkind : (setAck true s).writeKind v = .keep i := writeKind_eq_keep hopen hpointer v
    rw [writeOctet_of_keep hkind]; rfl
  case refused =>
    have hopen : (setAck true s).mpt.commitState ≠ .opened := fun hopen => nomatch hcommitted.symm.trans hopen
    rw [writeOctet_of_refuse (writeKind_eq_refuse hopen v)]; rfl
  case faultReset => simp

end Sys2Proof.Machine
end

section
/-! The moves of the deciding blocks: each shared operation of SSQ, NSP, CPA and the reaction is a chain of a few kinds of change,
with the guards under which it makes them. What every kind of change keeps, every operation keeps. -/

namespace Sys2Proof.Machine

/-! ## The kinds of change -/

/-- The kinds that the Start Sequencer's operations raise, apart from CRANK_FAIL (R78, R80, R83, R86, R97 to R99). -/
def FaultKind.ofSequencer : FaultKind → Bool
  | .crankLockout | .starterStuck | .overspeed | .oilLow | .prelubeFail | .stall | .startRefused => true
  | _ => false

/-- The kinds that the deciding blocks clear (R80, R106, R121). -/
def FaultKind.ofUpkeep : FaultKind → Bool
  | .startRefused | .speedDeviation | .demandDisagree => true
  | _ => false

/-- The engine states in which ESTOP holds the engine (R96). -/
def EngineState.down : EngineState → Bool
  | .stopped | .shutdown | .lockedOut => true
  | _ => false

/-- The guards under which the shared operations enter an engine state: PRELUBE with the permit, CRANKING from PRELUBE, and under
ESTOP nothing but another down state from a down one. -/
structure MayEnter (n : EngineState) (s : State) : Prop where
  prelube : n = .prelube → s.ssq.engine = .claiming ∧ s.permitConditions = true
  cranking : n = .cranking → s.ssq.engine = .prelube
  up : s.ssq.engine.down = true → s.estop = true → n.down = true

/-- One change by a shared operation of the deciding blocks. -/
inductive Move : State → State → Prop where
  | raise (k : FaultKind) (s : State) (hk : k.ofSequencer = true) : Move s (raiseFault k s)
  | crankFail (c : Cause) (s : State) : Move s (raiseCrankFail c s)
  | clear (k : FaultKind) (s : State) (hk : k.ofUpkeep = true) : Move s (clearFault k s)
  | ssq (q : Ssq) (s : State) (hengine : q.engine = s.ssq.engine)
      (hfuel : q.fuelOrder = true → s.ssq.fuelOrder = true ∨ s.ssq.engine = .cranking) : Move s { s with ssq := q }
  | nsp (n : Nsp) (s : State) (hreading : n.reading = s.nsp.reading) (htimer : n.demandTimer = s.nsp.demandTimer)
      (hderates : n.derates = s.nsp.derates) : Move s { s with nsp := n }
  | withdraw (c : Client) (s : State) : Move s (withdraw c s)
  | post (c : Client) (r : Request) (s : State) (hempty : (s.erc.slots.get c).isEmpty = true) : Move s (post c r s)
  | link (s : State) (hold : s.clc.linkState = .joined ∨ s.clc.linkState = .alone) : Move s (setLink s.joinedOrAlone s)
  | yields (s : State) : Move s (countYield s)
  | enter (n : EngineState) (q : Ssq) (s : State) (hengine : q.engine = n)
      (hfuel : q.fuelOrder = (s.ssq.fuelOrder && n.keepsFuel)) (hmay : MayEnter n s) :
      Move s { s with ssq := q, cpa := { s.cpa with claim := claimOnEnter s.ssq.engine n s.cpa.claim } }

/-- A chain of changes by shared operations of the deciding blocks. -/
def Moves : State → State → Prop := Relation.ReflTransGen Move

theorem Moves.refl (s : State) : Moves s s := Relation.ReflTransGen.refl

theorem Moves.trans {a b c : State} (hab : Moves a b) (hbc : Moves b c) : Moves a c := Relation.ReflTransGen.trans hab hbc

theorem Moves.step {a s t : State} (h : Moves a s) (hmove : Move s t) : Moves a t := Relation.ReflTransGen.tail h hmove

/-- What every kind of change keeps, a chain of them keeps. -/
theorem Moves.keeps {P : State → Prop} (hP : ∀ s t, Move s t → P s → P t) {s t : State} (h : Moves s t) (hs : P s) : P t := by
  induction h with
  | refl => exact hs
  | tail _ hmove ih => exact hP _ _ hmove ih

/-- What no kind of change touches, no chain of them touches. -/
theorem Moves.same {α : Type} {f : State → α} (hf : ∀ s t, Move s t → f t = f s) {s t : State} (h : Moves s t) : f t = f s :=
  h.keeps (P := fun u => f u = f s) (fun _ _ hmove hs => (hf _ _ hmove).trans hs) rfl

theorem MayEnter.of_down {n : EngineState} {s : State} (hn : n.down = true) : MayEnter n s where
  prelube h := by subst h; cases hn
  cranking h := by subst h; cases hn
  up _ _ := hn

/-- From an engine that is not down any state but PRELUBE and CRANKING may be entered. -/
theorem MayEnter.of_up {n : EngineState} {s : State} (hs : s.ssq.engine.down = false) (hp : n ≠ .prelube) (hc : n ≠ .cranking) :
    MayEnter n s where
  prelube h := absurd h hp
  cranking h := absurd h hc
  up h := absurd h (by simp [hs])

section
variable {a s : State} {k : FaultKind} {cause : Cause} {o : Order} {e : Ending} {n m : EngineState} {st : Step} {ok b : Bool}
  {i : Nat} {d : Device} {reason : StopReason} {old : State} (h : Moves a s)
include h

theorem moves_ite {t : State} {c : Prop} [Decidable c] (ht : Moves a t) : Moves a (if c then t else s) := by
  split
  · exact ht
  · exact h

theorem moves_raise (hk : k.ofSequencer = true) : Moves a (raiseFault k s) := h.step (.raise k s hk)

theorem moves_clear (hk : k.ofUpkeep = true) : Moves a (clearFault k s) := h.step (.clear k s hk)

theorem moves_withdraw (c : Client) : Moves a (withdraw c s) := h.step (.withdraw c s)

theorem moves_post {c : Client} (r : Request) (hempty : (s.erc.slots.get c).isEmpty = true) : Moves a (post c r s) :=
  h.step (.post c r s hempty)

/-- An update of SSQ that moves neither the engine nor the fuel order. -/
theorem moves_ssq (q : Ssq) (hdrive : (q.engine, q.fuelOrder) = (s.ssq.engine, s.ssq.fuelOrder)) : Moves a { s with ssq := q } :=
  h.step (.ssq q s (congrArg Prod.fst hdrive) fun hq => Or.inl ((congrArg Prod.snd hdrive).symm.trans hq))

/-- An update of NSP outside demand and derate conditions. -/
theorem moves_nsp (v : Nsp) (hdemands : (v.reading, v.demandTimer, v.derates) = (s.nsp.reading, s.nsp.demandTimer, s.nsp.derates)) :
    Moves a { s with nsp := v } :=
  h.step (.nsp v s (congrArg Prod.fst hdemands) (congrArg (fun x => x.2.1) hdemands) (congrArg (fun x => x.2.2) hdemands))

theorem moves_setReason : Moves a (setReason reason s) := moves_ssq h _ (by rfl)

theorem moves_clearFuel : Moves a (clearFuel s) := h.step (.ssq _ s rfl fun hf => nomatch hf)

theorem moves_addSeq : Moves a (addSeq o s) := by
  unfold addSeq; split
  · exact h
  · cases o <;> exact moves_ssq h _ (by rfl)

theorem moves_addStopIfHeld : Moves a (addStopIfHeld s) := moves_ite h (moves_addSeq h)

theorem moves_notePosted : Moves a (notePosted o s) := by
  cases o <;> first | exact h | exact moves_ssq h _ (by rfl)

/-! ## Entering a state -/

theorem moves_dropStep : Moves a (dropStep s) := moves_nsp (moves_withdraw h .notch) _ (by rfl)

theorem moves_endWatch : Moves a (endWatch s) := moves_clear (moves_nsp h _ (by rfl)) (by rfl)

theorem moves_nspOnLeave : Moves a (nspOnLeave m n s) := by
  unfold nspOnLeave; split
  · split
    · exact moves_endWatch (moves_nsp h _ (by rfl))
    · exact moves_endWatch (moves_nsp (moves_dropStep h) _ (by rfl))
  · exact moves_ite h (moves_endWatch (moves_nsp (moves_dropStep h) _ (by rfl)))

theorem moves_idleUpkeep : Moves a (idleUpkeep s) := by
  unfold idleUpkeep; repeat' split
  all_goals first | exact h | exact moves_ssq h _ (by rfl)

theorem moves_clearRefusal : Moves a (clearRefusal n s) := by
  unfold clearRefusal; split
  · exact h
  · exact moves_clear h rfl

theorem moves_startRunning : Moves a (startRunning n s) := moves_ite h (moves_idleUpkeep (moves_nsp h _ (by rfl)))

end

/-- Only an engine in RUNNING or COOLDOWN has the Notch Stepper's part in leaving a state. -/
theorem nspOnLeave_of_ne {m n : EngineState} {s : State} (hr : m ≠ .running) (hc : m ≠ .cooldown) : nspOnLeave m n s = s := by
  simp [nspOnLeave, hr, hc]

section
variable {a s : State} {k : FaultKind} {cause : Cause} {o : Order} {e : Ending} {n m : EngineState} {st : Step} {ok b : Bool}
  {i : Nat} {d : Device} {reason : StopReason} {old : State}

/-- The guards are read before the Notch Stepper's part in leaving, which leaves what they read. -/
theorem MayEnter.nspOnLeave (hmay : MayEnter n s) : MayEnter n (nspOnLeave s.ssq.engine n s) := by
  have hengine : (Machine.nspOnLeave s.ssq.engine n s).ssq.engine = s.ssq.engine := engine_of_drive (drive_nspOnLeave _ _ s)
  have hestop : (Machine.nspOnLeave s.ssq.engine n s).estop = s.estop := estop_of_outer (outer_nspOnLeave _ _ s)
  refine ⟨fun hn => ?_, fun hn => hengine.trans (hmay.cranking hn), fun hd he => hmay.up (hengine ▸ hd) (hestop ▸ he)⟩
  obtain ⟨hc, hp⟩ := hmay.prelube hn
  rw [nspOnLeave_of_ne (by simp [hc]) (by simp [hc])]
  exact ⟨hc, hp⟩

theorem startTimers_fuelOrder (q : Ssq) : (Ssq.startTimers n q.stopTimers).fuelOrder = q.fuelOrder := by cases n <;> rfl

theorem moves_enter (h : Moves a s) (hmay : MayEnter n s) : Moves a (enter n s) := by
  have hleft : Moves a (nspOnLeave s.ssq.engine n s) := moves_nspOnLeave h
  have hengine : (nspOnLeave s.ssq.engine n s).ssq.engine = s.ssq.engine := engine_of_drive (drive_nspOnLeave _ _ s)
  unfold enter
  refine moves_startRunning (moves_clearRefusal ?_)
  have hmove := Move.enter n { Ssq.startTimers n (nspOnLeave s.ssq.engine n s).ssq.stopTimers with
    engine := n, fuelOrder := (Ssq.startTimers n (nspOnLeave s.ssq.engine n s).ssq.stopTimers).fuelOrder && n.keepsFuel,
    stopInProgress := false } (nspOnLeave s.ssq.engine n s) rfl (by simp only [startTimers_fuelOrder]) hmay.nspOnLeave
  rw [hengine] at hmove
  exact hleft.step hmove

/-- An entry to STOPPED, SHUTDOWN or LOCKED_OUT. -/
theorem moves_enterDown (h : Moves a s) (hn : n.down = true) : Moves a (enter n s) := moves_enter h (.of_down hn)

theorem moves_enterUp (h : Moves a s) (hs : s.ssq.engine.down = false) (hp : n ≠ .prelube) (hc : n ≠ .cranking) :
    Moves a (enter n s) :=
  moves_enter h (.of_up hs hp hc)

end
end Sys2Proof.Machine
end

section
/-! The moves of the Start Sequencer's operations, of the steps, and of the reaction: each is a chain of the changes of `Move`. -/

namespace Sys2Proof.Machine

/-! ## What keeps the engine, ESTOP and the slots -/

theorem engine_addSeq (o : Order) (s : State) : (addSeq o s).ssq.engine = s.ssq.engine := engine_of_drive (drive_addSeq o s)

theorem engine_addStopIfHeld (s : State) : (addStopIfHeld s).ssq.engine = s.ssq.engine := engine_of_drive (drive_addStopIfHeld s)

theorem engine_raiseFault (k : FaultKind) (s : State) : (raiseFault k s).ssq.engine = s.ssq.engine :=
  engine_of_drive (drive_raiseFault k s)

theorem engine_raiseCrankFail (c : Cause) (s : State) : (raiseCrankFail c s).ssq.engine = s.ssq.engine :=
  engine_of_drive (drive_raiseCrankFail c s)

theorem ite_engine {c : Prop} [Decidable c] {s t : State} (ht : t.ssq.engine = s.ssq.engine) :
    (if c then t else s).ssq.engine = s.ssq.engine := by
  split
  · exact ht
  · rfl

@[simp] theorem withdraw_ssq (c : Client) (s : State) : (withdraw c s).ssq = s.ssq := by
  unfold withdraw; split <;> rfl

section
variable {a s : State} {k : FaultKind} {cause : Cause} {o : Order} {e : Ending} {n m : EngineState} {st : Step} {ok b : Bool}
  {i : Nat} {d : Device} {reason : StopReason} {old : State}

/-! ## Start Sequencer -/

section
variable (h : Moves a s)
include h

theorem moves_startRequest : Moves a (startRequest s) := by
  unfold startRequest; split
  next he =>
    split
    next hc =>
      have hestop : s.estop = false := by simp only [Bool.and_eq_true, Bool.not_eq_true'] at hc; exact hc.2
      refine moves_enter h ⟨by simp, by simp, fun _ h' => absurd h' (by simp [hestop])⟩
    next => exact moves_raise h rfl
  next he => exact moves_setReason (moves_enterUp h (by rw [he]; rfl) (by decide) (by decide))
  next => exact h

theorem moves_triggerTest : Moves a (triggerTest s) := by
  unfold triggerTest; split
  · split
    next => exact moves_startRequest h
    next he => exact moves_setReason (moves_enterUp h (by rw [he]; rfl) (by decide) (by decide))
    next => exact h
  · exact h

theorem moves_enterStopped : Moves a (enterStopped s) := moves_triggerTest (moves_enterDown h rfl)

theorem moves_shutdownEnd : Moves a (shutdownEnd s) := moves_ite (moves_enterStopped h) (moves_enterDown h rfl)

theorem moves_enterShutdown : Moves a (enterShutdown s) :=
  moves_ite (moves_enterDown h rfl) (moves_shutdownEnd (moves_enterDown h rfl))

theorem moves_protectiveSequence : Moves a (protectiveSequence b s) := by
  have hw := moves_withdraw h .sequence
  exact moves_nsp (moves_ssq hw { (withdraw .sequence s).ssq with
    seqList := [], protList := s.protectiveList b
    releasePending := (withdraw .sequence s).ssq.releasePending || (s.protectiveList b).contains .disengage } (by rfl))
    { (withdraw .sequence s).nsp with urgentList := [] } (by rfl)

theorem moves_protectiveShutdown : Moves a (protectiveShutdown s) :=
  moves_enterShutdown (moves_setReason (moves_protectiveSequence (moves_clearFuel h)))

theorem moves_stall : Moves a (stall s) := moves_protectiveShutdown (moves_raise h rfl)

theorem moves_starterStuck : Moves a (starterStuck s) := by
  have hp : Moves a (protectiveSequence true (clearFuel (raiseFault .starterStuck s))) :=
    moves_protectiveSequence (moves_clearFuel (moves_raise h rfl))
  unfold starterStuck; simp only []; split
  · exact hp
  · exact moves_enterDown hp rfl

theorem moves_prelubeFail : Moves a (prelubeFail s) :=
  moves_enterStopped (moves_setReason (moves_addSeq (moves_raise h rfl)))

theorem moves_countAttempt : Moves a (countAttempt cause s) := moves_ssq h _ (by rfl)

theorem moves_raiseCrankFail : Moves a (raiseCrankFail cause s) := h.step (.crankFail cause s)

theorem moves_enterCrankRest (hs : s.ssq.engine.down = false) : Moves a (enterCrankRest s) :=
  moves_addStopIfHeld (moves_enterUp h hs (by decide) (by decide))

theorem moves_failedAttempt (hs : s.ssq.engine.down = false) : Moves a (failedAttempt cause s) := by
  have hordered : Moves a (if s.ssq.engine = .cranking then addSeq .disengage s else s) := moves_ite h (moves_addSeq h)
  have hengine : (if s.ssq.engine = .cranking then addSeq .disengage s else s).ssq.engine = s.ssq.engine :=
    ite_engine (engine_addSeq _ s)
  unfold failedAttempt; simp only []
  generalize (if s.ssq.engine = .cranking then addSeq .disengage s else s) = u at hordered hengine
  have hcounted : Moves a (raiseCrankFail cause (countAttempt cause (addStopIfHeld u))) :=
    moves_raiseCrankFail (moves_countAttempt (moves_addStopIfHeld hordered))
  have hcountedEngine : (raiseCrankFail cause (countAttempt cause (addStopIfHeld u))).ssq.engine = s.ssq.engine :=
    (engine_raiseCrankFail _ _).trans ((engine_addStopIfHeld u).trans hengine)
  split
  · exact moves_enterDown (moves_raise hcounted rfl) rfl
  · exact moves_enterCrankRest hcounted (by rw [hcountedEngine, hs])

theorem moves_stopToCooldown : Moves a (stopToCooldown s) := by
  rcases stopToCooldown_cases s with hc | hc
  · rw [hc]; exact h
  · by_cases he : s.ssq.engine = .running
    · rw [hc]; exact moves_setReason (moves_enterUp h (by rw [he]; rfl) (by decide) (by decide))
    · have hsame : stopToCooldown s = s := by simp [stopToCooldown, he]
      rw [hsame]; exact h

theorem moves_stopRequest : Moves a (stopRequest s) := by
  unfold stopRequest; split
  · exact moves_setReason h
  · exact moves_setReason h
  · exact moves_setReason h
  · exact moves_enterStopped (moves_setReason h)
  · exact moves_enterStopped (moves_setReason h)
  · exact moves_enterStopped (moves_setReason (moves_addSeq h))
  · exact moves_enterShutdown (moves_setReason (moves_addSeq (moves_addSeq (moves_addSeq h))))
  · exact moves_enterShutdown (moves_setReason (moves_addSeq h))
  next he => exact moves_setReason (moves_enterUp h (by rw [he]; rfl) (by decide) (by decide))
  · exact moves_stopToCooldown (moves_ssq h _ (by rfl))
  · exact h

theorem moves_autostopTest : Moves a (autostopTest s) := by
  unfold autostopTest; split
  next hc =>
    have he : s.ssq.engine = .running := by simp only [Bool.and_eq_true, decide_eq_true_eq] at hc; exact hc.1.1
    exact moves_setReason (moves_enterUp h (by rw [he]; rfl) (by decide) (by decide))
  next => exact h

theorem moves_contention : Moves a (contention s) := by
  unfold contention; split
  next =>
    split
    next hc =>
      have he : s.ssq.engine = .cooldown := by simp only [Bool.and_eq_true, decide_eq_true_eq] at hc; exact hc.1.1
      exact moves_setReason (moves_enterUp h (by rw [he]; rfl) (by decide) (by decide))
    next => exact h
  next => exact h

theorem moves_ssqSag : Moves a (ssqSag s) := by
  unfold ssqSag; split
  next he => exact moves_failedAttempt h (by rw [he]; rfl)
  next => exact h

theorem moves_ssqSilence : Moves a (ssqSilence s) := by
  unfold ssqSilence; split
  next => exact moves_ssq h _ (by rfl)
  next he => exact moves_ite h (moves_enterUp h (by rw [he]; rfl) (by decide) (by decide))
  next he => exact moves_failedAttempt h (by rw [he]; rfl)
  next => exact moves_stall h
  next => exact moves_stall h
  next => exact moves_stall h
  next => exact moves_shutdownEnd h
  next => exact h

theorem moves_enterIdleWarm (hs : s.ssq.engine.down = false) : Moves a (enterIdleWarm s) := by
  have hentered : Moves a (enter .idleWarm s) := moves_enterUp h hs (by decide) (by decide)
  exact moves_ite hentered (moves_enterUp hentered (by rw [engine_enter]; rfl) (by decide) (by decide))

theorem moves_ssqGate : Moves a (ssqGate i s) := by
  unfold ssqGate; split
  next => exact moves_ite h (moves_ite (moves_ssq h _ (by rfl)) (moves_ite h (moves_ssq h _ (by rfl))))
  next he => exact moves_ite h (moves_enterIdleWarm (moves_addSeq h) (by rw [engine_addSeq, he]; rfl))
  next => exact moves_ite h (moves_stall h)
  next => exact moves_ite h (moves_stall h)
  next => exact moves_ite h (moves_stall h)
  next => exact h

theorem moves_ssqOverspeed : Moves a (ssqOverspeed s) := by
  have hmarked : Moves a { raiseFault .overspeed s with ssq := { (raiseFault .overspeed s).ssq with overspeedMark := true } } :=
    moves_ssq (moves_raise h rfl) _ (by rfl)
  unfold ssqOverspeed; simp only []; split
  · exact moves_enterDown (moves_setReason hmarked) rfl
  · exact moves_enterDown (moves_setReason hmarked) rfl
  · exact hmarked
  · exact hmarked
  · exact moves_protectiveShutdown hmarked

theorem moves_ssqSensorUpdate : Moves a (ssqSensorUpdate s) := by
  unfold ssqSensorUpdate; simp only []
  refine moves_triggerTest (moves_autostopTest ?_)
  split
  · exact moves_protectiveShutdown (moves_raise h rfl)
  · split
    next hc =>
      have he : s.ssq.engine = .idleWarm := by simp only [Bool.and_eq_true, decide_eq_true_eq] at hc; exact hc.1
      exact moves_enterUp h (by rw [he]; rfl) (by decide) (by decide)
    next => exact h

theorem moves_ssqDeviceFailed : Moves a (ssqDeviceFailed d s) := by
  cases d with
  | governor => exact moves_ite (moves_protectiveShutdown h) h
  | starter => exact moves_ite h (moves_starterStuck h)
  | prelube => exact moves_ite h (moves_prelubeFail h)
  | load => exact h
  | sensors => exact h

theorem moves_oilOk (he : s.ssq.engine = .prelube) : Moves a (oilOk s) := by
  have hmay : MayEnter .cranking s := ⟨by simp, fun _ => he, fun hd => absurd hd (by rw [he]; simp [EngineState.down])⟩
  exact moves_ite (moves_addSeq (moves_enter h hmay)) (moves_protectiveShutdown h)

theorem moves_engageAccepted (he : s.ssq.engine = .cranking) : Moves a (engageAccepted s) :=
  h.step (.ssq _ s rfl fun _ => Or.inr he)

theorem moves_disengageAnswered : Moves a (disengageAnswered e s) := by
  unfold disengageAnswered; split
  · exact moves_ssq h _ (by rfl)
  · exact moves_starterStuck h
  · exact h

theorem moves_seqEnding : Moves a (seqEnding o e s) := by
  unfold seqEnding; split
  next => exact moves_ite h (moves_ssq h _ (by rfl))
  next =>
    split
    next =>
      split
      next hc => exact moves_oilOk h (by simp only [Bool.and_eq_true, decide_eq_true_eq] at hc; exact hc.2)
      next => exact h
    next => exact h
  next =>
    split
    next he => exact moves_ite (moves_failedAttempt h (by rw [he]; rfl)) (moves_engageAccepted h he)
    next => exact h
  next => exact moves_ite (moves_disengageAnswered h) (moves_addSeq h)
  next => exact h

theorem moves_protEnding : Moves a (protEnding o e s) :=
  moves_ite (moves_seqEnding h) (moves_ite (moves_disengageAnswered h) (moves_ssq h _ (by rfl)))

theorem moves_unloadEnding : Moves a (unloadEnding o e s) := moves_ite h (moves_nsp h _ (by rfl))

/-! ## Steps -/

theorem moves_setStep (x : Option Step) : Moves a (setStep x s) := moves_nsp h _ (by rfl)

theorem moves_endRestore : Moves a (endRestore ok s) := moves_nsp h _ (by rfl)

theorem moves_abandonStep : Moves a (abandonStep s) := moves_nsp h _ (by rfl)

theorem moves_endUpSecond (hs : (s.erc.slots.get .notch).isEmpty = true) : Moves a (endUpSecond st ok s) := by
  unfold endUpSecond; simp only []; split
  · exact moves_nsp h _ (by rfl)
  · split
    · exact moves_endRestore (moves_setStep h _)
    · exact moves_post (moves_setStep h _) _ hs

theorem moves_endUpFirst (hs : (s.erc.slots.get .notch).isEmpty = true) : Moves a (endUpFirst st ok s) := by
  have hset (x : Option Step) : Moves a (setStep x (setOwed false s)) := moves_nsp h _ (by rfl)
  unfold endUpFirst; simp only []; split
  · split
    · exact moves_endUpSecond (hset _) hs
    · exact moves_post (hset _) _ hs
  · exact moves_abandonStep h

theorem moves_endDownSecond : Moves a (endDownSecond st ok s) :=
  moves_ite (moves_nsp h _ (by rfl)) (moves_nsp h _ (by rfl))

theorem moves_endDownFirst (hs : (s.erc.slots.get .notch).isEmpty = true) : Moves a (endDownFirst st ok s) := by
  unfold endDownFirst; simp only []; split
  · split
    · exact moves_endDownSecond (moves_setStep h _)
    · exact moves_post (moves_setStep h _) _ hs
  · exact moves_abandonStep h

theorem moves_endRetry : Moves a (endRetry st ok s) := moves_ite (moves_nsp h _ (by rfl)) (moves_nsp h _ (by rfl))

theorem moves_notchEnding (hs : (s.erc.slots.get .notch).isEmpty = true) : Moves a (notchEnding e s) := by
  unfold notchEnding; split
  · exact h
  · split
    · exact moves_endUpFirst h hs
    · exact moves_ite (moves_endUpSecond h hs) (moves_endRestore h)
    · exact moves_endDownFirst h hs
    · exact moves_endDownSecond h
    · exact moves_endRetry h

theorem moves_startUp (hs : (s.erc.slots.get .notch).isEmpty = true) : Moves a (startUp s) := by
  unfold startUp; simp only []; split
  · exact moves_endUpFirst (moves_setStep h _) hs
  · exact moves_post (moves_setStep h _) _ hs

theorem moves_startDown (hs : (s.erc.slots.get .notch).isEmpty = true) : Moves a (startDown s) := by
  unfold startDown; simp only []; split
  · exact moves_endDownFirst (moves_setStep h _) hs
  · exact moves_post (moves_setStep h _) _ hs

theorem moves_startRetry (hs : (s.erc.slots.get .notch).isEmpty = true) : Moves a (startRetry s) := by
  unfold startRetry; simp only []; split
  · exact moves_endRetry (moves_setStep h _)
  · exact moves_post (moves_setStep h _) _ hs

omit h in
/-- NSP is free to step only with its slot empty (R112). -/
theorem notch_empty_of_freeToStep (hfree : s.freeToStep = true) : (s.erc.slots.get .notch).isEmpty = true := by
  simp only [State.freeToStep, Bool.and_eq_true] at hfree
  exact hfree.1.1.2

theorem moves_stepTest : Moves a (stepTest s) := by
  unfold stepTest; split
  next hup =>
    simp only [State.upStepDue, Bool.and_eq_true] at hup
    exact moves_startUp h (notch_empty_of_freeToStep hup.1.1.1.1.1.2)
  next =>
    split
    next hdown => exact moves_startDown h (notch_empty_of_freeToStep (downStepDue_iff.mp hdown).2.1)
    next =>
      split
      next hretry =>
        simp only [State.retryDue, Bool.and_eq_true] at hretry
        exact moves_startRetry h (notch_empty_of_freeToStep hretry.1.2)
      next => exact h

theorem moves_urgentTest : Moves a (urgentTest s) := moves_ite h (moves_nsp (moves_dropStep h) _ (by rfl))

/-! ## The reaction -/

theorem moves_pumpProtect : Moves a (pumpProtect s) := by
  unfold pumpProtect; split
  next hempty =>
    split
    next o rest _ =>
      refine moves_post (moves_notePosted (moves_ssq h { s.ssq with protList := rest } (by rfl))) _ ?_
      cases o <;> exact hempty
    next =>
      split
      · exact moves_post (moves_nsp h _ (by rfl)) _ (by exact hempty)
      · exact h
  next => exact h

theorem moves_pumpSequence : Moves a (pumpSequence s) := by
  unfold pumpSequence; split
  next hempty =>
    split
    next o rest _ =>
      have hposted : Moves a (notePosted o { s with ssq := { s.ssq with seqList := rest } }) :=
        moves_notePosted (moves_ssq h _ (by rfl))
      simp only []; split
      · exact moves_seqEnding hposted
      · refine moves_post hposted _ ?_
        cases o <;> exact hempty
    next => exact h
  next => exact h

theorem moves_linkUpdate : Moves a (linkUpdate s) := by
  unfold linkUpdate; split
  next hl => exact h.step (.link s (Or.inl hl))
  next hl => exact h.step (.link s (Or.inr hl))
  next => exact h

theorem moves_disagreeUpkeep : Moves a (disagreeUpkeep s) :=
  moves_ite (moves_clear (moves_nsp h _ (by rfl)) (by rfl)) (moves_ite h (moves_nsp h _ (by rfl)))

theorem moves_grantTest : Moves a (grantTest s) := by
  unfold grantTest; split
  next hc =>
    simp only [Bool.and_eq_true, decide_eq_true_eq] at hc
    have hmay : MayEnter .prelube s := ⟨fun _ => hc, by simp, fun hd => absurd hd (by rw [hc.1]; simp [EngineState.down])⟩
    exact moves_addSeq (moves_enter h hmay)
  next => exact h

theorem moves_clashTest : Moves a (clashTest s) := by
  have hcounted : Moves a (countYield s) := h.step (.yields s)
  have hengine (x : Order) : (addSeq x (countYield s)).ssq.engine = s.ssq.engine := engine_addSeq x _
  unfold clashTest; split
  next hc =>
    simp only [State.inClash, Bool.and_eq_true, Bool.or_eq_true, decide_eq_true_eq] at hc
    rcases hc.1.1 with he | he
    · rw [yieldPermit_of_prelube he]
      exact moves_enterUp (moves_addSeq hcounted) (by rw [hengine, he]; rfl) (by decide) (by decide)
    · rw [yieldPermit_of_cranking he]
      exact moves_enterCrankRest (moves_addSeq hcounted) (by rw [hengine, he]; rfl)
  next => exact h

omit h in
/-- The deciding blocks' changes, from the link state as updated. -/
theorem moves_decideBlocks_of_linked (h : Moves a (linkUpdate s)) : Moves a (decideBlocks old s) := by
  have hupkeep := moves_stopToCooldown (moves_idleUpkeep (moves_disagreeUpkeep h))
  have htriggers := moves_ite (c := triggerTrigger old (stopToCooldown (idleUpkeep (disagreeUpkeep (linkUpdate s)))) = true)
    hupkeep (moves_triggerTest hupkeep)
  unfold decideBlocks; simp only []
  refine moves_ite ?_ (moves_autostopTest ?_) <;> refine moves_ite ?_ (moves_contention ?_) <;>
    refine moves_ite ?_ (moves_grantTest ?_) <;> refine moves_ite ?_ (moves_clashTest ?_) <;> exact htriggers

theorem moves_decideBlocks : Moves a (decideBlocks old s) := moves_decideBlocks_of_linked (moves_linkUpdate h)

theorem moves_postOrders : Moves a (postOrders old s) :=
  have hpumped := moves_pumpSequence (moves_pumpProtect h)
  moves_ite hpumped (moves_stepTest hpumped)

/-- The blocks' reaction to an event is a chain of their shared operations' changes. -/
theorem moves_react : Moves a (react old s) := moves_postOrders (moves_decideBlocks h)

end
end
end Sys2Proof.Machine
end

section
/-! The acts of the link: the commands of the cycle, of sending and of the records taken are chains of the deciding blocks' changes
and of a few changes of CLC, table, holds, claim and notices. -/

namespace Sys2Proof.Machine

/-- One change that a command of the link makes. -/
inductive LinkAct : State → State → Prop where
  | move {s t : State} (h : Move s t) : LinkAct s t
  | clc (c : Clc) (s : State) (hlink : c.linkState = s.clc.linkState) : LinkAct s { s with clc := c }
  | leave (l : LinkState) (s : State) (hold : s.clc.linkState = .listening ∨ s.clc.linkState = .checking) (hnew : l ≠ .config) :
      LinkAct s (setLink l s)
  | silence (s : State) (hcommitted : s.mpt.committed.isSome = true) : LinkAct s (setLink .silenced s)
  | table (v : PerPosition Entry) (s : State) : LinkAct s { s with table := v }
  | holds (v : PerPosition Timer) (s : State) : LinkAct s { s with cpa := { s.cpa with holds := v } }
  | claim (f : Nat → Nat) (s : State) (hsettled : ∀ n, 3 ≤ n → 3 ≤ f n) :
      LinkAct s { s with cpa := { s.cpa with claim := s.cpa.claim.map f } }
  | free (s : State) : LinkAct s (useFree s)
  | duplicate (s : State) : LinkAct s (raiseFault .duplicatePosition s)
  | published (s : State) : LinkAct s { s with fcl := { s.fcl with notices := s.fcl.notices.tail } }

/-- A chain of the link's acts. -/
def Links : State → State → Prop := Relation.ReflTransGen LinkAct

theorem Links.refl (s : State) : Links s s := Relation.ReflTransGen.refl

theorem Links.step {a s t : State} (h : Links a s) (hact : LinkAct s t) : Links a t := Relation.ReflTransGen.tail h hact

theorem Links.moves {a s t : State} (h : Links a s) (hmoves : Moves s t) : Links a t := by
  induction hmoves with
  | refl => exact h
  | tail _ hmove ih => exact ih.step (.move hmove)

/-- What every kind of act keeps, a chain of them keeps. -/
theorem Links.keeps {P : State → Prop} (hP : ∀ s t, LinkAct s t → P s → P t) {s t : State} (h : Links s t) (hs : P s) : P t := by
  induction h with
  | refl => exact hs
  | tail _ hact ih => exact hP _ _ hact ih

section
variable {a s old : State} {b : Bool} {i : Nat} {p : Fin 8} {r : Record} {ws : List WireOctet} (h : Links a s)
include h

theorem link_ite {t : State} {c : Prop} [Decidable c] (ht : Links a t) : Links a (if c then t else s) := by
  split
  · exact ht
  · exact h

theorem link_react : Links a (react old s) := h.moves (moves_react (.refl s))

theorem link_clc (c : Clc) (hlink : c.linkState = s.clc.linkState) : Links a { s with clc := c } :=
  h.step (.clc c s hlink)

theorem link_table (v : PerPosition Entry) : Links a { s with table := v } := h.step (.table v s)

/-! ## Table and cycle boundary -/

theorem link_refreshOwn (code : Option FaultKind) : Links a (refreshOwn code s) := by
  unfold refreshOwn; split
  · exact link_table h _
  · exact h

theorem link_takeSnapshot : Links a (takeSnapshot s) := by
  unfold takeSnapshot; split
  · exact h
  · exact link_clc h _ (by rfl)

/-- The link state after LISTENING or CHECKING is not CONFIG. -/
theorem link_leave (l : LinkState) (hold : s.clc.linkState = .listening ∨ s.clc.linkState = .checking) (hnew : l ≠ .config) :
    Links a (setLink l s) :=
  h.step (.leave l s hold hnew)

omit h in
theorem joinedOrAlone_ne_config (s : State) : s.joinedOrAlone ≠ .config := by
  unfold State.joinedOrAlone; split <;> simp

theorem link_leaveListening (hold : s.clc.linkState = .listening) : Links a (leaveListening s) := by
  unfold leaveListening; split
  · have hleft := link_leave h .checking (Or.inl hold) (by decide)
    exact link_clc hleft { s.clc with
      linkState := .checking, injectDone := s.clc.injectDone || decide (s.clc.remainingInjected = 0) } (by rfl)
  · exact link_leave h _ (Or.inl hold) (joinedOrAlone_ne_config s)

theorem link_countListening : Links a (countListening s) := by
  unfold countListening; split
  next hl =>
    have hcounted : Links a { s with clc := { s.clc with listeningCount := s.clc.listeningCount + 1 } } := link_clc h _ (by rfl)
    exact link_ite hcounted (link_leaveListening hcounted hl)
  next => exact h

theorem link_boundaryWork : Links a (boundaryWork s) := by
  have haged : Links a { s with
      table := s.agedTable
      clc := { s.clc with cycleCount := s.clc.cycleCount + 1 }
      cpa := { s.cpa with holds := s.holdsAfterAgeing, claim := s.cpa.claim.map (fun x => satAdd 255 x 1) } } :=
    ((link_clc (link_table h s.agedTable) { s.clc with cycleCount := s.clc.cycleCount + 1 } (by rfl)).step
      (.claim (fun x => satAdd 255 x 1) _ fun n hn => le_min (by decide) (Nat.le_succ_of_le hn))).step (.holds s.holdsAfterAgeing _)
  have hsnapped := link_takeSnapshot haged
  exact link_countListening (link_ite hsnapped (link_refreshOwn hsnapped none))

theorem link_cycleBoundary : Links a (cycleBoundary s) := link_react (link_boundaryWork h)

theorem link_passZero : Links a (passZero s) := link_ite (link_cycleBoundary h) (link_clc h _ (by rfl))

/-! ## Sending -/

theorem link_sendRecord : Links a (sendRecord b s) := by
  unfold sendRecord; split
  · exact h
  · have hstatus (c : Committed) : Links a (sendStatus c b s) :=
      link_clc (link_refreshOwn (h.step (.published s)) _) _ (by rfl)
    split
    · exact link_clc h _ (by rfl)
    · exact hstatus _
    · exact hstatus _
    · exact h

theorem link_beginOwnWindow : Links a (beginOwnWindow s) :=
  link_ite h (link_ite (link_sendRecord h) (link_clc h _ (by rfl)))

theorem link_advanceWindow : Links a (advanceWindow s) := by
  have hset : Links a (setWindow (s.clc.windowIndex + 1) 0 s) := link_clc h _ (by rfl)
  have hpassed := link_ite (c := s.clc.windowIndex = 7) hset (link_passZero hset)
  exact link_ite hpassed (link_beginOwnWindow hpassed)

theorem link_leaveChecking : Links a (leaveChecking s) := by
  unfold leaveChecking; split
  next hl => exact link_leave h _ (Or.inr hl) (joinedOrAlone_ne_config s)
  next => exact h

theorem link_checkSent : Links a (checkSent b s) := by
  have hcounted : Links a (countCheckSent b (stopSending s)) := link_clc (link_clc h _ (by rfl)) _ (by rfl)
  exact link_ite hcounted (link_react (link_leaveChecking hcounted))

theorem link_finishSending : Links a (finishSending s) := by
  unfold finishSending; split
  · split
    · exact link_checkSent h
    · exact link_clc h _ (by rfl)
  · exact h

theorem link_pairQuiet : Links a (pairQuiet s) := link_clc (link_finishSending h) _ (by rfl)

theorem link_closeWindow : Links a (closeWindow s) := link_ite (link_finishSending h) (link_clc (link_clc h _ (by rfl)) _ (by rfl))

theorem link_expireWindow : Links a (expireWindow i s) := link_advanceWindow (link_clc (link_closeWindow h) _ (by rfl))

/-! ## Records taken -/

theorem link_realign : Links a (realign p i s) := by
  have hmissed : Links a
      (if s.clc.tx = .deferring ∧ p ≠ s.clc.windowIndex then countMissed (setTx .idle s)
       else if s.missesWindow s.clc.windowIndex p && s.clc.linkState.sends then countMissed s else s) :=
    link_ite (link_ite h (link_clc h _ (by rfl))) (link_clc (link_clc h _ (by rfl)) _ (by rfl))
  unfold realign; simp only []
  generalize (if s.clc.tx = .deferring ∧ p ≠ s.clc.windowIndex then countMissed (setTx .idle s)
       else if s.missesWindow s.clc.windowIndex p && s.clc.linkState.sends then countMissed s else s) = u at hmissed
  have hset : Links a (setWindow p i u) := link_clc hmissed _ (by rfl)
  have hcrossed : Links a (crossZero s.clc.windowIndex p (setWindow p i u)) :=
    link_ite (link_ite hset (link_clc hset _ (by rfl))) (link_passZero hset)
  exact link_ite hcrossed (link_advanceWindow hcrossed)

theorem link_refreshEntry (x : Entry) : Links a (refreshEntry p x s) := by
  have hset : Links a (endHold p (setEntry p x s)) := (link_table h _).step (.holds _ _)
  exact link_react (hset.moves (moves_clashTest (.refl _)))

theorem link_handOn : Links a (handOn r s) := by
  have hrelayed (v : Fin 8) (ms : List Summary) : ∀ u, Links a u → Links a (relayedRefreshes v ms u) := by
    induction ms with
    | nil => exact fun _ hu => hu
    | cons m ms ih =>
      intro u hu
      refine ih _ ?_
      rcases relayedRefresh_cases v m u with hm | hm <;> rw [hm]
      · exact hu
      · exact link_refreshEntry hu _
  exact hrelayed _ _ _ (link_refreshEntry (link_ite h (link_clc h _ (by rfl))) _)

theorem link_duplicatePosition (hcommitted : s.mpt.committed.isSome = true) : Links a (duplicatePosition s) := by
  have hcounted : Links a (raiseFault .duplicatePosition
      (mapCounters (fun c => { c with dupPositionSeen := sat16 c.dupPositionSeen }) s)) := (link_clc h _ (by rfl)).step (.duplicate _)
  have hkept : (raiseFault .duplicatePosition
      (mapCounters (fun c => { c with dupPositionSeen := sat16 c.dupPositionSeen }) s)).mpt.committed.isSome = true :=
    (congrArg (fun o : Outer => o.mpt.committed.isSome) (outer_raiseFault _ _)).trans hcommitted
  refine (link_ite hcounted (link_clc hcounted _ (by rfl))).step (.silence _ ?_)
  split
  · exact hkept
  · exact hkept

theorem link_actOnRecord : Links a (actOnRecord r i s) := by
  have hcounted : Links a (mapCounters (fun c => { c with recordsGood := sat16 c.recordsGood }) s) := link_clc h _ (by rfl)
  unfold actOnRecord; simp only []
  split
  next =>
    have hrealigned := link_ite (c := r.deferred = true) (link_realign (p := r.origin) (i := i) hcounted) hcounted
    exact link_ite hrealigned (link_clc hrealigned _ (by rfl))
  next c hc =>
    have hrealigned := link_ite (c := r.deferred = true) (link_realign (p := r.origin) (i := i) hcounted) hcounted
    refine link_ite (link_ite (link_handOn hrealigned) (link_clc hrealigned _ (by rfl))) (link_ite (link_react ?_) hcounted)
    exact link_duplicatePosition hcounted (Option.isSome_of_eq_some hc)

theorem link_rejectRecord : Links a (rejectRecord ws s) := by
  have hcounted : Links a (mapCounters (fun c => { c with checkError := sat16 c.checkError }) s) := link_clc h _ (by rfl)
  unfold rejectRecord; simp only []; split
  · exact link_ite (link_table hcounted _) hcounted
  · exact hcounted

theorem link_recordTaken : Links a
    (if s.inReset then s
     else if !s.clc.reception.frames ws.length then pairQuiet s
     else match acceptRecord ws with
      | some r => actOnRecord r (sinceOpening ws.length) (pairQuiet s)
      | none => rejectRecord ws (pairQuiet s)) := by
  refine link_ite (link_ite ?_ (link_pairQuiet h)) h
  split
  · exact link_actOnRecord (link_pairQuiet h)
  · exact link_rejectRecord (link_pairQuiet h)

end

/-- The commands of the link whose acts are the link's alone. -/
def isLinkCommand : Instr → Bool
  | .windowTimerExpiry _ | .listeningEnd | .deferredSend | .deferralTimeout | .checkRecordSent | .lineCheckEnd | .recordTaken _
  | .phantomHoldExpiry _ => true
  | _ => false

theorem links_exec {c : Instr} {s t : State} (hc : isLinkCommand c = true) (hexec : exec c s = .next t) : Links s t := by
  have h : Links s s := .refl s
  cases c with
  | windowTimerExpiry busyUs => cases hexec; exact link_ite (link_expireWindow h) h
  | listeningEnd => cases hexec; exact link_ite h (link_expireWindow (h.step (.free s)))
  | deferredSend => cases hexec; exact link_ite h (link_sendRecord (link_pairQuiet h))
  | deferralTimeout => cases hexec; exact link_ite h (link_clc (link_clc h _ (by rfl)) _ (by rfl))
  | checkRecordSent => cases hexec; exact link_ite h (link_finishSending h)
  | lineCheckEnd => cases hexec; exact link_ite h (link_finishSending h)
  | recordTaken octets => cases hexec; exact link_recordTaken h
  | phantomHoldExpiry p => cases hexec; exact link_ite h (link_react (h.step (.holds _ s)))
  | _ => cases hc

end Sys2Proof.Machine
end

section
/-! The acts of the commands: every command but power-on reset is a chain of the deciding blocks' changes and of a few direct ones,
each with its guard. What every kind of act keeps, every command keeps. -/

namespace Sys2Proof.Machine

/-- The acts that only some commands make: the ESTOP level taken as asserted, and the ending of a transaction, with the slot freed
and the channel back in IDLE. -/
inductive Special where
  | estop | ending

/-- One change that a command makes. `allowed` says which of the special acts may be among them. -/
inductive Act (allowed : Special → Prop) : State → State → Prop where
  | move {s t : State} (h : Move s t) : Act allowed s t
  | link {s t : State} (h : LinkAct s t) : Act allowed s t
  | commit (c : Committed) (cause : CommitCause) (s : State) (hopen : s.mpt.commitState = .opened) :
      Act allowed s (commitLink c (commitPort cause s))
  | lmn (m : Lmn) (s : State) (hestop : m.lines.estop.level = some true → s.lmn.lines.estop.level = some true) :
      Act allowed s { s with lmn := m }
  | mpt (m : Mpt) (s : State) (hstraps : m.straps = s.mpt.straps) (hstate : m.commitState = s.mpt.commitState)
      (hconfig : m.committed = s.mpt.committed) (hflags : m.accepted = s.mpt.accepted ∧ m.rejected = s.mpt.rejected)
      (hbuffer : s.mpt.commitState ≠ .opened → m.buffer = s.mpt.buffer ∧ m.overrideWritten = s.mpt.overrideWritten) :
      Act allowed s { s with mpt := m }
  | pins (v : Pins) (s : State) : Act allowed s { s with pins := v }
  | raise (k : FaultKind) (s : State) (hk : k ≠ .crankFail) : Act allowed s (raiseFault k s)
  | clear (k : FaultKind) (s : State) : Act allowed s (clearFault k s)
  | restored (k : FaultKind) (s : State) : Act allowed s (restoreNotice k s)
  | faultsReset (s : State) : Act allowed s (faultResetFaults s)
  | crankFailEnds (s : State) : Act allowed s { s with fcl := { s.fcl with
      active := dropKind .crankFail s.fcl.active, crankFailCause := none, crankFailTimer := none } }
  | erc (e : Erc) (s : State) (hslots : e.slots = s.erc.slots) (hcurrent : e.current = s.erc.current)
      (hidle : e.sequencer = .idle ↔ s.erc.sequencer = .idle) : Act allowed s { s with erc := e }
  | nsp (n : Nsp) (s : State) : Act allowed s { s with nsp := n }
  | release (x : Straps) (s : State) (hreset : s.inReset = true) : Act allowed s (release x s)
  | estop (s : State) (hallowed : allowed .estop) : Act allowed s (setLevel .estop true s)
  | freed (c : Client) (s : State) (hallowed : allowed .ending) : Act allowed s (setSlot c .empty s)
  | idle (s : State) (hallowed : allowed .ending) : Act allowed s (enterIdle s)

/-- A chain of a command's acts. -/
def Acts (allowed : Special → Prop) : State → State → Prop := Relation.ReflTransGen (Act allowed)

section
variable {allowed : Special → Prop}

theorem Acts.refl (s : State) : Acts allowed s s := Relation.ReflTransGen.refl

theorem Acts.trans {a b c : State} (hab : Acts allowed a b) (hbc : Acts allowed b c) : Acts allowed a c :=
  Relation.ReflTransGen.trans hab hbc

theorem Acts.step {a s t : State} (h : Acts allowed a s) (hact : Act allowed s t) : Acts allowed a t :=
  Relation.ReflTransGen.tail h hact

theorem Acts.moves {a s t : State} (h : Acts allowed a s) (hmoves : Moves s t) : Acts allowed a t := by
  induction hmoves with
  | refl => exact h
  | tail _ hmove ih => exact ih.step (.move hmove)

theorem Acts.links {a s t : State} (h : Acts allowed a s) (hlinks : Links s t) : Acts allowed a t := by
  induction hlinks with
  | refl => exact h
  | tail _ hact ih => exact ih.step (.link hact)

/-- What every kind of act keeps, a chain of them keeps. -/
theorem Acts.keeps {P : State → Prop} (hP : ∀ s t, Act allowed s t → P s → P t) {s t : State} (h : Acts allowed s t) (hs : P s) :
    P t := by
  induction h with
  | refl => exact hs
  | tail _ hact ih => exact hP _ _ hact ih

end

section
variable {allowed : Special → Prop} {a s old : State} {k : FaultKind} {e : Ending} {d : Device} {tr : Transaction} {b : Bool}
  {i : Nat} {p : Fin 8} {r : Record} {ws : List WireOctet} (h : Acts allowed a s)
include h

theorem acts_ite {t : State} {c : Prop} [Decidable c] (ht : Acts allowed a t) : Acts allowed a (if c then t else s) := by
  split
  · exact ht
  · exact h

theorem acts_react : Acts allowed a (react old s) := h.moves (moves_react (.refl s))

theorem acts_table (v : PerPosition Entry) : Acts allowed a { s with table := v } := h.step (.link (.table v s))

theorem acts_lmn (m : Lmn) (hestop : m.lines.estop.level = some true → s.lmn.lines.estop.level = some true := by exact id) :
    Acts allowed a { s with lmn := m } :=
  h.step (.lmn m s hestop)

theorem acts_erc (v : Erc) (hslots : v.slots = s.erc.slots := by rfl) (hcurrent : v.current = s.erc.current := by rfl)
    (hidle : v.sequencer = .idle ↔ s.erc.sequencer = .idle := by exact Iff.rfl) : Acts allowed a { s with erc := v } :=
  h.step (.erc v s hslots hcurrent hidle)

theorem acts_nsp (n : Nsp) : Acts allowed a { s with nsp := n } := h.step (.nsp n s)

theorem acts_clear : Acts allowed a (clearFault k s) := h.step (.clear k s)

theorem acts_raise (hk : k ≠ .crankFail := by decide) : Acts allowed a (raiseFault k s) := h.step (.raise k s hk)

/-! ## The engine-room channel -/

theorem acts_urgentTest : Acts allowed a (urgentTest s) := h.moves (moves_urgentTest (.refl s))

theorem acts_becomeFailed : Acts allowed a (becomeFailed d s) := by
  have hstale := acts_ite (c := d = .sensors ∧ s.erc.sensor.state = .valid) h
    (acts_erc h { s.erc with sensor := { s.erc.sensor with state := .stale } })
  have hssq := hstale.moves (moves_ssqDeviceFailed (d := d) (.refl _))
  refine acts_raise ?_ (by simp)
  cases d
  case load => exact acts_urgentTest hssq
  case sensors => exact acts_nsp hssq _
  all_goals exact hssq

theorem acts_changeHealth (x : Health) : Acts allowed a (changeHealth d x s) := by
  have hset : Acts allowed a (setHealth d x s) := acts_erc h _
  exact acts_ite (acts_ite hset (acts_clear hset)) (acts_becomeFailed hset)

theorem acts_sensorsReturn : Acts allowed a (sensorsReturn old s) := acts_ite h (acts_erc h _)

theorem acts_healthStep : Acts allowed a (healthStep tr e s) := by
  have hchanged := acts_changeHealth (d := tr.request.order.device) h
    ((s.erc.health.get tr.request.order.device).after e)
  have htested := acts_ite (c := tr.request.order.device = .sensors ∧ healthChanged tr.request.order.device s
    (changeHealth tr.request.order.device ((s.erc.health.get tr.request.order.device).after e) s)) hchanged
    (hchanged.moves (moves_autostopTest (.refl _)))
  exact acts_ite (acts_sensorsReturn htested) htested

theorem acts_sensorStep : Acts allowed a (sensorStep tr e s) := by
  unfold sensorStep; split
  · refine acts_ite h (acts_nsp (Acts.moves (acts_erc h _) (moves_ssqSensorUpdate (.refl _))) _)
  · exact h

/-- What the client of an ending does, its slot already empty. -/
def clientActs (t : Transaction) (e : Ending) (s : State) : State :=
  match t.client with
  | .protect =>
    match t.request.producer with
    | .nsp => unloadEnding t.request.order e s
    | _ => protEnding t.request.order e s
  | .sequence => seqEnding t.request.order e s
  | .notch => notchEnding e s
  | .poll => s

omit h in
theorem clientEnding_eq (t : Transaction) (e : Ending) (s : State) :
    clientEnding t e s = clientActs t e (setSlot t.client .empty s) := by
  unfold clientEnding clientActs; cases t.client <;> rfl

theorem acts_clientActs (hfreed : (s.erc.slots.get tr.client).isEmpty = true) : Acts allowed a (clientActs tr e s) := by
  unfold clientActs; split
  · split
    · exact h.moves (moves_unloadEnding (.refl s))
    · exact h.moves (moves_protEnding (.refl s))
  · exact h.moves (moves_seqEnding (.refl s))
  next hc => exact h.moves (moves_notchEnding (.refl s) (by rw [← hc]; exact hfreed))
  · exact h

theorem acts_transactionEnd (hallowed : allowed .ending) : Acts allowed a (transactionEnd e s) := by
  unfold transactionEnd; split
  · exact h.step (.idle s hallowed)
  next t _ =>
    have hfreed : Acts allowed a (setSlot t.client .empty (sensorStep t e (healthStep t e s))) :=
      (acts_sensorStep (acts_healthStep h)).step (.freed _ _ hallowed)
    rw [clientEnding_eq]
    exact (acts_react (acts_clientActs hfreed (by simp [Slot.isEmpty]))).step (.idle _ hallowed)

theorem acts_takeReply (hallowed : allowed .ending) : Acts allowed a (takeReply ws s) := by
  have hlate : Acts allowed a (countLateReply s) := acts_erc h _
  unfold takeReply; split
  · split
    · exact hlate
    · split
      · exact acts_transactionEnd h hallowed
      · exact hlate
  · exact hlate

/-! ## The command lines -/

theorem acts_ercFaultReset : Acts allowed a (ercFaultReset s) :=
  acts_sensorsReturn (acts_changeHealth (acts_changeHealth (acts_changeHealth (acts_changeHealth (acts_changeHealth h _) _) _) _) _)

theorem acts_faultReset : Acts allowed a (faultReset s) := by
  have hreset : Acts allowed a (faultResetFaults (ercFaultReset s)) := (acts_ercFaultReset h).step (.faultsReset _)
  exact acts_ite hreset (hreset.moves (moves_enterStopped (moves_setReason (.refl _))))

theorem acts_resetEdge : Acts allowed a (resetEdge s) :=
  acts_ite (acts_faultReset h) ((acts_faultReset (acts_lmn h _)).moves (moves_ssqSilence (.refl _)))

omit h in
/-- A pending slot emptied is its request withdrawn (R130). -/
theorem withdraw_of_pending {c : Client} {r : Request} {s : State} (hr : s.erc.slots.get c = .pending r) :
    withdraw c s = setSlot c .empty s := by
  simp [withdraw, hr, Slot.isPending]

omit h in
theorem moves_inhibitPending (s : State) : Moves s (inhibitPending s) := by
  have hsequence : Moves s (inhibitSequence s) := by
    unfold inhibitSequence; split
    next r hr =>
      rw [← withdraw_of_pending (c := .sequence) hr]
      exact moves_seqEnding (moves_withdraw (.refl s) .sequence)
    next => exact .refl s
  have hnotch (u : State) : Moves u (inhibitNotch u) := by
    unfold inhibitNotch; split
    next r hr =>
      rw [← withdraw_of_pending (c := .notch) hr]
      exact moves_notchEnding (moves_withdraw (.refl u) .notch) (by simp [withdraw_of_pending (c := .notch) hr, Slot.isEmpty])
    next => exact .refl u
  exact moves_withdraw (hsequence.trans (hnotch _)) .poll

theorem acts_refuseFirst : Acts allowed a (refuseFirst s) := by
  have hused : Acts allowed a (useFree s) := h.step (.link (.free s))
  exact acts_ite h (acts_ite hused (hused.moves (moves_inhibitPending _)))

theorem acts_ssqEstop : Acts allowed a (ssqEstop s) := by
  have hemptied : Acts allowed a
      { raiseFault .emergencyStop s with ssq := { (raiseFault .emergencyStop s).ssq with seqList := [] } } :=
    (acts_raise h).moves (moves_ssq (.refl _) _ (by rfl))
  unfold ssqEstop; simp only []; split
  · exact hemptied
  · exact hemptied
  · exact hemptied.moves (moves_setReason (moves_protectiveSequence (moves_clearFuel (.refl _))))
  · exact hemptied.moves (moves_protectiveShutdown (.refl _))

theorem acts_estopAssertion (hallowed : allowed .estop) : Acts allowed a (estopAssertion s) :=
  (acts_ssqEstop ((acts_refuseFirst h).step (.estop _ hallowed))).moves (moves_inhibitPending _)

omit h in
theorem setLevel_estop_level {l : Line} (hl : l ≠ .estop) (v : Bool) (s : State) :
    (setLevel l v s).lmn.lines.estop.level = s.lmn.lines.estop.level := by
  cases l <;> first | rfl | exact absurd rfl hl

theorem acts_setLevel {l : Line} (hl : l ≠ .estop) (v : Bool) : Acts allowed a (setLevel l v s) :=
  h.step (.lmn _ s fun he => (setLevel_estop_level hl v s).symm.trans he)

theorem acts_setLevel_released : Acts allowed a (setLevel .estop false s) := h.step (.lmn _ s fun he => nomatch he)

theorem acts_estopRelease : Acts allowed a (estopRelease s) := by
  have hcleared : Acts allowed a (clearFault .emergencyStop (setLevel .estop false s)) := acts_clear (acts_setLevel_released h)
  exact acts_ite hcleared (hcleared.moves (moves_triggerTest (.refl _)))

theorem acts_takeLevel {l : Line} {v : Bool} (hestop : l = .estop → v = true → allowed .estop) :
    Acts allowed a (takeLevel l v s) := by
  cases l with
  | start =>
    have hset : Acts allowed a (setLevel .start v s) := acts_setLevel h (by decide) v
    exact acts_ite hset (hset.moves (moves_startRequest (.refl _)))
  | stop =>
    have hset : Acts allowed a (setLevel .stop v s) := acts_setLevel h (by decide) v
    exact acts_ite hset (hset.moves (moves_stopRequest (.refl _)))
  | freset =>
    have hset : Acts allowed a (setLevel .freset v s) := acts_setLevel h (by decide) v
    exact acts_ite hset (acts_resetEdge hset)
  | runIso =>
    have hset : Acts allowed a (setLevel .runIso v s) := acts_setLevel h (by decide) v
    exact acts_ite hset (acts_urgentTest hset)
  | estop =>
    simp only [takeLevel]; split
    next hv => exact acts_estopAssertion h (hestop rfl hv)
    next => exact acts_ite (acts_estopRelease h) (acts_setLevel_released h)

theorem acts_takeDemand : Acts allowed a (takeDemand s) := acts_ite (acts_raise (acts_nsp h _)) (acts_clear (acts_nsp h _))

/-! ## Derates -/

theorem acts_applyDerate (c : Derate) : Acts allowed a (applyDerate c s) := by
  have hset : Acts allowed a (setDerate c ⟨true, none, none⟩ s) := acts_nsp h _
  have hraised := acts_ite (c := c = .coolantVeryHigh) hset (acts_raise (k := .coolantHot) hset)
  exact acts_ite hraised (acts_urgentTest hraised)

theorem acts_releaseDerate (c : Derate) : Acts allowed a (releaseDerate c s) := by
  have hset : Acts allowed a (setDerate c ⟨false, none, none⟩ s) := acts_nsp h _
  exact acts_ite hset (acts_clear hset)

theorem acts_stepTest : Acts allowed a (stepTest s) := h.moves (moves_stepTest (.refl s))

/-! ## Speed and battery -/

theorem acts_deliverGate : Acts allowed a (deliverGate i s) :=
  acts_ite (h.moves (moves_ssqGate (.refl s)))
    (acts_lmn (Acts.moves (acts_lmn (s := s) h _) (moves_ssqOverspeed (.refl _))) _)

theorem acts_watchGate : Acts allowed a (watchGate i s) := by
  have hwatched : Acts allowed a
      (match s.nsp.watch with
       | some w => if s.inBand w.notch i then { s with nsp := { s.nsp with watch := none } } else s
       | none => s) := by
    split
    · exact acts_ite h (acts_nsp h _)
    · exact h
  exact acts_ite hwatched (acts_clear hwatched)

theorem acts_detectSag : Acts allowed a (detectSag i s) := by
  have hsag : Acts allowed a (takeSag s) := Acts.moves (acts_raise (acts_lmn h _)) (moves_ssqSag (.refl _))
  have hrecovery : Acts allowed a (takeRecovery s) := acts_clear (acts_lmn h _)
  unfold detectSag; repeat' split
  all_goals first | exact hsag | exact hrecovery | exact acts_lmn h _

theorem acts_sampleEvent : Acts allowed a (sampleEvent i s) := by
  have hsag := acts_detectSag (i := i) (acts_lmn h { s.lmn with sample := some i, sampleTimer := some 10 })
  exact acts_react (hsag.moves (moves_autostopTest (moves_triggerTest (moves_grantTest (.refl _)))))

/-! ## Commit and port -/

theorem acts_commit {cause : CommitCause} (hopen : s.mpt.commitState = .opened) : Acts allowed a (commit cause s) :=
  acts_table (h.step (.commit s.formed cause s hopen)) _

theorem acts_pins (v : Pins) : Acts allowed a { s with pins := v } := h.step (.pins v s)

theorem acts_mpt (m : Mpt) (hstraps : m.straps = s.mpt.straps := by rfl) (hstate : m.commitState = s.mpt.commitState := by rfl)
    (hconfig : m.committed = s.mpt.committed := by rfl)
    (hflags : m.accepted = s.mpt.accepted ∧ m.rejected = s.mpt.rejected := by exact ⟨rfl, rfl⟩)
    (hbuffer : s.mpt.commitState ≠ .opened → m.buffer = s.mpt.buffer ∧ m.overrideWritten = s.mpt.overrideWritten := by
      exact fun _ => ⟨rfl, rfl⟩) : Acts allowed a { s with mpt := m } :=
  h.step (.mpt m s hstraps hstate hconfig hflags hbuffer)

omit h in
theorem opened_of_writeKind_ne_refuse {s : State} {v : Byte} (hkind : s.writeKind v ≠ .refuse) : s.mpt.commitState = .opened := by
  by_contra hopen
  exact hkind (writeKind_eq_refuse hopen v)

theorem acts_writeOctet (v : Byte) : Acts allowed a (writeOctet v s) := by
  have hbumped : Acts allowed a (bumpPointer s) := acts_mpt h _
  unfold writeOctet; simp only []; split
  next hk =>
    have hopen := opened_of_writeKind_ne_refuse (s := s) (v := v) (by simp [hk])
    exact acts_mpt hbumped _ (hbuffer := fun hne => absurd hopen hne)
  next hk => exact acts_react (acts_commit hbumped (opened_of_writeKind_ne_refuse (s := s) (v := v) (by simp [hk])))
  next => exact acts_mpt hbumped _

theorem acts_readOctet : Acts allowed a (readOctet s) := by
  have hbumped : Acts allowed a (bumpPointer s) := acts_mpt h _
  have hserved (v : Byte) (c : Option Coherence) (l : Option Latch) : Acts allowed a (serve v c l (bumpPointer s)) := by
    have hserved : Acts allowed a { bumpPointer s with mpt := { (bumpPointer s).mpt with coherence := c, latch := l } } :=
      acts_mpt hbumped _
    exact acts_pins hserved _
  exact acts_ite (hserved _ _ _) (hserved _ _ _)

theorem acts_addressed {addr : BitVec 7} {act : State → State} (hact : Acts allowed a (act (setAck true s))) :
    Acts allowed a (addressed addr act s) :=
  acts_ite (acts_pins h _) hact

end

/-! ## The timers of the Start Sequencer and the Notch Stepper -/

/-- The expiry commands of the Start Sequencer and of the step clocks: their acts are the deciding blocks' alone. -/
def isPhaseCommand : Instr → Bool
  | .prelubeTick | .prelubeTimerExpiry | .turnCheckExpiry | .crankTimerExpiry | .firingHoldExpiry | .restTimerExpiry
  | .firingTimerExpiry | .warmUpTimerExpiry | .autostopIdleTimerExpiry | .cooldownTimerExpiry | .dwellClockReached _
  | .abandonHoldExpiry => true
  | _ => false

/-- A phase timer's expiry is a chain of moves if, in the timer's own engine state, what it brings is. -/
theorem moves_phaseExpiry {t : Timer} {own : EngineState} {act : State → State} {s : State}
    (hact : s.ssq.engine = own → Moves s (act s)) : Moves s (phaseExpiry t own act s) := by
  unfold phaseExpiry; split
  next hc =>
    simp only [Bool.and_eq_true, decide_eq_true_eq] at hc
    exact moves_react (hact hc.2)
  next => exact .refl s

theorem moves_exec {c : Instr} {s t : State} (hc : isPhaseCommand c = true) (hexec : exec c s = .next t) : Moves s t := by
  have h : Moves s s := .refl s
  cases c with
  | dwellClockReached m =>
    cases hexec; split
    · exact moves_ite (moves_stepTest (moves_nsp h _ (by rfl))) h
    · exact h
  | abandonHoldExpiry => cases hexec; exact moves_ite (moves_stepTest (moves_nsp h _ (by rfl))) h
  | prelubeTick =>
    cases hexec
    exact moves_phaseExpiry fun _ => moves_ite (moves_addSeq (moves_ssq h _ (by rfl))) (moves_ssq h _ (by rfl))
  | prelubeTimerExpiry => cases hexec; exact moves_phaseExpiry fun _ => moves_prelubeFail h
  | turnCheckExpiry =>
    cases hexec
    exact moves_phaseExpiry fun he => moves_ite (moves_ssq h _ (by rfl)) (moves_failedAttempt (moves_ssq h _ (by rfl)) (by exact he ▸ rfl))
  | crankTimerExpiry => cases hexec; exact moves_phaseExpiry fun he => moves_failedAttempt h (by rw [he]; rfl)
  | firingHoldExpiry =>
    cases hexec
    exact moves_phaseExpiry fun he => moves_enterUp (moves_addSeq (moves_addSeq h))
      (by rw [engine_addSeq, engine_addSeq, he]; rfl) (by decide) (by decide)
  | restTimerExpiry =>
    cases hexec
    exact moves_phaseExpiry fun he => moves_ite (moves_ssq h _ (by rfl))
      (moves_enterUp (moves_ssq h _ (by rfl)) (by exact he ▸ rfl) (by decide) (by decide))
  | firingTimerExpiry => cases hexec; exact moves_phaseExpiry fun he => moves_failedAttempt h (by rw [he]; rfl)
  | warmUpTimerExpiry =>
    cases hexec
    exact moves_phaseExpiry fun he => moves_enterUp h (by rw [he]; rfl) (by decide) (by decide)
  | autostopIdleTimerExpiry => cases hexec; exact moves_phaseExpiry fun _ => moves_autostopTest (moves_ssq h _ (by rfl))
  | cooldownTimerExpiry =>
    cases hexec; exact moves_phaseExpiry fun _ => moves_enterShutdown (moves_clearFuel (moves_addSeq h))
  | _ => cases hc

/-- Every command but power-on reset is a chain of acts, the special ones only where it takes an ESTOP level or ends a
transaction. -/
theorem acts_exec {allowed : Special → Prop} {c : Instr} {s t : State} (hc : c ≠ .powerOnReset)
    (hestop : c = .lineStabilityExpiry .estop → s.pins.lines.get .estop = true → allowed .estop)
    (hending : (c = .replyTimeout ∨ ∃ ws, c = .replyTaken ws) → allowed .ending) (hexec : exec c s = .next t) :
    Acts allowed s t := by
  have h : Acts allowed s s := .refl s
  by_cases hlink : isLinkCommand c = true
  · exact h.links (links_exec hlink hexec)
  by_cases hphase : isPhaseCommand c = true
  · exact h.moves (moves_exec hphase hexec)
  cases c with
  | powerOnReset => exact absurd rfl hc
  | resetRelease p c f =>
    cases hexec; split
    next hr => exact acts_react (h.step (.release _ s hr))
    next => exact h
  | collision =>
    cases hexec; split
    · split
      · exact Acts.step (h.links (link_clc (link_clc (.refl s) _ (by rfl)) _ (by rfl))) (.restored _ _)
      · exact h.links (link_clc (link_clc (.refl s) _ (by rfl)) _ (by rfl))
    · exact h
  | lineLevelChange l v =>
    cases hexec
    have hpin : Acts allowed s { s with pins := { s.pins with lines := s.pins.lines.set l v } } := acts_pins h _
    exact acts_ite (acts_ite (acts_lmn hpin _ (by cases l <;> exact id)) hpin) h
  | lineStabilityExpiry l =>
    cases hexec
    have hstopped : Acts allowed s
        { s with lmn := { s.lmn with lines := s.lmn.lines.set l { s.lmn.lines.get l with timer := none } } } :=
      acts_lmn h _ (by cases l <;> exact id)
    exact acts_ite (acts_ite (acts_react (acts_takeLevel hstopped fun hl hv => hestop (by rw [hl]) (hl ▸ hv))) hstopped) h
  | demandCodeChange code =>
    cases hexec
    exact acts_ite (acts_ite (acts_nsp (acts_pins h _) _) (acts_pins h _)) h
  | demandStabilityExpiry => cases hexec; exact acts_ite (acts_react (acts_takeDemand h)) h
  | disagreementTimerExpiry => cases hexec; exact acts_ite (acts_raise (acts_nsp h _)) h
  | derateApplyTimerExpiry c => cases hexec; exact acts_ite (acts_react (acts_applyDerate h c)) h
  | derateReleaseTimerExpiry c => cases hexec; exact acts_ite (acts_react (acts_releaseDerate h c)) h
  | deviationWatchExpiry => cases hexec; exact acts_ite (acts_raise (acts_nsp h _)) h
  | sendingEnd =>
    cases hexec; split
    next hs => exact acts_erc h _ (hidle := by simp [hs])
    next => exact h
  | replyTaken octets =>
    cases hexec
    have hquiet : Acts allowed s (replyQuiet s) := acts_erc h _
    exact acts_ite (acts_ite hquiet (acts_takeReply hquiet (hending (Or.inr ⟨_, rfl⟩)))) h
  | replyTimeout => cases hexec; exact acts_ite h (acts_transactionEnd (acts_erc h _) (hending (Or.inl rfl)))
  | pollTimerExpiry =>
    cases hexec; split
    · exact h
    · have hrestarted : Acts allowed s { s with erc := { s.erc with pollTimer := some 250 } } := acts_erc h _
      simp only []; split
      next hempty =>
        simp only [Bool.and_eq_true] at hempty
        exact hrestarted.moves (moves_post (.refl _) _ hempty.1)
      next => exact hrestarted
  | speedPulse sinceCounted => cases hexec; exact acts_ite h (acts_lmn h _)
  | gateEnd => cases hexec; exact acts_ite (acts_react (acts_watchGate (acts_deliverGate (acts_lmn h _)))) h
  | silenceTimerExpiry =>
    cases hexec; exact acts_ite (acts_react (Acts.moves (acts_lmn h _) (moves_ssqSilence (.refl _)))) h
  | batterySample milliVolts => cases hexec; exact acts_ite (acts_sampleEvent h) h
  | sagEvent => cases hexec; exact acts_ite h (acts_sampleEvent (h.step (.link (.free s))))
  | sagRecovery => cases hexec; exact acts_ite h (acts_sampleEvent (h.step (.link (.free s))))
  | crankFailHoldExpiry => cases hexec; exact acts_ite (h.step (.crankFailEnds s)) h
  | configTimerExpiry =>
    cases hexec; split
    next hc => exact acts_react (acts_commit h hc.2)
    next => exact h
  | portPointerSet addr v => cases hexec; exact acts_addressed h (acts_mpt (acts_pins h _) _)
  | overrideWrite addr v => cases hexec; exact acts_addressed h (acts_writeOctet (acts_pins h _) v)
  | commitWrite addr => cases hexec; exact acts_addressed h (acts_writeOctet (acts_pins h _) 0x5A)
  | writeRefused addr v => cases hexec; exact acts_addressed h (acts_writeOctet (acts_pins h _) v)
  | coherentEntryRead addr => cases hexec; exact acts_addressed h (acts_readOctet (acts_pins h _))
  | counterLatchRead addr => cases hexec; exact acts_addressed h (acts_readOctet (acts_pins h _))
  | portOctetRead addr => cases hexec; exact acts_addressed h (acts_readOctet (acts_pins h _))
  | windowTimerExpiry | listeningEnd | deferredSend | deferralTimeout | checkRecordSent | lineCheckEnd | recordTaken
  | phantomHoldExpiry => exact absurd rfl hlink
  | _ => exact absurd rfl hphase

end Sys2Proof.Machine
end

section
/-! What every step keeps: the claim and the fuel, ESTOP, the transaction in flight, the notices, the configuration and the queue. -/

namespace Sys2Proof.Machine

/-! ## Steps -/

/-- Every command answers with a next state (its outcomes are all `.next`). -/
theorem exec_answers (c : Instr) (s : State) : ∃ t, exec c s = .next t := by
  cases c with
  | dwellClockReached m => cases m <;> exact ⟨_, rfl⟩
  | _ => exact ⟨_, rfl⟩

theorem exec_powerOnReset (s : State) : exec .powerOnReset s = .next { State.reset with
    pins := { s.pins with portOut := none, portAck := false }, freeCount := s.freeCount, pending := s.pending } := rfl

/-- A step keeps what the passing of one ms keeps and what every command keeps. -/
theorem step_keeps {P : State → Prop} (htick : ∀ s, P s → P (tick s)) (hqueue : ∀ s q, P s → P { s with pending := q })
    (hexec : ∀ c s t, exec c s = .next t → P s → P t) {s t : State} (hs : P s) (hstep : step s = .next t) : P t := by
  unfold step at hstep; split at hstep
  · cases hstep; exact htick s hs
  · exact hexec _ _ _ hstep (hqueue _ _ hs)

/-- What every act keeps, and power-on reset brings about, every command keeps. -/
theorem exec_keeps {P : State → Prop} (hact : ∀ s t, Act (fun _ => True) s t → P s → P t)
    (hreset : ∀ s : State, P { State.reset with
      pins := { s.pins with portOut := none, portAck := false }, freeCount := s.freeCount, pending := s.pending })
    (c : Instr) (s t : State) (hexec : exec c s = .next t) (hs : P s) : P t := by
  by_cases hc : c = .powerOnReset
  · subst hc; cases hexec; exact hreset s
  · exact (acts_exec hc (fun _ _ => trivial) (fun _ => trivial) hexec).keeps hact hs

/-! ## The claim and the fuel (R55, R79) -/

theorem Move.keeps_driveFits {s t : State} (h : Move s t) (hs : DriveFits s) : DriveFits t := by
  cases h with
  | ssq q s hengine hfuel =>
    refine ⟨hs.1.trans (congrArg _ hengine.symm), fun hq => ?_⟩
    rw [show ({ s with ssq := q } : State).ssq.engine = s.ssq.engine from hengine]
    rcases hfuel hq with hf | he
    · exact hs.2 hf
    · rw [he]; rfl
  | enter n q s hengine hfuel hmay =>
    refine DriveFits.of_drive (s := Machine.enter n s) ?_ (fits_enter hs ?_)
    · rw [drive_enter, ← hfuel, ← hengine]; rfl
    · rintro (rfl | rfl)
      · rw [(hmay.prelube rfl).1]; rfl
      · rw [hmay.cranking rfl]; rfl
  | _ => exact hs.of_drive (by first | rfl | simp)

theorem LinkAct.keeps_driveFits {s t : State} (h : LinkAct s t) (hs : DriveFits s) : DriveFits t := by
  cases h with
  | move hmove => exact hmove.keeps_driveFits hs
  | claim f s _ => exact ⟨by simpa [ClaimFitsEngine] using hs.1, hs.2⟩
  | duplicate => exact hs.of_drive (by simp)
  | _ => exact hs

theorem Act.keeps_driveFits {allowed : Special → Prop} {s t : State} (h : Act allowed s t) (hs : DriveFits s) : DriveFits t := by
  cases h with
  | move hmove => exact hmove.keeps_driveFits hs
  | link hlink => exact hlink.keeps_driveFits hs
  | raise => exact hs.of_drive (by simp)
  | clear => exact hs.of_drive (by simp)
  | idle => exact hs.of_drive (by simp)
  | _ => exact hs

theorem tick_keeps_driveFits {s : State} (hs : DriveFits s) : DriveFits (tick s) := by
  unfold tick; split <;> exact hs

theorem fuelOrder_of_fuelRun {s : State} (h : s.fuelRun = true) : s.ssq.fuelOrder = true := by
  simp only [State.fuelRun, Bool.and_eq_true] at h
  exact h.1.1.1

theorem step_keeps_driveFits {s t : State} (hs : DriveFits s) (hstep : step s = .next t) : DriveFits t :=
  step_keeps (P := DriveFits) (fun _ => tick_keeps_driveFits) (fun _ _ hs => hs)
    (exec_keeps (fun _ _ => Act.keeps_driveFits) fun _ => ⟨rfl, fun hf => nomatch hf⟩) hs hstep

/-- Settles O55: every act keeps the claim and the fuel order fitting the engine state. -/
theorem claimAndFuelFitTheEngine : Obligations.ClaimAndFuelFitTheEngine := by
  intro s t hclaim hfuel hstep
  obtain ⟨hclaim', hfuel'⟩ := step_keeps_driveFits ⟨hclaim, hfuel⟩ hstep
  exact ⟨hclaim', hfuel', fun hrun => hfuel' (fuelOrder_of_fuelRun hrun)⟩

/-! ## ESTOP (R95, R96) -/

theorem EngineState.down_iff {e : EngineState} : e.down = true ↔ e = .stopped ∨ e = .shutdown ∨ e = .lockedOut := by
  cases e <;> simp [EngineState.down]

/-- While ESTOP is asserted the engine is down. -/
def EstopDown (s : State) : Prop := s.estop = true → s.ssq.engine.down = true

theorem estopFitsEngine_iff {s : State} : EstopFitsEngine s ↔ EstopDown s := by simp only [EstopFitsEngine, EstopDown, EngineState.down_iff]

theorem EstopDown.of_drive {s t : State} (hs : EstopDown s) (hdrive : t.drive = s.drive) (houter : t.outer = s.outer) : EstopDown t := by
  intro he
  rw [engine_of_drive hdrive]
  exact hs ((estop_of_outer houter).symm.trans he)

theorem Move.keeps_estopDown {s t : State} (h : Move s t) (hs : EstopDown s) : EstopDown t := by
  cases h with
  | ssq q s hengine => exact fun he => hengine ▸ hs he
  | enter n q s hengine _ hmay => exact fun he => (show q.engine = n from hengine) ▸ hmay.up (hs he) he
  | _ => exact hs.of_drive (by first | rfl | simp) (by first | rfl | simp)

theorem moves_keep_estopDown {s t : State} (h : Moves s t) (hs : EstopDown s) : EstopDown t :=
  h.keeps (fun _ _ => Move.keeps_estopDown) hs

theorem LinkAct.keeps_estopDown {s t : State} (h : LinkAct s t) (hs : EstopDown s) : EstopDown t := by
  cases h with
  | move hmove => exact hmove.keeps_estopDown hs
  | duplicate => exact hs.of_drive (by simp) (by simp)
  | _ => exact hs

/-- Every act but the taking of an asserted ESTOP keeps the engine down under ESTOP. -/
theorem Act.keeps_estopDown {s t : State} (h : Act (· ≠ .estop) s t) (hs : EstopDown s) : EstopDown t := by
  cases h with
  | move hmove => exact hmove.keeps_estopDown hs
  | link hlink => exact hlink.keeps_estopDown hs
  | raise => exact hs.of_drive (by simp) (by simp)
  | clear => exact hs.of_drive (by simp) (by simp)
  | idle => exact hs.of_drive (by simp) (by simp)
  | lmn m s hestop => exact fun he => hs (estop_iff.mpr (hestop (estop_iff.mp he)))
  | estop s hallowed => exact absurd rfl hallowed
  | _ => exact hs

/-- SHUTDOWN is entered for good under ESTOP: what follows its entry keeps the engine down. -/
theorem enterShutdown_down {s : State} (he : s.estop = true) : (enterShutdown s).ssq.engine.down = true := by
  have hmoves : Moves (enter .shutdown s) (enterShutdown s) := moves_ite (.refl _) (moves_shutdownEnd (.refl _))
  refine moves_keep_estopDown hmoves (fun _ => by rw [engine_enter]; rfl) ?_
  rw [estop_of_outer (outer_enterShutdown s)]; exact he

theorem ssqEstop_down {s : State} (he : s.estop = true) : (ssqEstop s).ssq.engine.down = true := by
  have hkept : (raiseFault .emergencyStop s).estop = true := (estop_of_outer (outer_raiseFault _ s)).trans he
  unfold ssqEstop; simp only []; split
  next h => exact h ▸ rfl
  next h => exact h ▸ rfl
  next h =>
    have hengine := engine_of_drive (drive_protectiveSequence false (clearFuel
      { raiseFault .emergencyStop s with ssq := { (raiseFault .emergencyStop s).ssq with seqList := [] } }))
    exact (congrArg EngineState.down hengine).trans (h ▸ rfl)
  next =>
    refine enterShutdown_down ?_
    rw [estop_of_outer (outer_setReason _ _), estop_of_outer (outer_protectiveSequence _ _)]
    exact hkept

/-- Taking ESTOP as asserted leaves the engine down. -/
theorem estopAssertion_estopDown (s : State) : EstopDown (estopAssertion s) :=
  moves_keep_estopDown (moves_inhibitPending _) fun _ => ssqEstop_down rfl

theorem exec_keeps_estopDown (c : Instr) (s t : State) (hexec : exec c s = .next t) (hs : EstopDown s) : EstopDown t := by
  by_cases hc : c = .powerOnReset
  · subst hc; cases hexec; exact fun he => nomatch he
  by_cases hasserted : c = .lineStabilityExpiry .estop ∧ s.pins.lines.get .estop = true
  · obtain ⟨rfl, hv⟩ := hasserted
    cases hexec; split
    · exact hs
    · simp only []; split
      · exact hs
      · rw [hv]
        exact moves_keep_estopDown (moves_react (.refl _)) (estopAssertion_estopDown _)
  · exact (acts_exec hc (fun hc' hv => absurd ⟨hc', hv⟩ hasserted) (fun _ => by simp) hexec).keeps
      (fun _ _ => Act.keeps_estopDown) hs

theorem tick_keeps_estopDown {s : State} (hs : EstopDown s) : EstopDown (tick s) := by
  unfold tick; split <;> exact hs

/-- Settles O56: only the taking of an asserted ESTOP can leave its level set, and it ends in SHUTDOWN or a state after it. -/
theorem estopKeepsTheEngineDown : Obligations.EstopKeepsTheEngineDown := by
  intro s t hs hstep
  have ht : EstopDown t := step_keeps (P := EstopDown) (fun _ => tick_keeps_estopDown) (fun _ _ hs => hs) exec_keeps_estopDown
    (estopFitsEngine_iff.mp hs) hstep
  exact ⟨estopFitsEngine_iff.mpr ht, fun he => by simp [State.fuelRun, he]⟩

/-! ## The transaction in flight (R130) -/

/-- Between two states of a transaction the sequencer stays out of IDLE, the record stays, and the same requests are in flight. -/
structure SameFlight (s t : State) : Prop where
  busy : t.erc.sequencer ≠ .idle
  current : t.erc.current = s.erc.current
  slots : ∀ c r, t.erc.slots.get c = .inFlight r ↔ s.erc.slots.get c = .inFlight r

theorem SameFlight.of_erc {s t u : State} (h : SameFlight s t) (herc : u.erc = t.erc) : SameFlight s u :=
  ⟨herc ▸ h.busy, herc ▸ h.current, herc ▸ h.slots⟩

/-- A slot that is not in flight may change to another that is not. -/
theorem SameFlight.setSlot {s t : State} {c : Client} {v : Slot} (h : SameFlight s t) (hold : (t.erc.slots.get c).isInFlight = false)
    (hnew : v.isInFlight = false) : SameFlight s (setSlot c v t) where
  busy := h.busy
  current := h.current
  slots c' r := by
    rw [← h.slots]
    by_cases hc : c' = c
    · subst hc
      simp only [Machine.setSlot, PerClient.get_set]
      constructor
      · intro hv; rw [hv] at hnew; cases hnew
      · intro hv; rw [hv] at hold; cases hold
    · simp only [Machine.setSlot, PerClient.get_set_ne _ _ hc]

theorem not_inFlight_of_isEmpty {x : Slot} (h : x.isEmpty = true) : x.isInFlight = false := by cases x <;> first | rfl | cases h

theorem not_inFlight_of_isPending {x : Slot} (h : x.isPending = true) : x.isInFlight = false := by cases x <;> first | rfl | cases h

@[simp] theorem raiseFault_erc (k : FaultKind) (s : State) : (raiseFault k s).erc = s.erc := by unfold raiseFault; split <;> rfl

@[simp] theorem clearFault_erc (k : FaultKind) (s : State) : (clearFault k s).erc = s.erc := by unfold clearFault; split <;> rfl

@[simp] theorem raiseCrankFail_erc (c : Cause) (s : State) : (raiseCrankFail c s).erc = s.erc := raiseFault_erc _ s

theorem Move.sameFlight {s t u : State} (h : Move t u) (hs : SameFlight s t) : SameFlight s u := by
  cases h with
  | withdraw c s' =>
    unfold Machine.withdraw; split
    next hp => exact hs.setSlot (not_inFlight_of_isPending hp) rfl
    next => exact hs
  | post c r s' hempty =>
    have hset := hs.setSlot (v := .pending r) (not_inFlight_of_isEmpty hempty) rfl
    unfold Machine.post; simp only []
    rw [if_neg hset.busy]; exact hset
  | _ => exact hs.of_erc (by first | rfl | simp)

theorem moves_sameFlight {s t u : State} (h : Moves t u) (hs : SameFlight s t) : SameFlight s u :=
  h.keeps (fun _ _ hm => hm.sameFlight) hs

theorem LinkAct.sameFlight {s t u : State} (h : LinkAct t u) (hs : SameFlight s t) : SameFlight s u := by
  cases h with
  | move hmove => exact hmove.sameFlight hs
  | duplicate => exact hs.of_erc (by simp)
  | _ => exact hs.of_erc rfl

/-- Every act but the ending of a transaction leaves a transaction as it is. -/
theorem Act.sameFlight {s t u : State} (h : Act (· ≠ .ending) t u) (hs : SameFlight s t) : SameFlight s u := by
  cases h with
  | move hmove => exact hmove.sameFlight hs
  | link hlink => exact hlink.sameFlight hs
  | raise => exact hs.of_erc (by simp)
  | clear => exact hs.of_erc (by simp)
  | erc e s' hslots hcurrent hidle =>
    exact ⟨fun h => hs.busy (hidle.mp h), hcurrent.trans hs.current, fun c r => by
      rw [← hs.slots]; show e.slots.get c = _ ↔ _; rw [hslots]⟩
  | freed c s' hallowed => exact absurd rfl hallowed
  | idle s' hallowed => exact absurd rfl hallowed
  | release => exact ⟨hs.busy, hs.current, hs.slots⟩
  | _ => exact hs.of_erc rfl

/-- The transaction `tr` is in flight, alone. -/
structure Flies (tr : Transaction) (s : State) : Prop where
  busy : s.erc.sequencer ≠ .idle
  current : s.erc.current = some tr
  slot : s.erc.slots.get tr.client = .inFlight tr.request
  others : ∀ c, c ≠ tr.client → (s.erc.slots.get c).isInFlight = false

theorem oneTransaction_of_idle {s : State} (hidle : s.erc.sequencer = .idle) :
    OneTransaction s ↔ ∀ c, (s.erc.slots.get c).isInFlight = false := by
  unfold OneTransaction; rw [hidle]

theorem oneTransaction_of_busy {s : State} (hbusy : s.erc.sequencer ≠ .idle) : OneTransaction s ↔ ∃ tr, Flies tr s := by
  have hflies : (∃ tr, Flies tr s) ↔ ∃ t, s.erc.current = some t ∧ s.erc.slots.get t.client = .inFlight t.request
      ∧ ∀ c, c ≠ t.client → (s.erc.slots.get c).isInFlight = false :=
    exists_congr fun _ => ⟨fun h => ⟨h.current, h.slot, h.others⟩, fun h => ⟨hbusy, h.1, h.2.1, h.2.2⟩⟩
  unfold OneTransaction; rw [hflies]
  split
  next h => exact absurd h hbusy
  next => exact Iff.rfl

theorem Slot.isInFlight_eq_false_iff {x : Slot} : x.isInFlight = false ↔ ∀ r, x ≠ .inFlight r := by
  cases x <;> simp [Slot.isInFlight]

theorem SameFlight.refl {s : State} (h : s.erc.sequencer ≠ .idle) : SameFlight s s := ⟨h, rfl, fun _ _ => Iff.rfl⟩

theorem SameFlight.not_inFlight {s t : State} (h : SameFlight s t) {c : Client} (hc : (s.erc.slots.get c).isInFlight = false) :
    (t.erc.slots.get c).isInFlight = false := by
  rw [Slot.isInFlight_eq_false_iff] at hc ⊢
  exact fun r hr => hc r ((h.slots c r).mp hr)

theorem SameFlight.flies {s t : State} {tr : Transaction} (h : SameFlight s t) (hs : Flies tr s) : Flies tr t :=
  ⟨h.busy, h.current.trans hs.current, (h.slots _ _).mpr hs.slot, fun c hc => h.not_inFlight (hs.others c hc)⟩

/-- With IDLE and no slot in flight, a pending request granted is the one transaction. -/
theorem oneTransaction_grantSlot {s : State} {c : Client} (hidle : s.erc.sequencer = .idle)
    (hnone : ∀ c, (s.erc.slots.get c).isInFlight = false) : OneTransaction (grantSlot c s) := by
  unfold grantSlot; split
  next r hr =>
    refine (oneTransaction_of_busy (by simp)).mpr ⟨⟨c, r, s.erc.tag⟩, by simp, rfl, PerClient.get_set _ _ _, fun c' hc => ?_⟩
    show ((s.erc.slots.set c (.inFlight r)).get c').isInFlight = false
    rw [PerClient.get_set_ne _ _ hc]; exact hnone c'
  next => exact (oneTransaction_of_idle hidle).mpr hnone

theorem oneTransaction_post {s : State} {c : Client} {r : Request} (hidle : s.erc.sequencer = .idle)
    (hnone : ∀ c, (s.erc.slots.get c).isInFlight = false) : OneTransaction (post c r s) := by
  unfold post; simp only []
  rw [if_pos (show (setSlot c (.pending r) s).erc.sequencer = .idle from hidle)]
  refine oneTransaction_grantSlot hidle fun c' => ?_
  by_cases hc : c' = c
  · subst hc; simp [setSlot, Slot.isInFlight]
  · simp only [setSlot, PerClient.get_set_ne _ _ hc]; exact hnone c'

/-- Back in IDLE with no slot in flight, the first pending request is granted. -/
theorem oneTransaction_enterIdle {s : State} (hnone : ∀ c, (s.erc.slots.get c).isInFlight = false) : OneTransaction (enterIdle s) := by
  unfold enterIdle; simp only []; split
  · exact oneTransaction_grantSlot rfl hnone
  · exact (oneTransaction_of_idle rfl).mpr hnone

/-- With IDLE and no slot in flight, a move leaves it so or grants the request it posts. -/
theorem Move.oneTransaction_of_idle {s t : State} (h : Move s t) (hidle : s.erc.sequencer = .idle)
    (hnone : ∀ c, (s.erc.slots.get c).isInFlight = false) : OneTransaction t := by
  have hof {u : State} (herc : u.erc = s.erc) : OneTransaction u :=
    (Machine.oneTransaction_of_idle (herc ▸ hidle)).mpr (by rw [herc]; exact hnone)
  cases h with
  | withdraw c s =>
    unfold Machine.withdraw; split
    · refine (Machine.oneTransaction_of_idle (s := setSlot c .empty s) hidle).mpr fun c' => ?_
      by_cases hc : c' = c
      · subst hc; simp [setSlot, Slot.isInFlight]
      · simp only [setSlot, PerClient.get_set_ne _ _ hc]; exact hnone c'
    · exact hof rfl
  | post c r s hempty => exact oneTransaction_post hidle hnone
  | _ => exact hof (by first | rfl | simp)

theorem LinkAct.oneTransaction_of_idle {s t : State} (h : LinkAct s t) (hidle : s.erc.sequencer = .idle)
    (hnone : ∀ c, (s.erc.slots.get c).isInFlight = false) : OneTransaction t := by
  have hof {u : State} (herc : u.erc = s.erc) : OneTransaction u :=
    (Machine.oneTransaction_of_idle (herc ▸ hidle)).mpr (by rw [herc]; exact hnone)
  cases h with
  | move hmove => exact hmove.oneTransaction_of_idle hidle hnone
  | duplicate => exact hof (by simp)
  | _ => exact hof rfl

theorem Act.oneTransaction_of_idle {s t : State} (h : Act (· ≠ .ending) s t) (hidle : s.erc.sequencer = .idle)
    (hnone : ∀ c, (s.erc.slots.get c).isInFlight = false) : OneTransaction t := by
  have hof {u : State} (herc : u.erc = s.erc) : OneTransaction u :=
    (Machine.oneTransaction_of_idle (herc ▸ hidle)).mpr (by rw [herc]; exact hnone)
  cases h with
  | move hmove => exact hmove.oneTransaction_of_idle hidle hnone
  | link hlink => exact hlink.oneTransaction_of_idle hidle hnone
  | raise => exact hof (by simp)
  | clear => exact hof (by simp)
  | erc e s hslots _ hseq =>
    refine (Machine.oneTransaction_of_idle (hseq.mpr hidle)).mpr fun c => ?_
    show (e.slots.get c).isInFlight = false
    rw [hslots]; exact hnone c
  | freed c s' hallowed => exact absurd rfl hallowed
  | idle s' hallowed => exact absurd rfl hallowed
  | release => exact (Machine.oneTransaction_of_idle hidle).mpr hnone
  | _ => exact hof rfl

theorem Act.keeps_oneTransaction {s t : State} (h : Act (· ≠ .ending) s t) (hs : OneTransaction s) : OneTransaction t := by
  by_cases hidle : s.erc.sequencer = .idle
  · exact h.oneTransaction_of_idle hidle ((Machine.oneTransaction_of_idle hidle).mp hs)
  · obtain ⟨tr, htr⟩ := (oneTransaction_of_busy hidle).mp hs
    have hsame := h.sameFlight (.refl hidle)
    exact (oneTransaction_of_busy hsame.busy).mpr ⟨tr, hsame.flies htr⟩

/-- An ending frees the slot of its transaction before the sequencer is back in IDLE. -/
theorem transactionEnd_oneTransaction {e : Ending} {s : State} (hbusy : s.erc.sequencer ≠ .idle) (hs : OneTransaction s) :
    OneTransaction (transactionEnd e s) := by
  obtain ⟨tr, htr⟩ := (oneTransaction_of_busy hbusy).mp hs
  have hsensed : Flies tr (sensorStep tr e (healthStep tr e s)) :=
    (Acts.keeps (fun _ _ hact => hact.sameFlight) (acts_sensorStep (acts_healthStep (Acts.refl s))) (.refl hbusy)).flies htr
  unfold transactionEnd; rw [htr.current]; simp only []
  rw [clientEnding_eq]
  generalize sensorStep tr e (healthStep tr e s) = u at hsensed ⊢
  have hfreed (c : Client) : ((setSlot tr.client .empty u).erc.slots.get c).isInFlight = false := by
    by_cases hc : c = tr.client
    · subst hc; simp [setSlot, Slot.isInFlight]
    · simp only [setSlot, PerClient.get_set_ne _ _ hc]; exact hsensed.others c hc
  have hacted := Acts.keeps (allowed := (· ≠ .ending)) (fun _ _ hact => hact.sameFlight)
    (acts_react (old := s) (acts_clientActs (tr := tr) (e := e) (.refl _) (by simp [setSlot, Slot.isEmpty])))
    (SameFlight.refl (s := setSlot tr.client .empty u) hsensed.busy)
  refine oneTransaction_enterIdle ?_
  intro c
  exact hacted.not_inFlight (hfreed c)

theorem OneTransaction.of_erc {s t : State} (hs : OneTransaction s) (hseq : t.erc.sequencer = s.erc.sequencer)
    (hcurrent : t.erc.current = s.erc.current) (hslots : t.erc.slots = s.erc.slots) : OneTransaction t := by
  unfold OneTransaction at *; rw [hseq, hcurrent, hslots]; exact hs

theorem takeReply_oneTransaction {ws : List WireOctet} {s : State} (hs : OneTransaction s) : OneTransaction (takeReply ws s) := by
  have hlate : OneTransaction (countLateReply s) := hs.of_erc rfl rfl rfl
  unfold takeReply; split
  next hwait =>
    split
    · exact hlate
    · split
      · exact transactionEnd_oneTransaction (by simp [hwait]) hs
      · exact hlate
  next => exact hlate

theorem exec_keeps_oneTransaction (c : Instr) (s t : State) (hexec : exec c s = .next t) (hs : OneTransaction s) :
    OneTransaction t := by
  by_cases hc : c = .powerOnReset
  · subst hc; cases hexec; exact (oneTransaction_of_idle rfl).mpr fun c => by cases c <;> rfl
  by_cases hending : c = .replyTimeout ∨ ∃ ws, c = .replyTaken ws
  · rcases hending with rfl | ⟨ws, rfl⟩
    · cases hexec; split
      next hwait =>
        have hbusy : s.erc.sequencer ≠ .idle := by simp [hwait]
        have hpassed : OneTransaction { s with erc := { s.erc with replyLine := s.erc.replyLine.pass (20 - s.erc.sinceSent) } } :=
          hs.of_erc rfl rfl rfl
        exact transactionEnd_oneTransaction hbusy hpassed
      next => exact hs
    · have hquiet : OneTransaction (replyQuiet s) := hs.of_erc rfl rfl rfl
      cases hexec; split
      · exact hs
      · split
        · exact takeReply_oneTransaction hquiet
        · exact hquiet
  · exact (acts_exec hc (fun _ _ => by simp) (fun h => absurd h hending) hexec).keeps (fun _ _ => Act.keeps_oneTransaction) hs

theorem tick_keeps_oneTransaction {s : State} (hs : OneTransaction s) : OneTransaction (tick s) := by
  unfold tick; split
  · exact hs
  · exact hs.of_erc rfl rfl rfl

/-- Settles O57: an ending frees its slot before IDLE grants the next request, and no other act touches a transaction. -/
theorem oneTransactionInFlight : Obligations.OneTransactionInFlight := fun _ _ hs hstep =>
  step_keeps (P := OneTransaction) (fun _ => tick_keeps_oneTransaction) (fun _ _ h => h.of_erc rfl rfl rfl) exec_keeps_oneTransaction hs hstep

end Sys2Proof.Machine
end

section
/-! What every step keeps of the fault records, of the configuration and of the queue, and that all of it holds at reset. -/

namespace Sys2Proof.Machine

/-! ## Notices (R163) -/

theorem NoticesListed.of_notices {s t : State} (hs : NoticesListed s) (h : t.fcl.notices = s.fcl.notices) : NoticesListed t := by
  unfold NoticesListed; rw [h]; exact hs

theorem NoticesListed.of_fcl {s t : State} (hs : NoticesListed s) (h : t.fcl = s.fcl) : NoticesListed t := hs.of_notices (h ▸ rfl)

theorem joinNotices_nodup {k : FaultKind} {ks : List FaultKind} (h : ks.Nodup) : (joinNotices k ks).Nodup := by
  unfold joinNotices; split
  next => exact h
  next hk =>
    have hk' : k ∉ ks := by simpa using hk
    exact List.nodup_append.mpr ⟨h, List.nodup_singleton k, fun a ha b hb => by
      rw [List.mem_singleton.mp hb]; exact fun hab => hk' (hab ▸ ha)⟩

theorem noticesListed_raiseFault {k : FaultKind} {s : State} (hs : NoticesListed s) : NoticesListed (raiseFault k s) := by
  unfold raiseFault; split
  · exact hs
  · exact joinNotices_nodup hs

theorem noticesListed_clearFault {k : FaultKind} {s : State} (hs : NoticesListed s) : NoticesListed (clearFault k s) :=
  hs.of_notices (by unfold clearFault; split <;> rfl)

theorem Move.keeps_noticesListed {s t : State} (h : Move s t) (hs : NoticesListed s) : NoticesListed t := by
  cases h with
  | raise => exact noticesListed_raiseFault hs
  | crankFail => exact (noticesListed_raiseFault (k := .crankFail) hs).of_notices rfl
  | clear => exact noticesListed_clearFault hs
  | _ => exact hs.of_fcl (by first | rfl | simp)

theorem LinkAct.keeps_noticesListed {s t : State} (h : LinkAct s t) (hs : NoticesListed s) : NoticesListed t := by
  cases h with
  | move hmove => exact hmove.keeps_noticesListed hs
  | duplicate => exact noticesListed_raiseFault hs
  | published s => exact List.Nodup.sublist (List.tail_sublist _) hs
  | _ => exact hs.of_notices rfl

theorem Act.keeps_noticesListed {allowed : Special → Prop} {s t : State} (h : Act allowed s t) (hs : NoticesListed s) :
    NoticesListed t := by
  cases h with
  | move hmove => exact hmove.keeps_noticesListed hs
  | link hlink => exact hlink.keeps_noticesListed hs
  | raise => exact noticesListed_raiseFault hs
  | clear => exact noticesListed_clearFault hs
  | restored k s => exact List.nodup_cons.mpr ⟨by simp, List.Nodup.filter _ hs⟩
  | idle => exact hs.of_fcl (by simp)
  | _ => exact hs.of_notices rfl

/-! ## CRANK_FAIL (R161) -/

/-- Which clears leave CRANK_FAIL: all of them, since it does not clear by itself (R159, R161). -/
theorem crankFail_clearFault (k : FaultKind) (s : State) : (clearFault k s).faultActive .crankFail = s.faultActive .crankFail := by
  unfold clearFault; split
  next hk =>
    have hne : FaultKind.crankFail ≠ k := fun h => by subst h; simp [FaultKind.selfClearing] at hk
    simp [State.faultActive, dropKind, hne]
  next => rfl

theorem raiseFault_active (k : FaultKind) (s : State) : (raiseFault k s).faultActive k = true := by
  unfold raiseFault; split
  next h => exact h
  next => simp [State.faultActive, addKind]

theorem raiseFault_crankFail (k : FaultKind) (s : State) : (raiseFault k s).fcl.crankFailTimer = s.fcl.crankFailTimer
    ∧ (raiseFault k s).fcl.crankFailCause = s.fcl.crankFailCause := by
  unfold raiseFault; split <;> exact ⟨rfl, rfl⟩

theorem clearFault_crankFail (k : FaultKind) (s : State) : (clearFault k s).fcl.crankFailTimer = s.fcl.crankFailTimer
    ∧ (clearFault k s).fcl.crankFailCause = s.fcl.crankFailCause := by
  unfold clearFault; split <;> exact ⟨rfl, rfl⟩

theorem CrankFailTimed.of_same {s t : State} (hs : CrankFailTimed s) (hactive : t.faultActive .crankFail = s.faultActive .crankFail)
    (htimer : t.fcl.crankFailTimer = s.fcl.crankFailTimer) (hcause : t.fcl.crankFailCause = s.fcl.crankFailCause) :
    CrankFailTimed t := by
  unfold CrankFailTimed; rw [hactive, htimer, hcause]; exact hs

theorem CrankFailTimed.of_fcl {s t : State} (hs : CrankFailTimed s) (h : t.fcl = s.fcl) : CrankFailTimed t :=
  hs.of_same (faultActive_of_fcl h _) (h ▸ rfl) (h ▸ rfl)

theorem crankFailTimed_raiseFault {k : FaultKind} (hk : k ≠ .crankFail) {s : State} (hs : CrankFailTimed s) :
    CrankFailTimed (raiseFault k s) :=
  hs.of_same (faultActive_raiseFault_ne hk.symm s) (raiseFault_crankFail k s).1 (raiseFault_crankFail k s).2

theorem crankFailTimed_clearFault {k : FaultKind} {s : State} (hs : CrankFailTimed s) : CrankFailTimed (clearFault k s) :=
  hs.of_same (crankFail_clearFault k s) (clearFault_crankFail k s).1 (clearFault_crankFail k s).2

theorem crankFailTimed_raiseCrankFail (c : Cause) (s : State) : CrankFailTimed (raiseCrankFail c s) := by
  have hactive : (raiseCrankFail c s).faultActive .crankFail = true := raiseFault_active .crankFail s
  exact ⟨hactive.symm, hactive.symm⟩

theorem crankFailTimed_faultResetFaults {s : State} (hs : CrankFailTimed s) : CrankFailTimed (faultResetFaults s) :=
  hs.of_same (by simp [faultResetFaults, State.faultActive, FaultKind.lockout]) rfl rfl

theorem Move.keeps_crankFailTimed {s t : State} (h : Move s t) (hs : CrankFailTimed s) : CrankFailTimed t := by
  cases h with
  | raise k s hk => exact crankFailTimed_raiseFault (fun h => by subst h; cases hk) hs
  | crankFail c s => exact crankFailTimed_raiseCrankFail c s
  | clear => exact crankFailTimed_clearFault hs
  | _ => exact hs.of_fcl (by first | rfl | simp)

theorem LinkAct.keeps_crankFailTimed {s t : State} (h : LinkAct s t) (hs : CrankFailTimed s) : CrankFailTimed t := by
  cases h with
  | move hmove => exact hmove.keeps_crankFailTimed hs
  | duplicate => exact crankFailTimed_raiseFault (by decide) hs
  | _ => exact hs.of_same rfl rfl rfl

theorem Act.keeps_crankFailTimed {allowed : Special → Prop} {s t : State} (h : Act allowed s t) (hs : CrankFailTimed s) :
    CrankFailTimed t := by
  cases h with
  | move hmove => exact hmove.keeps_crankFailTimed hs
  | link hlink => exact hlink.keeps_crankFailTimed hs
  | raise k s hk => exact crankFailTimed_raiseFault hk hs
  | clear => exact crankFailTimed_clearFault hs
  | faultsReset => exact crankFailTimed_faultResetFaults hs
  | crankFailEnds s =>
    have hinactive : (dropKind .crankFail s.fcl.active).contains .crankFail = false := by simp [dropKind]
    exact ⟨hinactive.symm, hinactive.symm⟩
  | idle => exact hs.of_fcl (by simp)
  | _ => exact hs.of_same rfl rfl rfl

theorem tick_keeps_noticesListed {s : State} (hs : NoticesListed s) : NoticesListed (tick s) := by
  unfold tick; split <;> exact hs

theorem tick_keeps_crankFailTimed {s : State} (hs : CrankFailTimed s) : CrankFailTimed (tick s) := by
  unfold tick; split
  · exact hs
  · exact ⟨(Option.isSome_map).trans hs.1, hs.2⟩

/-- Settles O59: each act that adds a notice looks for it first, and CRANK_FAIL's cause and timer move with the kind. -/
theorem faultRecordsStayListed : Obligations.FaultRecordsStayListed :=
  ⟨fun _ _ => step_keeps (P := NoticesListed) (fun _ => tick_keeps_noticesListed) (fun _ _ h => h)
      (exec_keeps (fun _ _ => Act.keeps_noticesListed) fun _ => List.nodup_nil),
    fun _ _ => step_keeps (P := CrankFailTimed) (fun _ => tick_keeps_crankFailTimed) (fun _ _ h => h)
      (exec_keeps (fun _ _ => Act.keeps_crankFailTimed) fun _ => ⟨rfl, rfl⟩)⟩

/-! ## The queue -/

theorem Move.outer_eq {s t : State} (h : Move s t) : t.outer = s.outer := by
  cases h <;> first | rfl | simp

/-- What lies outside the deciding blocks stays through a chain of moves. -/
theorem moves_outer {s t : State} (h : Moves s t) : t.outer = s.outer := h.same fun _ _ => Move.outer_eq

theorem LinkAct.pending_eq {s t : State} (h : LinkAct s t) : t.pending = s.pending := by
  cases h with
  | move hmove => exact congrArg Outer.pending hmove.outer_eq
  | duplicate => exact congrArg Outer.pending (outer_raiseFault _ s)
  | _ => rfl

theorem Act.pending_eq {allowed : Special → Prop} {s t : State} (h : Act allowed s t) : t.pending = s.pending := by
  cases h with
  | move hmove => exact congrArg Outer.pending hmove.outer_eq
  | link hlink => exact hlink.pending_eq
  | raise => exact congrArg Outer.pending (outer_raiseFault _ s)
  | clear => exact congrArg Outer.pending (outer_clearFault _ s)
  | idle => exact congrArg Outer.pending (outer_enterIdle s)
  | _ => rfl

/-- Settles O3: no act touches the queue. -/
theorem everyCommandAnswersAndKeepsTheQueue : Obligations.EveryCommandAnswersAndKeepsTheQueue := by
  intro c s
  obtain ⟨t, hexec⟩ := exec_answers c s
  refine ⟨t, hexec, ?_⟩
  by_cases hc : c = .powerOnReset
  · subst hc; cases hexec; rfl
  · exact (acts_exec (allowed := fun _ => True) hc (fun _ _ => trivial) (fun _ => trivial) hexec).keeps
      (P := fun u => u.pending = s.pending) (fun _ _ hact h => hact.pending_eq.trans h) rfl

/-! ## The configuration (R13, R19, R167, R170) -/

theorem CommitFitsLink.of_outer {s t : State} (hs : CommitFitsLink s) (houter : t.outer = s.outer)
    (hlink : t.clc.linkState = s.clc.linkState) : CommitFitsLink t := by
  have hmpt : t.mpt = s.mpt := congrArg Outer.mpt houter
  have hreset : t.inReset = s.inReset := congrArg Outer.inReset houter
  unfold CommitFitsLink; rw [hmpt, hreset, hlink]; exact hs

/-- The link state may change from one that is not CONFIG to another. -/
theorem CommitFitsLink.setLink {s : State} (hs : CommitFitsLink s) {l : LinkState} (hold : s.clc.linkState ≠ .config)
    (hnew : l ≠ .config) : CommitFitsLink (setLink l s) := by
  refine ⟨hs.1, ?_⟩
  rcases hs.2 with ⟨hl, _⟩ | ⟨_, hcommitted⟩
  · exact absurd hl hold
  · exact Or.inr ⟨hnew, hcommitted⟩

@[simp] theorem raiseFault_clc (k : FaultKind) (s : State) : (raiseFault k s).clc = s.clc := by unfold raiseFault; split <;> rfl

@[simp] theorem clearFault_clc (k : FaultKind) (s : State) : (clearFault k s).clc = s.clc := by unfold clearFault; split <;> rfl

@[simp] theorem raiseCrankFail_clc (c : Cause) (s : State) : (raiseCrankFail c s).clc = s.clc := raiseFault_clc _ s

@[simp] theorem withdraw_clc (c : Client) (s : State) : (withdraw c s).clc = s.clc := by unfold withdraw; split <;> rfl

@[simp] theorem grantSlot_clc (c : Client) (s : State) : (grantSlot c s).clc = s.clc := by unfold grantSlot; split <;> rfl

@[simp] theorem post_clc (c : Client) (r : Request) (s : State) : (post c r s).clc = s.clc := by
  unfold post; simp only []; split
  · exact grantSlot_clc _ _
  · rfl

@[simp] theorem enterIdle_clc (s : State) : (enterIdle s).clc = s.clc := by
  unfold enterIdle; simp only []; split
  · exact grantSlot_clc _ _
  · rfl

theorem Move.keeps_commitFitsLink {s t : State} (h : Move s t) (hs : CommitFitsLink s) : CommitFitsLink t := by
  cases h with
  | link s hold => exact hs.setLink (by rcases hold with h | h <;> rw [h] <;> decide) (joinedOrAlone_ne_config s)
  | _ => exact hs.of_outer (by first | rfl | simp) (by first | rfl | simp)

theorem CommitFitsLink.uncommitted {s : State} (hs : CommitFitsLink s) (h : ∀ cause, s.mpt.commitState ≠ .committed cause) :
    s.clc.linkState = .config ∧ s.mpt.committed = none := by
  rcases hs.2 with hconfig | ⟨_, _, cause, hc⟩
  · exact hconfig
  · exact absurd hc (h cause)

theorem LinkAct.keeps_commitFitsLink {s t : State} (h : LinkAct s t) (hs : CommitFitsLink s) : CommitFitsLink t := by
  cases h with
  | move hmove => exact hmove.keeps_commitFitsLink hs
  | clc c s hlink =>
    unfold CommitFitsLink
    rw [show ({ s with clc := c } : State).clc.linkState = s.clc.linkState from hlink]; exact hs
  | leave l s hold hnew => exact hs.setLink (by rcases hold with h | h <;> rw [h] <;> decide) hnew
  | silence s hcommitted =>
    rcases hs.2 with ⟨_, hnone⟩ | ⟨hl, _⟩
    · rw [hnone] at hcommitted; cases hcommitted
    · exact hs.setLink hl (by decide)
  | duplicate => exact hs.of_outer (by simp) (by simp)
  | _ => exact hs

theorem Act.keeps_commitFitsLink {allowed : Special → Prop} {s t : State} (h : Act allowed s t) (hs : CommitFitsLink s) :
    CommitFitsLink t := by
  cases h with
  | move hmove => exact hmove.keeps_commitFitsLink hs
  | link hlink => exact hlink.keeps_commitFitsLink hs
  | commit c cause s hopen =>
    refine ⟨fun hr => ?_, Or.inr ⟨by simp [commitLink], rfl, cause, rfl⟩⟩
    have hcleared := hs.1 hr
    rw [hopen] at hcleared; cases hcleared
  | mpt m s _ hstate hconfig =>
    unfold CommitFitsLink
    rw [show ({ s with mpt := m } : State).mpt.commitState = s.mpt.commitState from hstate,
      show ({ s with mpt := m } : State).mpt.committed = s.mpt.committed from hconfig]
    exact hs
  | raise => exact hs.of_outer (by simp) (by simp)
  | clear => exact hs.of_outer (by simp) (by simp)
  | idle => exact hs.of_outer (by simp) (by simp)
  | release x s hreset =>
    have hcleared := hs.1 hreset
    exact ⟨(fun h => nomatch h), Or.inl (hs.uncommitted fun cause hc => nomatch hcleared.symm.trans hc)⟩
  | _ => exact hs

/-- The configuration as `u` has it stands committed. -/
structure CommittedAs (u s : State) : Prop where
  running : s.inReset = false
  state : s.mpt.commitState = u.mpt.commitState
  config : s.mpt.committed = u.mpt.committed
  straps : s.mpt.straps = u.mpt.straps
  buffer : s.mpt.buffer = u.mpt.buffer ∧ s.mpt.overrideWritten = u.mpt.overrideWritten
  flags : s.mpt.accepted = u.mpt.accepted ∧ s.mpt.rejected = u.mpt.rejected

theorem CommittedAs.of_outer {u s t : State} (hs : CommittedAs u s) (houter : t.outer = s.outer) : CommittedAs u t := by
  have hmpt : t.mpt = s.mpt := congrArg Outer.mpt houter
  have hreset : t.inReset = s.inReset := congrArg Outer.inReset houter
  constructor
  · rw [hreset]; exact hs.running
  all_goals rw [hmpt]
  · exact hs.state
  · exact hs.config
  · exact hs.straps
  · exact hs.buffer
  · exact hs.flags

theorem LinkAct.keeps_committedAs {u s t : State} (h : LinkAct s t) (hs : CommittedAs u s) : CommittedAs u t := by
  cases h with
  | move hmove => exact hs.of_outer hmove.outer_eq
  | duplicate => exact hs.of_outer (by simp)
  | _ => exact ⟨hs.running, hs.state, hs.config, hs.straps, hs.buffer, hs.flags⟩

/-- No act changes a committed configuration. -/
theorem Act.keeps_committedAs {allowed : Special → Prop} {u s t : State} {cause : CommitCause}
    (hcommitted : u.mpt.commitState = .committed cause) (h : Act allowed s t) (hs : CommittedAs u s) : CommittedAs u t := by
  cases h with
  | move hmove => exact hs.of_outer hmove.outer_eq
  | link hlink => exact hlink.keeps_committedAs hs
  | commit c cause' s hopen => exact nomatch hopen.symm.trans (hs.state.trans hcommitted)
  | mpt m s hstraps hstate hconfig hflags hbuffer =>
    have hbuf := hbuffer (fun hopen => nomatch hopen.symm.trans (hs.state.trans hcommitted))
    exact ⟨hs.running, hstate.trans hs.state, hconfig.trans hs.config, hstraps.trans hs.straps,
      ⟨hbuf.1.trans hs.buffer.1, hbuf.2.trans hs.buffer.2⟩, ⟨hflags.1.trans hs.flags.1, hflags.2.trans hs.flags.2⟩⟩
  | raise => exact hs.of_outer (by simp)
  | clear => exact hs.of_outer (by simp)
  | idle => exact hs.of_outer (by simp)
  | release x s hreset => exact nomatch hreset.symm.trans hs.running
  | _ => exact ⟨hs.running, hs.state, hs.config, hs.straps, hs.buffer, hs.flags⟩

theorem tick_keeps_commitFitsLink {s : State} (hs : CommitFitsLink s) : CommitFitsLink (tick s) := by
  unfold tick; split <;> exact hs

/-- Settles O53: an act that forms a configuration needs the commit still open. -/
theorem committedConfigurationStays : Obligations.CommittedConfigurationStays := by
  refine ⟨fun c cause s t hc hreset hcommitted hexec => ?_, fun s t => ?_⟩
  · have ht : CommittedAs s t := (acts_exec (allowed := fun _ => True) hc (fun _ _ => trivial) (fun _ => trivial) hexec).keeps
      (fun _ _ hact => hact.keeps_committedAs hcommitted) ⟨hreset, rfl, rfl, rfl, ⟨rfl, rfl⟩, ⟨rfl, rfl⟩⟩
    exact ⟨ht.config, ht.state, ht.straps, ht.buffer.1, ht.buffer.2, ht.flags.1, ht.flags.2⟩
  · exact step_keeps (P := CommitFitsLink) (fun _ => tick_keeps_commitFitsLink) (fun _ _ h => h)
      (exec_keeps (fun _ _ => Act.keeps_commitFitsLink) fun _ => ⟨fun _ => rfl, Or.inl ⟨rfl, rfl⟩⟩)

/-! ## Reset -/

/-- Settles O60: the values of power-on reset. -/
theorem invariantsHoldAtReset : Obligations.InvariantsHoldAtReset :=
  ⟨rfl, (absurd · Bool.false_ne_true), (absurd · Bool.false_ne_true), fun c => by cases c <;> rfl, faultSetListed_of_active_nil rfl, List.nodup_nil,
    ⟨rfl, rfl⟩, ⟨fun _ => rfl, Or.inl ⟨rfl, rfl⟩⟩⟩

end Sys2Proof.Machine
end

section
/-! What each group of commands leaves unchanged: views of the state that no move of the deciding blocks changes. -/

namespace Sys2Proof.Machine

/-! ## Views that no move changes -/

/-- A view of the state that the deciding blocks leave as it is. -/
structure Unmoved {α : Type} (f : State → α) : Prop where
  move : ∀ {s t : State}, Move s t → f t = f s
  raise : ∀ (k : FaultKind) (s : State), f (raiseFault k s) = f s
  clear : ∀ (k : FaultKind) (s : State), f (clearFault k s) = f s

theorem Unmoved.moves {α : Type} {f : State → α} (hf : Unmoved f) {s t : State} (h : Moves s t) : f t = f s :=
  h.same fun _ _ => hf.move

theorem Unmoved.react {α : Type} {f : State → α} (hf : Unmoved f) (old s : State) : f (Machine.react old s) = f s :=
  hf.moves (moves_react (.refl s))

theorem Unmoved.comp {α β : Type} {f : State → α} (hf : Unmoved f) (g : α → β) : Unmoved fun s => g (f s) :=
  ⟨fun h => congrArg g (hf.move h), fun k s => congrArg g (hf.raise k s), fun k s => congrArg g (hf.clear k s)⟩

theorem Unmoved.pair {α β : Type} {f : State → α} {g : State → β} (hf : Unmoved f) (hg : Unmoved g) :
    Unmoved fun s => (f s, g s) :=
  ⟨fun h => Prod.ext (hf.move h) (hg.move h), fun k s => Prod.ext (hf.raise k s) (hg.raise k s),
    fun k s => Prod.ext (hf.clear k s) (hg.clear k s)⟩

/-- The channel's tag, health and sensor records, timers, reply line and count. -/
def State.devices (s : State) :=
  (s.erc.tag, s.erc.health, s.erc.sensor, s.erc.pollTimer, s.erc.replyTimer, s.erc.replyLine, s.erc.lateReply)

/-- The demand reading with its timer, and the derate conditions. -/
def State.demands (s : State) := (s.nsp.reading, s.nsp.demandTimer, s.nsp.derates)

theorem keepsDevices_iff {s t : State} : KeepsDevices s t ↔ t.devices = s.devices := by
  simp only [KeepsDevices, State.devices, Prod.mk.injEq]

theorem keepsDemandAndDerates_iff {s t : State} : KeepsDemandAndDerates s t ↔ t.demands = s.demands := by
  simp only [KeepsDemandAndDerates, State.demands, Prod.mk.injEq]

theorem keepsOutside_of_outer {s t : State} (h : t.outer = s.outer) : KeepsOutside s t := by
  obtain ⟨hclc, hrest⟩ := (outer_eq_iff t s).mp h
  exact ⟨congrArg (fun c : Clc => { c with linkState := s.clc.linkState }) hclc, hrest⟩

theorem unmoved_outer : Unmoved State.outer := ⟨Move.outer_eq, outer_raiseFault, outer_clearFault⟩

theorem devices_grantSlot (c : Client) (s : State) : (grantSlot c s).devices = s.devices := by unfold grantSlot; split <;> rfl

theorem devices_post (c : Client) (r : Request) (s : State) : (post c r s).devices = s.devices := by
  unfold post; simp only []; split
  · exact devices_grantSlot _ _
  · rfl

theorem devices_of_erc {s t : State} (h : t.erc = s.erc) : t.devices = s.devices := by unfold State.devices; rw [h]

theorem unmoved_devices : Unmoved State.devices where
  raise _ _ := devices_of_erc (by simp)
  clear _ _ := devices_of_erc (by simp)
  move h := by
    cases h with
    | withdraw => unfold withdraw; split <;> rfl
    | post => exact devices_post _ _ _
    | _ => exact devices_of_erc (by first | rfl | simp)

theorem demands_of_nsp {s t : State} (h : t.nsp = s.nsp) : t.demands = s.demands := by unfold State.demands; rw [h]

@[simp] theorem raiseFault_nsp (k : FaultKind) (s : State) : (raiseFault k s).nsp = s.nsp := by unfold raiseFault; split <;> rfl

@[simp] theorem raiseCrankFail_nsp (c : Cause) (s : State) : (raiseCrankFail c s).nsp = s.nsp := raiseFault_nsp _ s

theorem unmoved_demands : Unmoved State.demands where
  raise _ _ := demands_of_nsp (by simp)
  clear _ _ := demands_of_nsp (by unfold clearFault; split <;> rfl)
  move h := by
    cases h with
    | nsp n s' hreading htimer hderates => simp only [State.demands, hreading, htimer, hderates]
    | clear => exact demands_of_nsp (by unfold clearFault; split <;> rfl)
    | withdraw => exact demands_of_nsp (by unfold withdraw; split <;> rfl)
    | post => exact demands_of_nsp (by simp)
    | _ => exact demands_of_nsp (by first | rfl | simp)

/-! ## Timer commands -/

/-- What lies outside SSQ, NSP, CPA's claim and FCL, but the slots and the sequencer: all that no move changes. -/
def State.still (s : State) :=
  (s.outer, s.devices, s.demands)

theorem unmoved_still : Unmoved State.still := unmoved_outer.pair (unmoved_devices.pair unmoved_demands)

theorem keeps_of_still {s t : State} (h : t.still = s.still) : KeepsOutside s t ∧ KeepsDevices s t ∧ KeepsDemandAndDerates s t := by
  simp only [State.still, Prod.mk.injEq] at h
  obtain ⟨houter, hdevices, hdemands⟩ := h
  exact ⟨keepsOutside_of_outer houter, keepsDevices_iff.mpr hdevices, keepsDemandAndDerates_iff.mpr hdemands⟩

theorem exec_timer_still {c : Instr} {s t : State} (hc : c ∈ timerCommands) (hexec : exec c s = .next t) : t.still = s.still := by
  by_cases hphase : isPhaseCommand c = true
  · exact unmoved_still.moves (moves_exec hphase hexec)
  have hdirect : c = .disagreementTimerExpiry ∨ c = .deviationWatchExpiry ∨ c = .crankFailHoldExpiry := by
    simp only [timerCommands, List.mem_cons, List.not_mem_nil, or_false] at hc
    rcases hc with rfl | rfl | rfl | rfl | rfl | rfl | rfl | rfl | rfl | rfl | rfl | rfl | rfl | rfl | rfl | rfl <;>
      simp_all [isPhaseCommand]
  rcases hdirect with rfl | rfl | rfl
  · cases hexec; split
    · rfl
    · exact unmoved_still.raise _ _
  · cases hexec; split
    · rfl
    · exact unmoved_still.raise _ _
  · cases hexec; split <;> rfl

/-! ## Demand and derates -/

theorem takeDemand_kept {α : Type} {f : State → α} (hf : Unmoved f) (hnsp : ∀ n s, n.derates = s.nsp.derates → f { s with nsp := n } = f s)
    (s : State) : f (takeDemand s) = f s := by
  unfold takeDemand; simp only []; split
  · exact (hf.clear _ _).trans (hnsp _ s rfl)
  · exact (hf.raise _ _).trans (hnsp _ s rfl)

theorem applyDerate_kept {α : Type} {f : State → α} (hf : Unmoved f) (hnsp : ∀ n s, n.reading = s.nsp.reading → f { s with nsp := n } = f s)
    (c : Derate) (s : State) : f (applyDerate c s) = f s := by
  have hset : f (setDerate c ⟨true, none, none⟩ s) = f s := hnsp _ s rfl
  have hraised : f (if c = .coolantVeryHigh then raiseFault .coolantHot (setDerate c ⟨true, none, none⟩ s)
      else setDerate c ⟨true, none, none⟩ s) = f s := by
    split
    · exact (hf.raise _ _).trans hset
    · exact hset
  unfold applyDerate; simp only []
  generalize (if c = .coolantVeryHigh then raiseFault .coolantHot (setDerate c ⟨true, none, none⟩ s)
      else setDerate c ⟨true, none, none⟩ s) = u at hraised ⊢
  unfold derateUrgent; split
  · exact (hf.moves (moves_urgentTest (.refl _))).trans hraised
  · exact hraised

theorem releaseDerate_kept {α : Type} {f : State → α} (hf : Unmoved f) (hnsp : ∀ n s, n.reading = s.nsp.reading → f { s with nsp := n } = f s)
    (c : Derate) (s : State) : f (releaseDerate c s) = f s := by
  have hset : f (setDerate c ⟨false, none, none⟩ s) = f s := hnsp _ s rfl
  unfold releaseDerate; simp only []; split
  · exact (hf.clear _ _).trans hset
  · exact hset

/-! ## The command lines -/

section
variable {α : Type} {f : State → α} (hf : Unmoved f) (hlmn : ∀ m s, f { s with lmn := m } = f s) (hfree : ∀ s, f (useFree s) = f s)
include hf hlmn

omit hf in
theorem takeEdge_kept {l : Line} {v : Bool} {act : State → State} {s : State} (hact : f (act (setLevel l v s)) = f (setLevel l v s)) :
    f (takeEdge l v act s) = f s := by
  unfold takeEdge; simp only []; split
  · exact hact.trans (hlmn _ s)
  · exact hlmn _ s

theorem estopRelease_kept (s : State) : f (estopRelease s) = f s := by
  have hcleared : f (clearFault .emergencyStop (setLevel .estop false s)) = f s := (hf.clear _ _).trans (hlmn _ s)
  unfold estopRelease; simp only []; split
  · exact (hf.moves (moves_triggerTest (.refl _))).trans hcleared
  · exact hcleared

omit hlmn in
theorem ssqEstop_kept (s : State) : f (ssqEstop s) = f s := by
  have hmoves (u : State) : Moves (raiseFault .emergencyStop u) (ssqEstop u) := by
    have hemptied := moves_ssq (.refl (raiseFault .emergencyStop u)) { (raiseFault .emergencyStop u).ssq with seqList := [] } (by rfl)
    unfold ssqEstop; simp only []; split
    · exact hemptied
    · exact hemptied
    · exact moves_setReason (moves_protectiveSequence (moves_clearFuel hemptied))
    · exact moves_protectiveShutdown hemptied
  exact (hf.moves (hmoves s)).trans (hf.raise _ s)

include hfree in
theorem estopAssertion_kept (s : State) : f (estopAssertion s) = f s := by
  have hfirst : f (refuseFirst s) = f s := by
    unfold refuseFirst; split
    · split
      · exact (hf.moves (moves_inhibitPending _)).trans (hfree s)
      · exact hfree s
    · rfl
  unfold estopAssertion
  calc f (inhibitPending (ssqEstop (setLevel .estop true (refuseFirst s))))
      = f (ssqEstop (setLevel .estop true (refuseFirst s))) := hf.moves (moves_inhibitPending _)
    _ = f (setLevel .estop true (refuseFirst s)) := ssqEstop_kept hf _
    _ = f (refuseFirst s) := hlmn _ _
    _ = f s := hfirst

include hfree in
/-- Taking a level, but that of FRESET, is moves and settings of the Line Monitors, with one free value used. -/
theorem takeLevel_kept {l : Line} (hl : l ≠ .freset) (v : Bool) (s : State) : f (takeLevel l v s) = f s := by
  cases l with
  | start => exact takeEdge_kept hlmn (hf.moves (moves_startRequest (.refl _)))
  | stop => exact takeEdge_kept hlmn (hf.moves (moves_stopRequest (.refl _)))
  | freset => exact absurd rfl hl
  | estop =>
    simp only [takeLevel]; split
    · exact estopAssertion_kept hf hlmn hfree s
    · split
      · exact hlmn _ s
      · exact estopRelease_kept hf hlmn s
  | runIso =>
    unfold takeLevel; simp only []; split
    · exact (hf.moves (moves_urgentTest (.refl _))).trans (hlmn _ s)
    · exact hlmn _ s

include hfree in
theorem exec_lineStability_kept {l : Line} (hl : l ≠ .freset) {s t : State} (hexec : exec (.lineStabilityExpiry l) s = .next t) :
    f t = f s := by
  cases hexec; split
  · rfl
  · simp only []; split
    · exact hlmn _ s
    · exact (hf.react _ _).trans ((takeLevel_kept hf hlmn hfree hl _ _).trans (hlmn _ s))

end

/-! ## Speed and battery -/

section
variable {α : Type} {f : State → α} (hf : Unmoved f) (hlmn : ∀ m s, m.lines = s.lmn.lines → f { s with lmn := m } = f s)
  (hfree : ∀ s, f (useFree s) = f s)
include hf hlmn

theorem deliverGate_kept (i : Nat) (s : State) : f (deliverGate i s) = f s := by
  unfold deliverGate; split
  · calc f (setForce false (ssqOverspeed (setForce true s)))
        = f (ssqOverspeed (setForce true s)) := hlmn _ _ rfl
      _ = f (setForce true s) := hf.moves (moves_ssqOverspeed (.refl _))
      _ = f s := hlmn _ s rfl
  · exact hf.moves (moves_ssqGate (.refl s))

omit hlmn in
theorem watchGate_kept (i : Nat) (s : State) : f (watchGate i s) = f s := by
  refine hf.moves (s := s) ?_
  have hwatched : Moves s
      (match s.nsp.watch with
       | some w => if s.inBand w.notch i then { s with nsp := { s.nsp with watch := none } } else s
       | none => s) := by
    split
    · exact moves_ite (.refl s) (moves_nsp (.refl s) _ (by rfl))
    · exact .refl s
  exact moves_ite hwatched (moves_clear hwatched rfl)

theorem detectSag_kept (i : Nat) (s : State) : f (detectSag i s) = f s := by
  have hsag : f (takeSag s) = f s :=
    (hf.moves (moves_ssqSag (.refl _))).trans ((hf.raise _ _).trans (hlmn _ s rfl))
  have hrecovery : f (takeRecovery s) = f s := (hf.clear _ _).trans (hlmn _ s rfl)
  unfold detectSag; repeat' split
  all_goals first | exact hsag | exact hrecovery | exact hlmn _ s rfl

theorem sampleEvent_kept (i : Nat) (s : State) : f (sampleEvent i s) = f s := by
  unfold sampleEvent takeSample
  refine (hf.react _ _).trans ?_
  refine (hf.moves (moves_autostopTest (moves_triggerTest (moves_grantTest (.refl _))))).trans ?_
  exact (detectSag_kept hf hlmn i _).trans (hlmn _ s rfl)

include hfree in
theorem exec_monitor_kept {c : Instr} {s t : State}
    (hc : c = .gateEnd ∨ c = .silenceTimerExpiry ∨ c = .sagEvent ∨ c = .sagRecovery ∨ (∃ mv, c = .batterySample mv))
    (hexec : exec c s = .next t) : f t = f s := by
  rcases hc with rfl | rfl | rfl | rfl | ⟨mv, rfl⟩
  · cases hexec; split
    · rfl
    · exact (hf.react _ _).trans ((watchGate_kept hf _ _).trans ((deliverGate_kept hf hlmn _ _).trans (hlmn _ s rfl)))
  · cases hexec; split
    · rfl
    · exact (hf.react _ _).trans ((hf.moves (moves_ssqSilence (.refl _))).trans (hlmn _ s rfl))
  · cases hexec; split
    · exact (sampleEvent_kept hf hlmn _ _).trans (hfree s)
    · rfl
  · cases hexec; split
    · exact (sampleEvent_kept hf hlmn _ _).trans (hfree s)
    · rfl
  · cases hexec; split
    · rfl
    · exact sampleEvent_kept hf hlmn _ _

end

/-! ## The link -/

theorem LinkAct.same {α : Type} {f : State → α} (hf : Unmoved f) (hclc : ∀ c s, f { s with clc := c } = f s)
    (htable : ∀ v s, f { s with table := v } = f s) (hcpa : ∀ v s, f { s with cpa := v } = f s) (hfree : ∀ s, f (useFree s) = f s)
    (hfcl : ∀ v s, f { s with fcl := v } = f s) {s t : State} (h : LinkAct s t) : f t = f s := by
  cases h with
  | move hmove => exact hf.move hmove
  | clc c s => exact hclc c s
  | leave l s => exact hclc _ s
  | silence s => exact hclc _ s
  | table v s => exact htable v s
  | holds v s => exact hcpa _ s
  | claim g s => exact hcpa _ s
  | free s => exact hfree s
  | duplicate s => exact hf.raise _ s
  | published s => exact hfcl _ s

/-! ## Endings of transactions -/

section
variable {α : Type} {f : State → α} (hf : Unmoved f) (herc : ∀ e s, e.pollTimer = s.erc.pollTimer → f { s with erc := e } = f s)
  (hnsp : ∀ n s, n.reading = s.nsp.reading → f { s with nsp := n } = f s)
include hf herc

omit hf in
theorem sensorsReturn_kept (old s : State) : f (sensorsReturn old s) = f s := by
  unfold sensorsReturn; split
  · exact herc _ s rfl
  · rfl

include hnsp in
theorem becomeFailed_kept (d : Device) (s : State) : f (becomeFailed d s) = f s := by
  have hstale : f (if d = .sensors ∧ s.erc.sensor.state = .valid then setRecordState .stale s else s) = f s := by
    split
    · exact herc _ s rfl
    · rfl
  have hssq (u : State) : f (nspDeviceFailed d (ssqDeviceFailed d u)) = f u := by
    have hmoved : f (ssqDeviceFailed d u) = f u := hf.moves (moves_ssqDeviceFailed (.refl u))
    cases d with
    | load => exact (hf.moves (moves_urgentTest (.refl _))).trans hmoved
    | sensors =>
      have hstopped (v : State) : f (stopDerateTimers v) = f v := hnsp _ v rfl
      exact (hstopped _).trans hmoved
    | _ => exact hmoved
  exact (hf.raise _ _).trans ((hssq _).trans hstale)

include hnsp in
theorem changeHealth_kept (d : Device) (x : Health) (s : State) : f (changeHealth d x s) = f s := by
  have hset : f (setHealth d x s) = f s := herc _ s rfl
  unfold changeHealth; simp only []; split
  · exact (becomeFailed_kept hf herc hnsp d _).trans hset
  · split
    · exact (hf.clear _ _).trans hset
    · exact hset

include hnsp in
theorem healthStep_kept (tr : Transaction) (e : Ending) (s : State) : f (healthStep tr e s) = f s := by
  have hchanged (x : Health) : f (changeHealth tr.request.order.device x s) = f s := changeHealth_kept hf herc hnsp _ x s
  have htested (c : Prop) [Decidable c] (u : State) : f (if c then autostopTest u else u) = f u := by
    split
    · exact hf.moves (moves_autostopTest (.refl u))
    · rfl
  unfold healthStep; simp only []; split
  · exact (htested _ _).trans (hchanged _)
  · exact (sensorsReturn_kept herc _ _).trans ((htested _ _).trans (hchanged _))

include hnsp in
theorem sensorStep_kept (tr : Transaction) (e : Ending) (s : State) : f (sensorStep tr e s) = f s := by
  have hupdated (v : State) : f (updateDerates v) = f v := hnsp _ v rfl
  unfold sensorStep; split
  · split
    · exact (hupdated _).trans ((hf.moves (moves_ssqSensorUpdate (.refl _))).trans (herc _ s rfl))
    · rfl
  · rfl

theorem clientEnding_kept (tr : Transaction) (e : Ending) (s : State) : f (clientEnding tr e s) = f s := by
  rw [clientEnding_eq]
  have hfreed : f (setSlot tr.client .empty s) = f s := herc _ s rfl
  have hempty : ((setSlot tr.client .empty s).erc.slots.get tr.client).isEmpty = true := by simp [setSlot, Slot.isEmpty]
  generalize setSlot tr.client .empty s = u at hfreed hempty ⊢
  refine Eq.trans ?_ hfreed
  unfold clientActs; split
  · split
    · exact hf.moves (moves_unloadEnding (.refl u))
    · exact hf.moves (moves_protEnding (.refl u))
  · exact hf.moves (moves_seqEnding (.refl u))
  next hc => exact hf.moves (moves_notchEnding (.refl u) (by rw [← hc]; exact hempty))
  · rfl

omit hf in
theorem enterIdle_kept (s : State) : f (enterIdle s) = f s := by
  have hgrant (c : Client) (u : State) : f (grantSlot c u) = f u := by
    unfold grantSlot; split
    · exact herc _ u rfl
    · rfl
  unfold enterIdle; simp only []; split
  · exact (hgrant _ _).trans (herc _ s rfl)
  · exact herc _ s rfl

include hnsp in
theorem transactionEnd_kept (e : Ending) (s : State) : f (transactionEnd e s) = f s := by
  unfold transactionEnd; split
  · exact enterIdle_kept herc s
  next tr _ =>
    calc f (enterIdle (react s (clientEnding tr e (sensorStep tr e (healthStep tr e s)))))
        = f (react s (clientEnding tr e (sensorStep tr e (healthStep tr e s)))) := enterIdle_kept herc _
      _ = f (clientEnding tr e (sensorStep tr e (healthStep tr e s))) := hf.react _ _
      _ = f (sensorStep tr e (healthStep tr e s)) := clientEnding_kept hf herc tr e _
      _ = f (healthStep tr e s) := sensorStep_kept hf herc hnsp tr e _
      _ = f s := healthStep_kept hf herc hnsp tr e s

include hnsp in
theorem exec_ending_kept {c : Instr} {s t : State} (hc : c = .replyTimeout ∨ ∃ ws, c = .replyTaken ws) (hexec : exec c s = .next t) :
    f t = f s := by
  rcases hc with rfl | ⟨ws, rfl⟩
  · cases hexec; split
    · exact (transactionEnd_kept hf herc hnsp _ _).trans (herc _ s rfl)
    · rfl
  · have hquiet : f (replyQuiet s) = f s := herc _ s rfl
    have hlate (u : State) : f (countLateReply u) = f u := herc _ u rfl
    cases hexec; split
    · rfl
    · split
      · refine Eq.trans ?_ hquiet
        unfold takeReply; split
        · split
          · exact hlate _
          · split
            · exact transactionEnd_kept hf herc hnsp _ _
            · exact hlate _
        · exact hlate _
      · exact hquiet

end

/-! ## The frames -/

/-- What the Line Monitors' commands leave. -/
def State.monitorFrame (s : State) :=
  (s.table, s.mpt, s.pins, s.cpa.holds, s.clc.counters, s.devices, s.demands)

theorem unmoved_monitorFrame : Unmoved State.monitorFrame :=
  unmoved_still.comp fun x => (x.1.table, x.1.mpt, x.1.pins, x.1.holds, x.1.clc.counters, x.2)

/-- What the link's commands leave. -/
def State.linkFrame (s : State) := (s.lmn, s.mpt, s.pins, s.devices, s.demands)

theorem unmoved_linkFrame : Unmoved State.linkFrame := unmoved_still.comp fun x => (x.1.lmn, x.1.mpt, x.1.pins, x.2)

/-- What the ending of a transaction leaves. -/
def State.endingFrame (s : State) := (s.outer, s.nsp.reading, s.erc.pollTimer)

theorem unmoved_endingFrame : Unmoved State.endingFrame := unmoved_still.comp fun x => (x.1, x.2.2.1, x.2.1.2.2.2.1)

/-- What the taking of a demand code leaves. -/
def State.demandFrame (s : State) := (s.outer, s.devices, s.nsp.derates)

theorem unmoved_demandFrame : Unmoved State.demandFrame := unmoved_still.comp fun x => (x.1, x.2.1, x.2.2.2.2)

/-- What the derate timers leave. -/
def State.derateFrame (s : State) := (s.outer, s.devices, s.nsp.reading)

theorem unmoved_derateFrame : Unmoved State.derateFrame := unmoved_still.comp fun x => (x.1, x.2.1, x.2.2.1)

theorem exec_demand_frame {s t : State} (hexec : exec .demandStabilityExpiry s = .next t) : t.demandFrame = s.demandFrame := by
  have hnsp (n : Nsp) (u : State) (hn : n.derates = u.nsp.derates) : ({ u with nsp := n } : State).demandFrame = u.demandFrame := by
    unfold State.demandFrame; rw [← hn]; rfl
  cases hexec; split
  · rfl
  · exact (unmoved_demandFrame.react _ _).trans (takeDemand_kept unmoved_demandFrame hnsp s)

theorem exec_derate_frame {d : Derate} {s t : State}
    (hexec : exec (.derateApplyTimerExpiry d) s = .next t ∨ exec (.derateReleaseTimerExpiry d) s = .next t) :
    t.derateFrame = s.derateFrame := by
  have hnsp (n : Nsp) (u : State) (hn : n.reading = u.nsp.reading) : ({ u with nsp := n } : State).derateFrame = u.derateFrame := by
    unfold State.derateFrame; rw [← hn]; rfl
  rcases hexec with hexec | hexec
  · cases hexec; split
    · rfl
    · exact (unmoved_derateFrame.react _ _).trans (applyDerate_kept unmoved_derateFrame hnsp d s)
  · cases hexec; split
    · rfl
    · exact (unmoved_derateFrame.react _ _).trans (releaseDerate_kept unmoved_derateFrame hnsp d s)

/-- What the Line Monitors' own events leave: their frame and the command lines. -/
def State.linesFrame (s : State) := (s.monitorFrame, s.lmn.lines)

theorem unmoved_linesFrame : Unmoved State.linesFrame := unmoved_monitorFrame.pair (unmoved_outer.comp fun o => o.lmn.lines)

theorem exec_monitor_frame {c : Instr} {s t : State}
    (hc : c = .gateEnd ∨ c = .silenceTimerExpiry ∨ c = .sagEvent ∨ c = .sagRecovery ∨ (∃ mv, c = .batterySample mv))
    (hexec : exec c s = .next t) : t.linesFrame = s.linesFrame :=
  exec_monitor_kept unmoved_linesFrame (fun _ _ hm => Prod.ext rfl hm) (fun _ => rfl) hc hexec

theorem exec_link_frame {c : Instr} {s t : State} (hc : isLinkCommand c = true) (hexec : exec c s = .next t) :
    t.linkFrame = s.linkFrame :=
  (links_exec hc hexec).keeps (P := fun u => u.linkFrame = s.linkFrame)
    (fun _ _ hact h => (hact.same unmoved_linkFrame (fun _ _ => rfl) (fun _ _ => rfl) (fun _ _ => rfl) (fun _ => rfl)
      (fun _ _ => rfl)).trans h) rfl

theorem exec_ending_frame {c : Instr} {s t : State} (hc : c = .replyTimeout ∨ ∃ ws, c = .replyTaken ws)
    (hexec : exec c s = .next t) : t.endingFrame = s.endingFrame := by
  have herc (e : Erc) (u : State) (he : e.pollTimer = u.erc.pollTimer) : ({ u with erc := e } : State).endingFrame = u.endingFrame := by
    unfold State.endingFrame; rw [← he]; rfl
  have hnsp (n : Nsp) (u : State) (hn : n.reading = u.nsp.reading) : ({ u with nsp := n } : State).endingFrame = u.endingFrame := by
    unfold State.endingFrame; rw [← hn]; rfl
  exact exec_ending_kept unmoved_endingFrame herc hnsp hc hexec

/-- Settles O54: each group's acts are moves and settings of the blocks that are its own. -/
theorem commandsKeepWhatIsNotTheirs : Obligations.CommandsKeepWhatIsNotTheirs := by
  refine ⟨fun c s t hc hexec => keeps_of_still (exec_timer_still hc hexec), fun s t hexec => ?_, fun d s t hexec => ?_,
    fun l s t hl hexec => ?_, fun c s t hc hexec => ?_, fun c s t hc hexec => ?_, fun c s t hc hexec => ?_⟩
  · have hkept := exec_demand_frame hexec
    simp only [State.demandFrame, Prod.mk.injEq] at hkept
    obtain ⟨houter, hdevices, hderates⟩ := hkept
    exact ⟨keepsOutside_of_outer houter, keepsDevices_iff.mpr hdevices, hderates⟩
  · have hkept := exec_derate_frame hexec
    simp only [State.derateFrame, Prod.mk.injEq] at hkept
    obtain ⟨houter, hdevices, hreading⟩ := hkept
    exact ⟨keepsOutside_of_outer houter, keepsDevices_iff.mpr hdevices, hreading⟩
  · have hkept : t.monitorFrame = s.monitorFrame :=
      exec_lineStability_kept unmoved_monitorFrame (fun _ _ => rfl) (fun _ => rfl) hl hexec
    simp only [State.monitorFrame, Prod.mk.injEq] at hkept
    obtain ⟨htable, hmpt, hpins, hholds, hcounters, hdevices, hdemands⟩ := hkept
    exact ⟨htable, hmpt, hpins, hholds, keepsDevices_iff.mpr hdevices, keepsDemandAndDerates_iff.mpr hdemands, hcounters⟩
  · have hkept := exec_monitor_frame hc hexec
    simp only [State.linesFrame, State.monitorFrame, Prod.mk.injEq] at hkept
    obtain ⟨⟨htable, hmpt, hpins, hholds, hcounters, hdevices, hdemands⟩, hlines⟩ := hkept
    exact ⟨htable, hmpt, hpins, hholds, hlines, keepsDevices_iff.mpr hdevices, keepsDemandAndDerates_iff.mpr hdemands, hcounters⟩
  · have hlink : isLinkCommand c = true := by
      rcases hc with rfl | rfl | ⟨_, rfl⟩ | ⟨_, rfl⟩ | ⟨_, rfl⟩ <;> rfl
    have hkept := exec_link_frame hlink hexec
    simp only [State.linkFrame, Prod.mk.injEq] at hkept
    obtain ⟨hlmn, hmpt, hpins, hdevices, hdemands⟩ := hkept
    exact ⟨hlmn, hmpt, hpins, keepsDevices_iff.mpr hdevices, keepsDemandAndDerates_iff.mpr hdemands⟩
  · have hkept := exec_ending_frame hc hexec
    simp only [State.endingFrame, Prod.mk.injEq] at hkept
    exact ⟨keepsOutside_of_outer hkept.1, hkept.2⟩

end Sys2Proof.Machine
end

section
/-! The queue, reset and its release, the passing of one ms, and the commands that do no more than count, start or end one timer. -/

namespace Sys2Proof.Machine

/-! ## The queue and the passing of one ms -/

/-- Settles O1, by the definition of a step. -/
theorem stepTakesTheFrontCommand : Obligations.StepTakesTheFrontCommand := fun _ _ _ => rfl

theorem tick_of_running {s : State} (h : s.inReset = false) : tick s = { s with
    clc := s.clc.tick, cpa := s.cpa.tick, ssq := s.ssq.tick, nsp := s.nsp.tick, erc := s.erc.tick, lmn := s.lmn.tick,
    fcl := s.fcl.tick, mpt := s.mpt.tick } := by
  simp [tick, h]

/-- A record with more than 1 ms to go stays on the pair. -/
theorem tickTx_sending {r : SentRecord} (h : 1000 < r.leftUs) : tickTx (.sending r) = .sending { r with leftUs := r.leftUs - 1000 } := by
  have hleft : ¬ r.leftUs ≤ 1000 := Nat.not_le.mpr h
  obtain ⟨kind, octets, left⟩ := r
  cases kind with
  | check => rfl
  | _ => exact if_neg hleft

theorem tickBusy_sending {r : SentRecord} (h : 0 < r.leftUs) (b : Nat) : tickBusy (.sending r) b = r.leftUs + 80 :=
  if_pos h

theorem satAdd_eq (top n k : Nat) : satAdd top n k = min top (n + k) := rfl

/-- Settles O2: with no command waiting a step is one tick. -/
theorem idleStepPassesOneMillisecond : Obligations.IdleStepPassesOneMillisecond := by
  intro s hpending hreset
  have hstep : step s = .next (tick s) := by simp [step, hpending]
  have hrecord (r : SentRecord) (htx : s.clc.tx = .sending r) (hleft : 1000 < r.leftUs) :
      s.clc.tick.tx = .sending { r with leftUs := r.leftUs - 1000 } ∧ s.clc.tick.busyUs = r.leftUs - 1000 + 80 := by
    have htick : tickTx s.clc.tx = .sending { r with leftUs := r.leftUs - 1000 } := by rw [htx, tickTx_sending hleft]
    refine ⟨htick, ?_⟩
    simp only [Clc.tick, htick]
    rw [tickBusy_sending]
    show 0 < r.leftUs - 1000
    omega
  have hidle (htx : s.clc.tx = .idle) : s.clc.tick.busyUs = s.clc.busyUs - 1000 := by
    show tickBusy (tickTx s.clc.tx) s.clc.busyUs = _
    rw [htx]; rfl
  have hreception : s.clc.tick.reception = (match s.clc.reception with
      | .ready => .ready
      | .suspended own q => .suspended (own - 1000) (q + (1000 - own))) := by
    simp only [Clc.tick]; cases s.clc.reception <;> rfl
  have hline : s.erc.tick.replyLine = (match s.erc.replyLine with
      | .clear => .clear
      | .waiting n => .waiting (n + 180)) := by
    simp only [Erc.tick]; cases s.erc.replyLine <;> rfl
  rw [hstep, tick_of_running hreset]
  exact ⟨_, rfl, rfl, rfl, rfl, hidle, hrecord, hreception, hline, rfl, rfl, rfl, rfl, rfl, rfl, rfl, rfl, rfl, rfl, hpending⟩

/-! ## Reset and its release -/

theorem reset_entry (p : Fin 8) : State.reset.table.get p = .absentWith 0 := by fin_cases p <;> rfl

theorem reset_holds (p : Fin 8) : State.reset.cpa.holds.get p = none := by fin_cases p <;> rfl

theorem reset_derates (d : Derate) : State.reset.nsp.derates.get d = ⟨false, none, none⟩ := by cases d <;> rfl

theorem reset_health (d : Device) : State.reset.erc.health.get d = ⟨0, 0, none⟩ := by cases d <;> rfl

theorem reset_lines (l : Line) : State.reset.lmn.lines.get l = ⟨none, none⟩ := by cases l <;> rfl

/-- An entry of State.reset is ABSENT and empty. -/
theorem reset_entry_fields (p : Fin 8) : (State.reset.table.get p).state = .absent ∧ (State.reset.table.get p).tag = none
    ∧ (State.reset.table.get p).claim = none ∧ (State.reset.table.get p).lastFault = none
    ∧ (State.reset.table.get p).checkErrors = 0 := by
  rw [reset_entry]; exact ⟨rfl, rfl, rfl, rfl, rfl⟩

/-- Settles O4: the values of power-on reset, field by field. -/
theorem powerOnResetValues : Obligations.PowerOnResetValues := by
  intro s
  refine ⟨_, exec_powerOnReset s, ?_⟩
  and_intros
  all_goals first
    | rfl
    | exact reset_entry_fields
    | exact reset_holds
    | exact reset_derates
    | exact reset_health
    | exact reset_lines

end Sys2Proof.Machine
end

section
/-! The release from reset, and the commands that do no more than count, start or end one timer. -/

namespace Sys2Proof.Machine

/-! ## Reset release -/

/-- After a reaction the outer part reads as before it. -/
theorem react_outer_field {α : Type} (g : Outer → α) (old s : State) : g (react old s).outer = g s.outer :=
  congrArg g (outer_react old s)

/-! ### The first request -/

theorem PerClient.set_set {α : Type} (m : PerClient α) (c : Client) (v w : α) : (m.set c v).set c w = m.set c w := by cases c <;> rfl

/-- Posted to a channel in IDLE a request is granted at once (R132). -/
theorem post_of_idle {s : State} (hidle : s.erc.sequencer = .idle) (c : Client) (r : Request) :
    post c r s = { s with erc := { s.erc with
      current := some ⟨c, r, s.erc.tag⟩, sinceSent := 0, slots := s.erc.slots.set c (.inFlight r), sequencer := .sending } } := by
  unfold post; simp only []
  rw [if_pos (show (setSlot c (.pending r) s).erc.sequencer = .idle from hidle)]
  simp [grantSlot, setSlot, PerClient.set_set]

/-- With an engine that is not RUNNING the target notch is 0 (R110, R111). -/
theorem targetNotch_of_not_running {s : State} (h : s.ssq.engine ≠ .running) : s.targetNotch = 0 := by
  simp [State.targetNotch, State.cap, h]

/-- At its target with no SET_SPEED owed the Notch Stepper starts no step (R112, R120). -/
theorem stepTest_of_settled {s : State} (htarget : s.nsp.completed = s.targetNotch) (howed : s.nsp.governorOwed = false) :
    stepTest s = s := by
  simp [stepTest, State.upStepDue, State.downStepDue, State.retryDue, htarget, howed]

theorem postOrders_of_settled {old s : State} (htarget : (pumpSequence (pumpProtect s)).nsp.completed
      = (pumpSequence (pumpProtect s)).targetNotch)
    (howed : (pumpSequence (pumpProtect s)).nsp.governorOwed = false) : postOrders old s = pumpSequence (pumpProtect s) := by
  unfold postOrders; simp only [stepTest_of_settled htarget howed, ite_self]

/-- Nothing to post from either protective list. -/
theorem pumpProtect_of_nil {s : State} (hprot : s.ssq.protList = []) (hurgent : s.nsp.urgentList = []) : pumpProtect s = s := by
  simp [pumpProtect, hprot, hurgent]

theorem disagreeUpkeep_of_agree {s : State} (h : s.disagrees = false) :
    disagreeUpkeep s = clearFault .demandDisagree { s with nsp := { s.nsp with disagreeTimer := none } } := by
  simp [disagreeUpkeep, h]

@[simp] theorem clearFault_nsp (k : FaultKind) (s : State) : (clearFault k s).nsp = s.nsp := by unfold clearFault; split <;> rfl

/-- The deciding blocks, after the release from the values of power-on reset, change no block but FCL. -/
theorem decideBlocks_of_released (x : Straps) : ∃ f : Fcl, decideBlocks State.reset (release x State.reset)
    = { release x State.reset with fcl := f } := by
  have hrest : AtRest (release x State.reset) := Or.inr (Or.inl rfl)
  have hlink : linkUpdate (release x State.reset) = release x State.reset := rfl
  rw [decideBlocks_of_atRest _ hrest, hlink, disagreeUpkeep_of_agree rfl]
  unfold clearFault; split <;> exact ⟨_, rfl⟩

theorem react_of_released (x : Straps) : ∃ u : State, u.erc.sequencer = .idle ∧ u.erc.tag = 0 ∧ u.ssq.engine = .shutdown ∧ u.ssq.seqList = [.stop, .fuelOff]
    ∧ u.fuelRun = false ∧ react State.reset (release x State.reset) = post .sequence ⟨.disengage, 0, .ssq⟩ u := by
  obtain ⟨f, hdecided⟩ := decideBlocks_of_released x
  unfold react; rw [hdecided]
  have hprot : pumpProtect { release x State.reset with fcl := f } = { release x State.reset with fcl := f } :=
    pumpProtect_of_nil rfl rfl
  have hseq : pumpSequence { release x State.reset with fcl := f } = post .sequence ⟨.disengage, 0, .ssq⟩
      { release x State.reset with ssq := { Ssq.reset with seqList := [.stop, .fuelOff] }, fcl := f } := rfl
  refine ⟨{ release x State.reset with ssq := { Ssq.reset with seqList := [.stop, .fuelOff] }, fcl := f }, rfl, rfl, rfl, rfl, rfl, ?_⟩
  rw [postOrders_of_settled, hprot, hseq]
  all_goals rw [hprot, hseq, post_of_idle rfl]
  · rw [targetNotch_of_not_running (by exact nofun)]; rfl
  · rfl

theorem release_of_reset (x : Straps) : (react State.reset (release x State.reset)).erc.sequencer = .sending
    ∧ (react State.reset (release x State.reset)).erc.current = some ⟨.sequence, ⟨.disengage, 0, .ssq⟩, 0⟩
    ∧ (react State.reset (release x State.reset)).ssq.seqList = [.stop, .fuelOff]
    ∧ (react State.reset (release x State.reset)).ssq.engine = .shutdown
    ∧ (react State.reset (release x State.reset)).fuelRun = false := by
  obtain ⟨u, hidle, htag, hengine, hlist, hfuel, hreact⟩ := react_of_released x
  rw [hreact, post_of_idle hidle]
  exact ⟨rfl, by simp [htag], hlist, hengine, hfuel⟩

/-! ### The timers -/

theorem release_line (x : Straps) (s : State) (l : Line) : ((release x s).lmn.lines.get l).timer = some (stableTime l) := by
  cases l <;> rfl

/-- Settles O5: what `release` sets lies outside what the reaction after it changes. -/
theorem resetReleaseStartsTheTimers : Obligations.ResetReleaseStartsTheTimers := by
  refine ⟨fun p c f => ⟨_, exec_resetRelease_of_inReset rfl p c f, release_of_reset _⟩, fun p c f s hreset => ?_⟩
  refine ⟨_, exec_resetRelease_of_inReset hreset p c f, ?_⟩
  have hstraps : ∃ x : Straps, (⟨p.toFin, c.toFin, f.toFin⟩ : Straps) = x ∧ x.position.val = p.toNat
      ∧ x.engineClass.val = c.toNat ∧ x.floor.val = f.toNat := ⟨_, rfl, rfl, rfl, rfl⟩
  obtain ⟨x, hx, hposition⟩ := hstraps
  rw [hx]
  have houter : (react s (release x s)).outer = (release x s).outer := outer_react s _
  have hdevices : (react s (release x s)).devices = (release x s).devices := unmoved_devices.react s _
  have hdemands : (react s (release x s)).demands = (release x s).demands := unmoved_demands.react s _
  generalize react s (release x s) = t at houter hdevices hdemands
  obtain ⟨hclc, htable, -, hlmn, hmpt, hpins, hin, -, -⟩ := (outer_eq_iff _ _).mp houter
  simp only [State.devices, State.demands, Prod.mk.injEq] at hdevices hdemands
  obtain ⟨-, -, -, hpoll, -, hline, -⟩ := hdevices
  obtain ⟨-, hdemand, -⟩ := hdemands
  have hclc' {α : Type} (g : Clc → α) (hg : ∀ c : Clc, g { c with linkState := .config } = g c) : g t.clc = g (release x s).clc := by
    rw [← hg t.clc, hclc, hg]
  rw [hlmn, hmpt, hpins, hin, htable]
  refine ⟨rfl, ⟨x, rfl, hposition⟩, rfl, rfl, hclc' (·.busyUs) fun _ => rfl, hclc' (·.reception) fun _ => rfl, hline,
    hclc' (·.windowTimer) fun _ => rfl, hclc' (·.windowIndex) fun _ => rfl, hclc' (·.cycleCount) fun _ => rfl, rfl, rfl, rfl, rfl, hpoll,
    ?_, ?_, ?_, ?_, ?_, hdemand, rfl, rfl⟩
  all_goals exact release_line x s _

/-! ## The link's counts -/

/-- Settles O12: a collision acts by the kind of the record that it breaks. -/
theorem collisionHandsTheNoticeBack : Obligations.CollisionHandsTheNoticeBack := by
  intro r s htx
  have hexec : exec .collision s = execCollision s := rfl
  rw [hexec]; unfold execCollision; rw [htx]; simp only []
  cases r.kind <;> rfl

theorem finishSending_of_check {s : State} {injected : Bool} {octets : List WireOctet} {us : Nat}
    (htx : s.clc.tx = .sending ⟨.check injected, octets, us⟩) : finishSending s = checkSent injected s := by
  unfold finishSending; rw [htx]

theorem checkSent_of_more {s : State} {injected : Bool} (hmore : 2 ≤ s.clc.remainingCheck) :
    checkSent injected s = countCheckSent injected (stopSending s) := by
  have hleft : (countCheckSent injected (stopSending s)).clc.remainingCheck ≠ 0 := by
    show s.clc.remainingCheck - 1 ≠ 0
    omega
  exact if_neg hleft

/-- Settles O13: with more to send, a CHECK record sent is only counted. -/
theorem checkRecordSentCounts : Obligations.CheckRecordSentCounts := by
  intro injected octets us s htx hmore
  have hsends : s.sendsCheck = true := by simp [State.sendsCheck, htx]
  have hexec : exec .checkRecordSent s = .next (if s.sendsCheck then finishSending s else s) := rfl
  rw [hexec, hsends, if_pos rfl, finishSending_of_check htx, checkSent_of_more hmore]
  cases injected <;> rfl

/-! ## Levels and codes on the pins -/

/-- Settles O24: the two pin commands, by line. -/
theorem levelAndCodeChangesStartTheirTimers : Obligations.LevelAndCodeChangesStartTheirTimers := by
  refine ⟨fun l v s hreset hchange => ?_, fun code s hreset hchange => ?_⟩
  · have hexec : exec (.lineLevelChange l v) s = execLineLevelChange l v s := rfl
    rw [hexec]; unfold execLineLevelChange
    rw [if_neg hchange]
    simp only [hreset, Bool.false_eq_true, if_false]
    cases l <;> rfl
  · have hexec : exec (.demandCodeChange code) s = execDemandCodeChange code s := rfl
    rw [hexec]; unfold execDemandCodeChange
    rw [if_neg hchange]
    simp only [hreset, Bool.false_eq_true, if_false]
    rfl

/-! ## Fault timers -/

/-- A raise changes the Fault Collector alone. -/
theorem raiseFault_eq (k : FaultKind) (s : State) : raiseFault k s = { s with fcl := (raiseFault k s).fcl } := by
  unfold raiseFault; split <;> rfl

theorem exec_disagreementTimerExpiry {s : State} (h : s.nsp.disagreeTimer.isSome = true) :
    exec .disagreementTimerExpiry s = .next (raiseFault .demandDisagree { s with nsp := { s.nsp with disagreeTimer := none } }) := by
  have hexec : exec .disagreementTimerExpiry s = execDisagreementTimerExpiry s := rfl
  rw [hexec]; unfold execDisagreementTimerExpiry
  rw [if_neg (by simpa [← Option.isSome_iff_ne_none] using h)]

theorem exec_deviationWatchExpiry {s : State} (h : s.nsp.watch.isSome = true) :
    exec .deviationWatchExpiry s = .next (raiseFault .speedDeviation { s with nsp := { s.nsp with watch := none } }) := by
  have hexec : exec .deviationWatchExpiry s = execDeviationWatchExpiry s := rfl
  rw [hexec]; unfold execDeviationWatchExpiry
  rw [if_neg (by simpa [← Option.isSome_iff_ne_none] using h)]

theorem exec_crankFailHoldExpiry {s : State} (h : s.fcl.crankFailTimer.isSome = true) :
    exec .crankFailHoldExpiry s = .next { s with fcl := { s.fcl with
      active := dropKind .crankFail s.fcl.active, crankFailCause := none, crankFailTimer := none } } := by
  have hexec : exec .crankFailHoldExpiry s = execCrankFailHoldExpiry s := rfl
  rw [hexec]; unfold execCrankFailHoldExpiry
  rw [if_neg (by simpa [← Option.isSome_iff_ne_none] using h)]

/-- Settles O33: each of the three expiries raises or drops its kind. -/
theorem faultTimersExpire : Obligations.FaultTimersExpire := by
  refine ⟨fun s h => ?_, fun s h => ?_, fun s h => ?_⟩
  · exact ⟨_, exec_disagreementTimerExpiry h, raiseFault_active _ _, raiseFault_eq _ _⟩
  · exact ⟨_, exec_deviationWatchExpiry h, raiseFault_active _ _, raiseFault_eq _ _⟩
  · refine ⟨_, exec_crankFailHoldExpiry h, ?_⟩
    refine ⟨by simp [State.faultActive, dropKind], rfl, rfl, rfl, rfl, fun k hk => ?_⟩
    simp [State.faultActive, dropKind, hk]

end Sys2Proof.Machine
end

section
/-! The engine-room channel: late replies, the poll timer, the request line, and how a reply is classified. -/

namespace Sys2Proof.Machine

/-! ## What is taken from the reply line (R128, R136) -/

theorem timeShown_eq_false_iff {s : State} : s.timeShown = false ↔ NoTimeShown s := by
  have hlines : (∀ l, (s.lmn.lines.get l).level = none) ↔
      ∀ l ∈ [Line.start, .stop, .freset, .estop, .runIso], (s.lmn.lines.get l).level = none :=
    ⟨fun h l _ => h l, fun h l => h l (by cases l <;> simp)⟩
  have hpoll : s.erc.slots.poll.isEmpty = true ↔ s.erc.slots.poll = .empty := by cases s.erc.slots.poll <;> simp [Slot.isEmpty]
  unfold NoTimeShown
  rw [hlines]
  simp only [State.timeShown, Bool.or_eq_false_iff, decide_eq_false_iff_not, not_not, List.any_eq_false, Option.isSome_eq_false_iff,
    Bool.not_eq_false', hpoll, Option.isNone_iff_eq_none, Option.isNone_eq_false_iff, Option.isSome_iff_ne_none, ne_eq, and_assoc]

/-- The framing of the reply line as the statements say it. -/
theorem replyFramed_iff {n : Nat} {s : State} : replyFramed n s ↔ s.replyFramed n = true := by
  have hwaits : (∃ b, s.erc.replyLine = .waiting b ∧ b < 54) ↔
      (match s.erc.replyLine with | .clear => false | .waiting n => decide (n < 54)) = true := by
    cases s.erc.replyLine <;> simp
  unfold replyFramed
  rw [hwaits, ← timeShown_eq_false_iff]
  unfold State.replyFramed State.inFirstRequest replyBitTimes
  rw [Bool.not_eq_true']
  refine (not_congr ?_).trans Bool.eq_false_iff.symm
  simp only [Bool.and_eq_true, decide_eq_true_iff, Bool.not_eq_true']
  tauto

theorem exec_replyTaken {ws : List WireOctet} {s : State} (hreset : s.inReset = false) :
    exec (.replyTaken ws) s = .next (if s.replyFramed ws.length then takeReply ws (replyQuiet s) else replyQuiet s) := by
  have hexec : exec (.replyTaken ws) s = execReplyTaken ws s := rfl
  rw [hexec]; unfold execReplyTaken; rw [if_neg (by simp [hreset])]

/-- A reply to no transaction, or late for its own, is counted (R136). -/
theorem takeReply_late {ws : List WireOctet} {s : State}
    (h : s.erc.sequencer ≠ .awaiting ∨ ∃ tr, s.erc.current = some tr ∧ classifyReply tr ws = none) :
    takeReply ws s = countLateReply s := by
  unfold takeReply; split
  next hwait =>
    obtain ⟨tr, hcurrent, hclass⟩ := h.resolve_left (not_not_intro hwait)
    rw [hcurrent]; simp only [hclass]
  next => rfl

/-! ## The poll timer (R143) -/

theorem exec_pollTimerExpiry {s : State} (h : s.erc.pollTimer.isSome = true) : exec .pollTimerExpiry s = .next
    (if s.erc.slots.poll.isEmpty && !s.estop then post .poll ⟨.read, 0, .erc⟩ { s with erc := { s.erc with pollTimer := some 250 } }
     else { s with erc := { s.erc with pollTimer := some 250 } }) := by
  have hexec : exec .pollTimerExpiry s = execPollTimerExpiry s := rfl
  rw [hexec]; unfold execPollTimerExpiry
  rw [if_neg (by simpa [← Option.isSome_iff_ne_none] using h)]; rfl

/-- A post changes the channel alone. -/
theorem post_eq (c : Client) (r : Request) (s : State) : post c r s = { s with erc := (post c r s).erc } := by
  unfold post grantSlot; simp only []; repeat' split
  all_goals rfl

theorem grantSlot_slots_ne {c c' : Client} (h : c' ≠ c) (s : State) : (grantSlot c s).erc.slots.get c' = s.erc.slots.get c' := by
  unfold grantSlot; split
  · exact PerClient.get_set_ne _ _ h
  · rfl

/-- A post leaves the other slots. -/
theorem post_slots_ne {c c' : Client} (h : c' ≠ c) (r : Request) (s : State) :
    (post c r s).erc.slots.get c' = s.erc.slots.get c' := by
  have hset : (setSlot c (.pending r) s).erc.slots.get c' = s.erc.slots.get c' := PerClient.get_set_ne _ _ h
  unfold post; simp only []; split
  · rw [grantSlot_slots_ne h, hset]
  · exact hset

theorem post_devices (c : Client) (r : Request) (s : State) : KeepsDevices s (post c r s) :=
  keepsDevices_iff.mpr (devices_post c r s)

/-- The six octets of SENSORS READ. -/
theorem read_octets (c : Client) (tag : BitVec 4) : Transaction.octets ⟨c, ⟨.read, 0, .erc⟩, tag⟩
    = closed [0x3C, 0x0A, BitVec.ofNat 8 (tag.toNat + 16), 0, 0] := by
  simp [Transaction.octets, Order.device, Order.code, Device.address, byteOf, lowOctet, highOctet]

/-- The parity bit of an octet makes the number of ones odd and leaves the octet to be read (R7). -/
theorem withParity_reads : ∀ b : Byte, oddParity (withParity b) = true ∧ dataBits (withParity b) = b := by
  decide

theorem poll_isEmpty_iff {s : State} : s.erc.slots.poll.isEmpty = true ↔ s.erc.slots.poll = .empty := by
  cases s.erc.slots.poll <;> simp [Slot.isEmpty]

/-- The READ posted to an IDLE sequencer is granted and is on the request line (R128, R132). -/
theorem requestLine_of_read_granted {s : State} (hidle : s.erc.sequencer = .idle) :
    (post .poll ⟨.read, 0, .erc⟩ s).erc.sequencer = .sending
      ∧ (post .poll ⟨.read, 0, .erc⟩ s).erc.current = some ⟨.poll, ⟨.read, 0, .erc⟩, s.erc.tag⟩
      ∧ (post .poll ⟨.read, 0, .erc⟩ s).requestLine
        = (closed [0x3C, 0x0A, BitVec.ofNat 8 (s.erc.tag.toNat + 16), 0, 0]).map withParity := by
  rw [post_of_idle hidle]
  refine ⟨rfl, rfl, ?_⟩
  rw [← read_octets .poll]; rfl

theorem exec_sendingEnd {s : State} (h : s.erc.sequencer = .sending) : exec .sendingEnd s = .next { s with erc := { s.erc with
    sequencer := .awaiting, replyTimer := some 20, sinceSent := 0, replyLine := s.erc.replyLine.afterRequest } } := by
  have hexec : exec .sendingEnd s = execSendingEnd s := rfl
  rw [hexec]; unfold execSendingEnd; rw [if_pos h]

/-- Settles O43, command by command. -/
theorem channelKeepsItsTimersAndCounts : Obligations.ChannelKeepsItsTimersAndCounts := by
  refine ⟨fun s h => ?_, fun ws s hreset hlate hframed => ?_, fun ws s hreset hframed => ?_, fun s htimer hempty hestop => ?_,
    fun s htimer htaken => ?_, fun s h => ?_, withParity_reads⟩
  · rw [exec_sendingEnd h]; cases s.erc.replyLine <;> rfl
  · rw [exec_replyTaken hreset, replyFramed_iff.mp hframed, if_pos rfl, takeReply_late (s := replyQuiet s) hlate]; rfl
  · rw [exec_replyTaken hreset, if_neg (fun h => hframed (replyFramed_iff.mpr h))]; rfl
  · have hexec := exec_pollTimerExpiry htimer
    rw [poll_isEmpty_iff.mpr hempty, hestop, Bool.not_false, Bool.and_self, if_pos rfl] at hexec
    refine ⟨_, hexec, ?_⟩
    have hdevices := post_devices .poll ⟨.read, 0, .erc⟩ { s with erc := { s.erc with pollTimer := some 250 } }
    obtain ⟨-, hhealth, -, hpoll, -⟩ := hdevices
    have hslot (c : Client) (hc : c ≠ .poll) := post_slots_ne hc ⟨.read, 0, .erc⟩ { s with erc := { s.erc with pollTimer := some 250 } }
    exact ⟨hpoll, post_request .poll _ _, fun hidle => requestLine_of_read_granted hidle, post_eq _ _ _, hhealth,
      hslot .protect (by decide), hslot .sequence (by decide), hslot .notch (by decide)⟩
  · have hexec := exec_pollTimerExpiry htimer
    rw [Bool.eq_false_iff.mpr (fun h => htaken (poll_isEmpty_iff.mp h)), Bool.false_and] at hexec
    exact hexec
  · unfold State.requestLine; split
    next hs _ => exact absurd hs h
    next => rfl

end Sys2Proof.Machine
end

section
/-! The rules of the consist link: what a reaction leaves of CLC, how a window closes, and what a cycle boundary does. -/

namespace Sys2Proof.Machine

/-! ## The link state through a reaction (R14) -/

theorem liveSet_of_outer {s t : State} (h : t.outer = s.outer) : t.liveSet = s.liveSet := by
  obtain ⟨-, htable, -, -, hmpt, -⟩ := (outer_eq_iff t s).mp h
  have hown : t.ownPosition = s.ownPosition := by unfold State.ownPosition; rw [hmpt]
  have hentry : t.entry = s.entry := funext fun p => by unfold State.entry; rw [htable]
  unfold State.liveSet State.others; rw [hown, hentry]

theorem joinedOrAlone_of_outer {s t : State} (h : t.outer = s.outer) : t.joinedOrAlone = s.joinedOrAlone := by
  unfold State.joinedOrAlone; rw [liveSet_of_outer h]

/-- The link state as the live set has it, where it follows the live set. -/
def State.linkAfter (s : State) : LinkState :=
  if s.clc.linkState = .joined ∨ s.clc.linkState = .alone then s.joinedOrAlone else s.clc.linkState

theorem linkUpdate_eq (s : State) : linkUpdate s = setLink s.linkAfter s := by
  unfold linkUpdate State.linkAfter; split
  next h => rw [if_pos (Or.inl h)]
  next h => rw [if_pos (Or.inr h)]
  next hj ha => rw [if_neg (by rintro (h | h); exacts [hj h, ha h])]; rfl

/-- The link state is as the live set has it, or does not follow it. -/
def LinkSettled (s : State) : Prop := s.linkAfter = s.clc.linkState

theorem joinedOrAlone_follows (s : State) : s.joinedOrAlone = .joined ∨ s.joinedOrAlone = .alone := by
  unfold State.joinedOrAlone; split <;> simp

theorem linkSettled_linkUpdate (s : State) : LinkSettled (linkUpdate s) := by
  rw [linkUpdate_eq]
  have hset (l : LinkState) : (setLink l s).linkAfter = if l = .joined ∨ l = .alone then s.joinedOrAlone else l := rfl
  show (setLink s.linkAfter s).linkAfter = s.linkAfter
  rw [hset]
  by_cases h : s.clc.linkState = .joined ∨ s.clc.linkState = .alone
  · have hafter : s.linkAfter = s.joinedOrAlone := if_pos h
    rw [hafter, if_pos (joinedOrAlone_follows s)]
  · have hafter : s.linkAfter = s.clc.linkState := if_neg h
    rw [hafter, if_neg h]

/-- A move leaves all of CLC once the link state is settled. -/
theorem Move.clc_of_settled {s t : State} (h : Move s t) (hs : LinkSettled s) : t.clc = s.clc := by
  cases h with
  | link s hold =>
    unfold LinkSettled State.linkAfter at hs
    rw [if_pos hold] at hs
    simp [setLink, hs]
  | _ => first | rfl | simp

theorem LinkSettled.of_clc {s t : State} (hs : LinkSettled s) (hclc : t.clc = s.clc) (houter : t.outer = s.outer) :
    LinkSettled t := by
  unfold LinkSettled State.linkAfter at *
  rw [hclc, joinedOrAlone_of_outer houter]; exact hs

theorem moves_clc_of_settled {s t : State} (h : Moves s t) (hs : LinkSettled s) : t.clc = s.clc := by
  have hkept : t.clc = s.clc ∧ LinkSettled t := h.keeps (P := fun u => u.clc = s.clc ∧ LinkSettled u)
    (fun u v hmove hu => ⟨(hmove.clc_of_settled hu.2).trans hu.1, hu.2.of_clc (hmove.clc_of_settled hu.2) hmove.outer_eq⟩) ⟨rfl, hs⟩
  exact hkept.1

/-- A reaction changes of CLC the link state alone, to what the live set has it. -/
theorem react_clc (old s : State) : (react old s).clc = { s.clc with linkState := s.linkAfter } := by
  have hmoves : Moves (linkUpdate s) (react old s) := moves_postOrders (moves_decideBlocks_of_linked (.refl _))
  rw [moves_clc_of_settled hmoves (linkSettled_linkUpdate s), linkUpdate_eq]; rfl

/-- A reaction leaves CLC where the link state does not follow the live set. -/
theorem react_clc_of_fixed (old : State) {s : State} (hj : s.clc.linkState ≠ .joined) (ha : s.clc.linkState ≠ .alone) :
    (react old s).clc = s.clc := by
  rw [react_clc]; simp [State.linkAfter, hj, ha]

theorem react_linkState (old s : State) : (react old s).clc.linkState = s.linkAfter := by rw [react_clc]

section
variable {s t : State} (h : t.outer = s.outer)
include h

theorem table_of_outer : t.table = s.table := congrArg Outer.table h

theorem holds_of_outer : t.cpa.holds = s.cpa.holds := congrArg Outer.holds h

theorem lmn_of_outer : t.lmn = s.lmn := congrArg Outer.lmn h

theorem mpt_of_outer : t.mpt = s.mpt := congrArg Outer.mpt h

theorem pins_of_outer : t.pins = s.pins := congrArg Outer.pins h

theorem inReset_of_outer : t.inReset = s.inReset := congrArg Outer.inReset h

end

@[simp] theorem react_table (old s : State) : (react old s).table = s.table := table_of_outer (outer_react old s)

@[simp] theorem react_holds (old s : State) : (react old s).cpa.holds = s.cpa.holds := holds_of_outer (outer_react old s)

@[simp] theorem react_lmn (old s : State) : (react old s).lmn = s.lmn := lmn_of_outer (outer_react old s)

@[simp] theorem react_mpt (old s : State) : (react old s).mpt = s.mpt := mpt_of_outer (outer_react old s)

@[simp] theorem react_pins (old s : State) : (react old s).pins = s.pins := pins_of_outer (outer_react old s)

@[simp] theorem react_inReset (old s : State) : (react old s).inReset = s.inReset := inReset_of_outer (outer_react old s)

@[simp] theorem react_entry (old s : State) (p : Fin 8) : (react old s).entry p = s.entry p := by simp [State.entry]

@[simp] theorem react_ownPosition (old s : State) : (react old s).ownPosition = s.ownPosition := by simp [State.ownPosition]

@[simp] theorem react_liveSet (old s : State) : (react old s).liveSet = s.liveSet := by
  simp [State.liveSet, State.others, State.ownPosition, State.entry]

/-! ## The end of sending -/

theorem noCheckOnPair_iff {s : State} : noCheckOnPair s ↔ s.sendsCheck = false := by
  unfold noCheckOnPair State.sendsCheck
  cases s.clc.tx with
  | sending r =>
    obtain ⟨kind, octets, left⟩ := r
    cases kind with
    | check i => exact ⟨fun h => absurd rfl (h _ i rfl), fun h => nomatch h⟩
    | _ => exact ⟨fun _ => rfl, fun _ r i hr => by cases hr; simp⟩
  | _ => exact ⟨fun _ => rfl, fun _ r i hr => nomatch hr⟩

theorem noCheckOnPair_of_idle {s : State} (h : s.clc.tx = .idle) : noCheckOnPair s := fun r i hr => by rw [h] at hr; cases hr

theorem noCheckOnPair_of_deferring {s : State} (h : s.clc.tx = .deferring) : noCheckOnPair s := fun r i hr => by
  rw [h] at hr; cases hr

theorem setTx_of_tx {s : State} {x : Tx} (h : s.clc.tx = x) : setTx x s = s := by simp [setTx, ← h]

/-- With no CHECK record on the pair and no deferral, the end of sending leaves the sending side idle. -/
theorem finishSending_of_noCheck {s : State} (hcheck : noCheckOnPair s) (hwait : s.clc.tx ≠ .deferring) :
    finishSending s = setTx .idle s := by
  unfold finishSending
  cases htx : s.clc.tx with
  | sending r =>
    cases hk : r.kind with
    | check i => exact absurd hk (hcheck r i htx)
    | _ => simp [hk]
  | idle => exact (setTx_of_tx htx).symm
  | deferring => exact absurd htx hwait

theorem finishSending_of_deferring {s : State} (htx : s.clc.tx = .deferring) : finishSending s = s := by
  unfold finishSending; rw [htx]

theorem closeWindow_of_noCheck {s : State} (hcheck : noCheckOnPair s) (hwait : s.clc.tx ≠ .deferring) :
    closeWindow s = setTx .idle s := by
  unfold closeWindow; rw [if_neg hwait, finishSending_of_noCheck hcheck hwait]

theorem closeWindow_of_deferring {s : State} (htx : s.clc.tx = .deferring) : closeWindow s = countMissed (setTx .idle s) := if_pos htx

theorem exec_windowTimerExpiry {b : Nat} {s : State} (h : s.clc.windowTimer.isSome = true) :
    exec (.windowTimerExpiry b) s = .next (expireWindow b s) := by
  have hexec : exec (.windowTimerExpiry b) s = execWindowTimerExpiry b s := rfl
  rw [hexec]; unfold execWindowTimerExpiry; rw [if_neg (by simpa [← Option.isSome_iff_ne_none] using h)]

/-- The reception counted in the statements is the model's. -/
theorem receptionAt_eq (b : Nat) (s : State) : s.receptionAtWindow b = receptionAt b s := by
  unfold State.receptionAtWindow receptionAt Reception.pass
  by_cases hb : b = 0
  · rw [if_pos hb]; cases s.clc.reception <;> simp [hb]
  · rw [if_neg hb]; cases s.clc.reception <;> simp [hb]

/-! ## Beginning a window -/

theorem advanceWindow_inside {s : State} (hi : s.clc.windowIndex ≠ 7) (hown : s.ownPosition ≠ some (s.clc.windowIndex + 1)) :
    advanceWindow s = setWindow (s.clc.windowIndex + 1) 0 s := by
  have hown' : (setWindow (s.clc.windowIndex + 1) 0 s).ownPosition ≠ some (s.clc.windowIndex + 1) := hown
  unfold advanceWindow; simp only [if_neg hi, if_neg hown']

theorem passZero_of_mark {s : State} (h : s.clc.repeatMark = true) : passZero s = { s with clc := { s.clc with repeatMark := false } } :=
  if_pos h

theorem passZero_of_noMark {s : State} (h : s.clc.repeatMark = false) : passZero s = cycleBoundary s := by simp [passZero, h]

theorem advanceWindow_last {s : State} (hi : s.clc.windowIndex = 7) : advanceWindow s
    = if (passZero (setWindow 0 0 s)).ownPosition = some 0 then beginOwnWindow (passZero (setWindow 0 0 s))
      else passZero (setWindow 0 0 s) := by
  unfold advanceWindow; simp only [hi, if_true]; rfl

/-- Settles O6: away from the own window nothing is sent, deferred or aged. -/
theorem windowExpiryAdvancesTheIndex : Obligations.WindowExpiryAdvancesTheIndex := by
  refine ⟨fun b s htimer htx hi hown => ?_, fun b s htimer htx hi hmark hown => ?_⟩
  · rw [exec_windowTimerExpiry htimer]; unfold expireWindow
    rw [closeWindow_of_noCheck (noCheckOnPair_of_idle htx) (by simp [htx]), setTx_of_tx htx, advanceWindow_inside (by exact hi) (by exact hown),
      receptionAt_eq]
    rfl
  · rw [exec_windowTimerExpiry htimer]; unfold expireWindow
    rw [closeWindow_of_noCheck (noCheckOnPair_of_idle htx) (by simp [htx]), setTx_of_tx htx, receptionAt_eq, advanceWindow_last (by exact hi),
      passZero_of_mark (by exact hmark), if_neg (by exact hown)]
    rfl

end Sys2Proof.Machine
end

section
/-! The reaction of the deciding blocks, engine state by engine state: in which states each test can act at all, and what the posting
of orders leaves. -/

namespace Sys2Proof.Machine

/-! ## Where the tests can act -/

section
variable {s : State}

theorem idleUpkeep_of_ne (h : s.ssq.engine ≠ .running) : idleUpkeep s = s := by simp [idleUpkeep, h]

theorem stopToCooldown_of_ne (h : s.ssq.engine ≠ .running) : stopToCooldown s = s := by simp [stopToCooldown, h]

theorem stopToCooldown_of_clear (h : s.ssq.stopInProgress = false) : stopToCooldown s = s := by simp [stopToCooldown, h]

theorem triggerTest_of_manual (h : s.ssq.stopReason ≠ .auto) : triggerTest s = s := by simp [triggerTest, h]

theorem triggerTest_of_ne (hs : s.ssq.engine ≠ .stopped) (hc : s.ssq.engine ≠ .cooldown) : triggerTest s = s := by
  unfold triggerTest; split
  · split
    next h => exact absurd h hs
    next h => exact absurd h hc
    next => rfl
  · rfl

theorem inClash_of_ne (hp : s.ssq.engine ≠ .prelube) (hc : s.ssq.engine ≠ .cranking) : s.inClash = false := by
  simp [State.inClash, hp, hc]

theorem clashTest_of_ne (hp : s.ssq.engine ≠ .prelube) (hc : s.ssq.engine ≠ .cranking) : clashTest s = s := by
  simp [clashTest, inClash_of_ne hp hc]

theorem grantTest_of_ne (h : s.ssq.engine ≠ .claiming) : grantTest s = s := by simp [grantTest, h]

theorem contention_of_ne (h : s.ssq.engine ≠ .cooldown) : contention s = s := by
  unfold contention; split
  · simp [h]
  · rfl

theorem contention_of_manual (h : s.ssq.stopReason ≠ .auto) : contention s = s := by
  unfold contention; split
  · simp [h]
  · rfl

theorem autostopTest_of_ne (h : s.ssq.engine ≠ .running) : autostopTest s = s := by simp [autostopTest, h]

theorem autostopTest_of_idle (h : s.ssq.idleElapsed = false) : autostopTest s = s := by simp [autostopTest, h]

end

/-- The upkeep of link state and disagreement, the first of the deciding blocks. -/
def upkept (s : State) : State := disagreeUpkeep (linkUpdate s)

@[simp] theorem upkept_ssq (s : State) : (upkept s).ssq = s.ssq := by simp [upkept]

@[simp] theorem linkUpdate_cpa (s : State) : (linkUpdate s).cpa = s.cpa := by unfold linkUpdate; split <;> rfl

@[simp] theorem disagreeUpkeep_cpa (s : State) : (disagreeUpkeep s).cpa = s.cpa := by
  unfold disagreeUpkeep; repeat' split
  all_goals simp

@[simp] theorem upkept_cpa (s : State) : (upkept s).cpa = s.cpa := by simp [upkept]

@[simp] theorem linkUpdate_erc (s : State) : (linkUpdate s).erc = s.erc := by unfold linkUpdate; split <;> rfl

@[simp] theorem disagreeUpkeep_erc (s : State) : (disagreeUpkeep s).erc = s.erc := by
  unfold disagreeUpkeep; repeat' split
  all_goals simp

@[simp] theorem upkept_erc (s : State) : (upkept s).erc = s.erc := by simp [upkept]

@[simp] theorem linkUpdate_nsp (s : State) : (linkUpdate s).nsp = s.nsp := by unfold linkUpdate; split <;> rfl

theorem disagreeUpkeep_nsp (s : State) : ∃ x, (disagreeUpkeep s).nsp = { s.nsp with disagreeTimer := x } := by
  unfold disagreeUpkeep; split
  · split
    · exact ⟨_, rfl⟩
    · exact ⟨s.nsp.disagreeTimer, rfl⟩
  · exact ⟨none, by simp⟩

theorem upkept_nsp (s : State) : ∃ x, (upkept s).nsp = { s.nsp with disagreeTimer := x } := by
  simpa [upkept] using disagreeUpkeep_nsp (linkUpdate s)

@[simp] theorem outer_upkept (s : State) : (upkept s).outer = s.outer := by simp [upkept]

/-- The upkeep drops at most DEMAND_DISAGREE from the Fault Collector. -/
theorem upkept_fcl (s : State) : (upkept s).fcl = s.fcl
    ∨ (upkept s).fcl = { s.fcl with active := dropKind .demandDisagree s.fcl.active } := by
  unfold upkept disagreeUpkeep; repeat' split
  · exact Or.inl (linkUpdate_fcl s)
  · exact Or.inl (linkUpdate_fcl s)
  · have hself : FaultKind.demandDisagree.selfClearing = true := rfl
    exact Or.inr (by simp [clearFault, hself])

theorem upkept_faultActive {k : FaultKind} (hk : k ≠ .demandDisagree) (s : State) : (upkept s).faultActive k = s.faultActive k := by
  unfold State.faultActive
  rcases upkept_fcl s with h | h <;> rw [h]
  simp [dropKind, hk]

theorem moves_upkept (s : State) : Moves s (upkept s) := moves_disagreeUpkeep (moves_linkUpdate (.refl s))

theorem decideBlocks_eq (old s : State) : decideBlocks old s =
    (let s := stopToCooldown (idleUpkeep (upkept s))
     let s := if triggerTrigger old s then triggerTest s else s
     let s := if clashTrigger old s then clashTest s else s
     let s := if grantTrigger old s then grantTest s else s
     let s := if decide (s.cooldownSeen ≠ old.cooldownSeen) then contention s else s
     if autostopTrigger old s then autostopTest s else s) := rfl

/-- No test of the deciding blocks can move the engine. -/
structure Calm (s : State) : Prop where
  stopped : s.ssq.engine = .stopped → s.ssq.stopReason ≠ .auto
  cooldown : s.ssq.engine = .cooldown → s.ssq.stopReason ≠ .auto
  running : s.ssq.engine ≠ .running
  claiming : s.ssq.engine ≠ .claiming
  prelube : s.ssq.engine ≠ .prelube
  cranking : s.ssq.engine ≠ .cranking

theorem Calm.of_ssq {s t : State} (hs : Calm s) (h : t.ssq = s.ssq) : Calm t := by
  constructor <;> rw [h]
  exacts [hs.stopped, hs.cooldown, hs.running, hs.claiming, hs.prelube, hs.cranking]

theorem Calm.of_engine {s : State} (h : s.ssq.engine = .shutdown ∨ s.ssq.engine = .lockedOut ∨ s.ssq.engine = .crankRest
    ∨ s.ssq.engine = .firing ∨ s.ssq.engine = .idleWarm) : Calm s := by
  rcases h with h | h | h | h | h <;> constructor <;> simp [h]

theorem Calm.of_stopped {s : State} (h : s.ssq.engine = .stopped) (hr : s.ssq.stopReason ≠ .auto) : Calm s := by
  constructor <;> simp [h, hr]

theorem Calm.of_cooldown {s : State} (h : s.ssq.engine = .cooldown) (hr : s.ssq.stopReason ≠ .auto) : Calm s := by
  constructor <;> simp [h, hr]

theorem Calm.triggerTest_eq {s : State} (h : Calm s) : triggerTest s = s := by
  by_cases hr : s.ssq.stopReason = .auto
  · exact triggerTest_of_ne (fun he => h.stopped he hr) (fun he => h.cooldown he hr)
  · exact triggerTest_of_manual hr

theorem Calm.contention_eq {s : State} (h : Calm s) : contention s = s := by
  by_cases hr : s.ssq.stopReason = .auto
  · exact contention_of_ne (fun he => h.cooldown he hr)
  · exact contention_of_manual hr

/-- With a calm engine the deciding blocks follow the link and the demand alone. -/
theorem decideBlocks_of_calm (old : State) {s : State} (h : Calm s) : decideBlocks old s = upkept s := by
  have hu : Calm (upkept s) := h.of_ssq (upkept_ssq s)
  rw [decideBlocks_eq]
  simp only [idleUpkeep_of_ne hu.running, stopToCooldown_of_ne hu.running, hu.triggerTest_eq, clashTest_of_ne hu.prelube hu.cranking,
    grantTest_of_ne hu.claiming, hu.contention_eq, autostopTest_of_ne hu.running, ite_self]

/-- A test that is not made, or finds nothing, leaves the state. -/
theorem ite_test {c : Prop} [Decidable c] {s t : State} (h : t = s) : (if c then t else s) = s := by rw [h, ite_self]

/-- A test that may be made is made or not. -/
theorem ite_test_cases (c : Prop) [Decidable c] (s t : State) : (if c then t else s) = s ∨ (if c then t else s) = t := by
  split
  · exact Or.inr rfl
  · exact Or.inl rfl

/-- In a state from which neither contention nor autostop moves the engine the last two tests leave it. -/
theorem lastTests_eq {old s : State} (hr : s.ssq.engine ≠ .running) (hc : s.ssq.engine ≠ .cooldown) :
    (let u := if decide (s.cooldownSeen ≠ old.cooldownSeen) then contention s else s
     if autostopTrigger old u then autostopTest u else u) = s := by
  simp only [ite_test (contention_of_ne hc), ite_test (autostopTest_of_ne hr)]

/-- The first steps of the deciding blocks, in an engine that neither runs nor waits for a trigger. -/
theorem firstTests_eq {old s : State} (hr : s.ssq.engine ≠ .running) (hs : s.ssq.engine ≠ .stopped)
    (hc : s.ssq.engine ≠ .cooldown) :
    (let u := stopToCooldown (idleUpkeep s)
     if triggerTrigger old u then triggerTest u else u) = s := by
  simp only [idleUpkeep_of_ne hr, stopToCooldown_of_ne hr, ite_test (triggerTest_of_ne hs hc)]

theorem grantTest_engine {s : State} (h : s.ssq.engine = .claiming) :
    (grantTest s).ssq.engine = .claiming ∨ (grantTest s).ssq.engine = .prelube := by
  unfold grantTest grantPermit; split
  · exact Or.inr (by rw [engine_addSeq, engine_enter])
  · exact Or.inl h

/-- In CLAIMING the permit alone is tested. -/
theorem decideBlocks_of_claiming (old : State) {s : State} (h : s.ssq.engine = .claiming) :
    decideBlocks old s = if grantTrigger old (upkept s) then grantTest (upkept s) else upkept s := by
  have hu : (upkept s).ssq.engine = .claiming := by rw [upkept_ssq, h]
  have hfirst := firstTests_eq (old := old) (s := upkept s) (by rw [hu]; decide) (by rw [hu]; decide) (by rw [hu]; decide)
  rw [decideBlocks_eq]
  simp only [] at hfirst ⊢
  rw [hfirst, ite_test (clashTest_of_ne (by rw [hu]; decide) (by rw [hu]; decide))]
  have hgranted : ∀ v, v = (if grantTrigger old (upkept s) then grantTest (upkept s) else upkept s) →
      v.ssq.engine = .claiming ∨ v.ssq.engine = .prelube := by
    rintro v rfl; split
    · exact grantTest_engine hu
    · exact Or.inl hu
  have hlast := hgranted _ rfl
  exact lastTests_eq (by rcases hlast with h | h <;> rw [h] <;> decide) (by rcases hlast with h | h <;> rw [h] <;> decide)

theorem enterCrankRest_engine (s : State) : (enterCrankRest s).ssq.engine = .crankRest := by
  unfold enterCrankRest; rw [engine_addStopIfHeld, engine_enter]

/-- In CRANKING the clash alone is tested. -/
theorem decideBlocks_of_cranking (old : State) {s : State} (h : s.ssq.engine = .cranking) :
    decideBlocks old s = if clashTrigger old (upkept s) then clashTest (upkept s) else upkept s := by
  have hu : (upkept s).ssq.engine = .cranking := by rw [upkept_ssq, h]
  have hfirst := firstTests_eq (old := old) (s := upkept s) (by rw [hu]; decide) (by rw [hu]; decide) (by rw [hu]; decide)
  rw [decideBlocks_eq]
  simp only [] at hfirst ⊢
  rw [hfirst]
  have hclashed : ∀ v, v = (if clashTrigger old (upkept s) then clashTest (upkept s) else upkept s) →
      v.ssq.engine = .cranking ∨ v.ssq.engine = .crankRest := by
    rintro v rfl; split
    · unfold clashTest; split
      · exact Or.inr (by rw [yieldPermit_of_cranking hu, enterCrankRest_engine])
      · exact Or.inl hu
    · exact Or.inl hu
  have hlast := hclashed _ rfl
  rw [ite_test (grantTest_of_ne (by rcases hlast with h | h <;> rw [h] <;> decide))]
  exact lastTests_eq (by rcases hlast with h | h <;> rw [h] <;> decide) (by rcases hlast with h | h <;> rw [h] <;> decide)

/-- In PRELUBE the clash is tested, and after a yield the permit again. -/
theorem decideBlocks_of_prelube (old : State) {s : State} (h : s.ssq.engine = .prelube) :
    ∃ v, (v = upkept s ∨ v = clashTest (upkept s)) ∧ (decideBlocks old s = v ∨ decideBlocks old s = grantTest v) := by
  have hu : (upkept s).ssq.engine = .prelube := by rw [upkept_ssq, h]
  have hfirst := firstTests_eq (old := old) (s := upkept s) (by rw [hu]; decide) (by rw [hu]; decide) (by rw [hu]; decide)
  refine ⟨_, ite_test_cases (clashTrigger old (upkept s) = true) _ _, ?_⟩
  have hclashed : ∀ v, v = (if clashTrigger old (upkept s) then clashTest (upkept s) else upkept s) →
      v.ssq.engine = .prelube ∨ v.ssq.engine = .claiming := by
    rintro v rfl; split
    · unfold clashTest; split
      · exact Or.inr (by rw [yieldPermit_of_prelube hu, engine_enter])
      · exact Or.inl hu
    · exact Or.inl hu
  rw [decideBlocks_eq]
  simp only [] at hfirst ⊢
  rw [hfirst]
  have hv := hclashed _ rfl
  generalize (if clashTrigger old (upkept s) then clashTest (upkept s) else upkept s) = v at hv ⊢
  have hgranted : ∀ w, w = (if grantTrigger old v then grantTest v else v) → w.ssq.engine = .claiming ∨ w.ssq.engine = .prelube := by
    rintro w rfl; split
    · rcases hv with hv | hv
      · rw [grantTest_of_ne (by rw [hv]; decide)]; exact Or.inr hv
      · exact grantTest_engine hv
    · exact hv.symm
  have hlast := hgranted _ rfl
  have hend := lastTests_eq (old := old) (by rcases hlast with h | h <;> rw [h] <;> decide)
    (by rcases hlast with h | h <;> rw [h] <;> decide)
  simp only [] at hend
  rw [hend]
  exact ite_test_cases _ _ _

end Sys2Proof.Machine
end

section
/-! What the posting of orders leaves, and the reaction of a calm engine: the engine, its fuel, its timers, the claim and the faults
stay, and an order on its way stays on its way. -/

namespace Sys2Proof.Machine

/-! ## Orders on their way -/

theorem waits_iff {o : Order} {s : State} : Waits o s ↔ s.seqHas o = true := by
  unfold Waits State.seqHas
  cases s.erc.slots.sequence.request <;> simp

theorem Waits.of_same {o : Order} {s t : State} (hs : Waits o s) (hlist : t.ssq.seqList = s.ssq.seqList)
    (hslot : t.erc.slots.sequence = s.erc.slots.sequence) : Waits o t := by
  unfold Waits; rw [hlist, hslot]; exact hs

theorem waits_of_mem {o : Order} {s : State} (h : o ∈ s.ssq.seqList) : Waits o s := Or.inl h

/-- What the reaction changes without a decision: the order lists, the pump held, the slots, and the step. -/
structure Posted (s t : State) : Prop where
  ssq : t.ssq = { s.ssq with seqList := t.ssq.seqList, protList := t.ssq.protList, pumpHeld := t.ssq.pumpHeld }
  cpa : t.cpa = s.cpa
  fcl : t.fcl = s.fcl
  clc : t.clc = s.clc
  outer : t.outer = s.outer
  waits : s.estop = false → ∀ o, Waits o s → Waits o t

theorem Posted.refl (s : State) : Posted s s := ⟨rfl, rfl, rfl, rfl, rfl, fun _ _ h => h⟩

theorem Posted.trans {a b c : State} (hab : Posted a b) (hbc : Posted b c) : Posted a c where
  ssq := by rw [hbc.ssq, hab.ssq]
  cpa := hbc.cpa.trans hab.cpa
  fcl := hbc.fcl.trans hab.fcl
  clc := hbc.clc.trans hab.clc
  outer := hbc.outer.trans hab.outer
  waits he o h := hbc.waits ((estop_of_outer hab.outer).trans he) o (hab.waits he o h)

theorem Posted.engine {s t : State} (h : Posted s t) : t.ssq.engine = s.ssq.engine := by rw [h.ssq]

theorem Posted.estop {s t : State} (h : Posted s t) : t.estop = s.estop := estop_of_outer h.outer

theorem Posted.faultActive {s t : State} (h : Posted s t) (k : FaultKind) : t.faultActive k = s.faultActive k :=
  faultActive_of_fcl h.fcl k

@[simp] theorem grantSlot_cpa (c : Client) (s : State) : (grantSlot c s).cpa = s.cpa := by unfold grantSlot; split <;> rfl

@[simp] theorem post_cpa (c : Client) (r : Request) (s : State) : (post c r s).cpa = s.cpa := by rw [post_eq]

@[simp] theorem post_ssq (c : Client) (r : Request) (s : State) : (post c r s).ssq = s.ssq := by rw [post_eq]

@[simp] theorem post_fcl' (c : Client) (r : Request) (s : State) : (post c r s).fcl = s.fcl := by rw [post_eq]

/-- A post to another slot than SEQUENCE is only a post. -/
theorem posted_post {c : Client} (hc : c ≠ .sequence) (r : Request) (s : State) : Posted s (post c r s) where
  ssq := by simp
  cpa := post_cpa c r s
  fcl := post_fcl' c r s
  clc := post_clc c r s
  outer := outer_post c r s
  waits _ _ h := Waits.of_same h (by simp) (post_slots_ne hc.symm r s)

theorem posted_nsp (n : Nsp) (s : State) : Posted s { s with nsp := n } := ⟨rfl, rfl, rfl, rfl, rfl, fun _ _ h => h⟩

theorem posted_protList (l : List Order) (s : State) : Posted s { s with ssq := { s.ssq with protList := l } } :=
  ⟨rfl, rfl, rfl, rfl, rfl, fun _ _ h => h⟩

theorem posted_notePosted (o : Order) (s : State) : Posted s (notePosted o s) := by
  cases o <;> exact ⟨rfl, rfl, rfl, rfl, rfl, fun _ _ h => h⟩

theorem posted_ite {s t : State} {c : Prop} [Decidable c] (h : Posted s t) : Posted s (if c then t else s) := by
  split
  · exact h
  · exact .refl s

theorem posted_pumpProtect (s : State) : Posted s (pumpProtect s) := by
  unfold pumpProtect; split
  · split
    · exact ((posted_protList _ s).trans (posted_notePosted _ _)).trans (posted_post (by decide) _ _)
    · split
      · exact (posted_nsp _ s).trans (posted_post (by decide) _ _)
      · exact .refl s
  · exact .refl s

/-- Under ESTOP an order of the sequence list is dropped with no effect, but for an ENGAGE in CRANKING (R138, R139). -/
theorem seqEnding_inhibited {o : Order} {s : State} (hestop : s.estop = true) (h : o ≠ .engage ∨ s.ssq.engine ≠ .cranking) :
    seqEnding o .inhibited s = s := by
  cases o with
  | engage =>
    have he : s.ssq.engine ≠ .cranking := h.resolve_left (fun h => h rfl)
    simp [seqEnding, he]
  | run => rfl
  | disengage => exact addSeq_of_estop hestop .disengage
  | _ => rfl

@[simp] theorem notePosted_erc (o : Order) (s : State) : (notePosted o s).erc = s.erc := by cases o <;> rfl

@[simp] theorem notePosted_seqList (o : Order) (s : State) : (notePosted o s).ssq.seqList = s.ssq.seqList := by cases o <;> rfl

/-- The first order of the sequence list taken into the SEQUENCE slot stays on its way. -/
theorem posted_postSequence {s : State} {o : Order} {rest : List Order} {x : BitVec 16} (hlist : s.ssq.seqList = o :: rest)
    (hempty : s.erc.slots.sequence.isEmpty = true) :
    Posted s (post .sequence ⟨o, x, .ssq⟩ (notePosted o { s with ssq := { s.ssq with seqList := rest } })) := by
  have hnoted := posted_notePosted o { s with ssq := { s.ssq with seqList := rest } }
  refine ⟨?_, ?_, ?_, ?_, ?_, fun _ o' h => ?_⟩
  · rw [post_ssq, hnoted.ssq]
  · rw [post_cpa, hnoted.cpa]
  · rw [post_fcl', hnoted.fcl]
  · rw [post_clc, hnoted.clc]
  · rw [outer_post, hnoted.outer]; rfl
  · have hrequest : (post .sequence ⟨o, x, .ssq⟩ (notePosted o { s with ssq := { s.ssq with seqList := rest } })).erc.slots.sequence.request
        = some ⟨o, x, .ssq⟩ := post_request .sequence _ _
    rcases h with h | ⟨r, hr, -⟩
    · rw [hlist] at h
      rcases List.mem_cons.mp h with rfl | h
      · exact Or.inr ⟨_, hrequest, rfl⟩
      · exact Or.inl (by simpa using h)
    · have hslot : s.erc.slots.sequence = .empty := by cases hs : s.erc.slots.sequence <;> simp [hs, Slot.isEmpty] at hempty ⊢
      rw [hslot] at hr; cases hr

theorem posted_pumpSequence {s : State} (h : s.estop = false ∨ s.ssq.engine ≠ .cranking) : Posted s (pumpSequence s) := by
  unfold pumpSequence; split
  next hempty =>
    split
    next o rest hlist =>
      have hnoted := posted_notePosted o { s with ssq := { s.ssq with seqList := rest } }
      have hestop : (notePosted o { s with ssq := { s.ssq with seqList := rest } }).estop = s.estop := hnoted.estop
      simp only []; split
      next he =>
        rw [hestop] at he
        have hcrank : s.ssq.engine ≠ .cranking := h.resolve_left (by simp [he])
        rw [seqEnding_inhibited (hestop.trans he) (Or.inr (by rw [hnoted.engine]; exact hcrank))]
        refine ⟨?_, hnoted.cpa, hnoted.fcl, hnoted.clc, hnoted.outer, fun hf => absurd he (by simp [hf])⟩
        rw [hnoted.ssq]
      next => exact posted_postSequence hlist hempty
    next => exact .refl s
  next => exact .refl s

@[simp] theorem withdraw_sequence {c : Client} (hc : c ≠ .sequence) (s : State) :
    (withdraw c s).erc.slots.sequence = s.erc.slots.sequence := by
  unfold withdraw; split
  · exact PerClient.get_set_ne s.erc.slots .empty hc.symm
  · rfl

theorem posted_startUp (s : State) : Posted s (startUp s) := by
  unfold startUp; simp only []; split
  · exact posted_nsp _ s
  · exact (posted_nsp _ s).trans (posted_post (by decide) _ _)

theorem posted_startDown (s : State) : Posted s (startDown s) := by
  unfold startDown; simp only []; split
  · exact posted_nsp _ s
  · exact (posted_nsp _ s).trans (posted_post (by decide) _ _)

theorem posted_startRetry (s : State) : Posted s (startRetry s) := by
  unfold startRetry; simp only []; split
  · exact posted_nsp _ s
  · exact (posted_nsp _ s).trans (posted_post (by decide) _ _)

theorem posted_stepTest (s : State) : Posted s (stepTest s) := by
  rcases stepTest_cases s with ⟨-, h⟩ | ⟨-, h⟩ | ⟨-, h⟩ | ⟨-, -, -, h⟩ <;> rw [h]
  · exact posted_startUp s
  · exact posted_startDown s
  · exact posted_startRetry s
  · exact .refl s

/-- The posting of orders and the step test decide nothing, but for an ENGAGE refused in CRANKING. -/
theorem posted_postOrders (old : State) {s : State} (h : s.estop = false ∨ s.ssq.engine ≠ .cranking) : Posted s (postOrders old s) := by
  have hprotect := posted_pumpProtect s
  have hpumped : Posted s (pumpSequence (pumpProtect s)) :=
    hprotect.trans (posted_pumpSequence (by rw [hprotect.estop, hprotect.engine]; exact h))
  unfold postOrders; simp only []; split
  · exact hpumped.trans (posted_stepTest _)
  · exact hpumped

/-! ## A reaction that decides nothing -/

/-- What a reaction that moves no engine leaves: all but the order lists, the pump held, the slots, the Notch Stepper, and
DEMAND_DISAGREE. -/
structure Undecided (s t : State) : Prop where
  ssq : t.ssq = { s.ssq with seqList := t.ssq.seqList, protList := t.ssq.protList, pumpHeld := t.ssq.pumpHeld }
  cpa : t.cpa = s.cpa
  faults : ∀ k, k ≠ .demandDisagree → t.faultActive k = s.faultActive k
  records : t.fcl = { s.fcl with active := t.fcl.active }
  outer : t.outer = s.outer
  waits : s.estop = false → ∀ o, Waits o s → Waits o t

section
variable {s t : State}

theorem Posted.undecided (h : Posted s t) : Undecided s t :=
  ⟨h.ssq, h.cpa, fun k _ => h.faultActive k, by rw [h.fcl], h.outer, h.waits⟩

theorem undecided_upkept (s : State) : Undecided s (upkept s) where
  ssq := by rw [upkept_ssq]
  cpa := upkept_cpa s
  faults _ hk := upkept_faultActive hk s
  records := by rcases upkept_fcl s with h | h <;> rw [h]
  outer := outer_upkept s
  waits _ _ h := Waits.of_same h (by rw [upkept_ssq]) (by rw [upkept_erc])

theorem Undecided.trans {u : State} (hst : Undecided s t) (htu : Undecided t u) : Undecided s u where
  ssq := by rw [htu.ssq, hst.ssq]
  cpa := htu.cpa.trans hst.cpa
  faults k hk := (htu.faults k hk).trans (hst.faults k hk)
  records := by rw [htu.records, hst.records]
  outer := htu.outer.trans hst.outer
  waits he o h := htu.waits ((estop_of_outer hst.outer).trans he) o (hst.waits he o h)

theorem Undecided.engine (h : Undecided s t) : t.ssq.engine = s.ssq.engine := by rw [h.ssq]

theorem Undecided.stopReason (h : Undecided s t) : t.ssq.stopReason = s.ssq.stopReason := by rw [h.ssq]

theorem Undecided.fuelOrder (h : Undecided s t) : t.ssq.fuelOrder = s.ssq.fuelOrder := by rw [h.ssq]

theorem Undecided.estop (h : Undecided s t) : t.estop = s.estop := estop_of_outer h.outer

theorem Undecided.lmn (h : Undecided s t) : t.lmn = s.lmn := lmn_of_outer h.outer

theorem Undecided.fuelRun (h : Undecided s t) : t.fuelRun = s.fuelRun := by
  unfold State.fuelRun; rw [h.ssq, h.estop, h.lmn]

/-- The reaction with a calm engine decides nothing. -/
theorem react_of_calm (old : State) (h : Calm s) : Undecided s (react old s) := by
  unfold react; rw [decideBlocks_of_calm old h]
  exact (undecided_upkept s).trans (posted_postOrders old (Or.inr (by rw [upkept_ssq]; exact h.cranking))).undecided

end

end Sys2Proof.Machine
end

section
/-! The claim through a reaction: while the engine waits for the permit or holds it, and stays so, the claim stays. -/

namespace Sys2Proof.Machine

theorem grantTest_claim (s : State) : (grantTest s).cpa.claim = s.cpa.claim := by
  unfold grantTest grantPermit; split
  · rw [addSeq_cpa, enter_cpa]; rfl
  · rfl

theorem clashTest_claim_of_prelube {s : State} (h : s.ssq.engine = .prelube) : (clashTest s).cpa.claim = s.cpa.claim := by
  have hengine : (addSeq .stop (countYield s)).ssq.engine = .prelube := (engine_addSeq _ _).trans h
  unfold clashTest; split
  · rw [yieldPermit_of_prelube h, enter_cpa]
    simp only [claimOnEnter, hengine, if_true, addSeq_cpa]
    rfl
  · rfl

theorem clashTest_engine_of_prelube {s : State} (h : s.ssq.engine = .prelube) :
    (clashTest s).ssq.engine = .prelube ∨ (clashTest s).ssq.engine = .claiming := by
  unfold clashTest; split
  · exact Or.inr (by rw [yieldPermit_of_prelube h, engine_enter])
  · exact Or.inl h

theorem clashTest_engine_of_cranking {s : State} (h : s.ssq.engine = .cranking) :
    clashTest s = s ∨ (clashTest s).ssq.engine = .crankRest := by
  unfold clashTest; split
  · exact Or.inr (by rw [yieldPermit_of_cranking h, enterCrankRest_engine])
  · exact Or.inl rfl

/-- The engine claims the permit or has it, and not yet cranks. -/
def Claims (s : State) : Prop := s.ssq.engine = .claiming ∨ s.ssq.engine = .prelube

theorem Claims.not_cranking {s : State} (h : Claims s) : s.ssq.engine ≠ .cranking := by rcases h with h | h <;> rw [h] <;> decide

/-- In CLAIMING and PRELUBE the deciding blocks keep the claim and stay in the two states. -/
theorem decideBlocks_claims (old : State) {s : State} (h : Claims s) :
    Claims (decideBlocks old s) ∧ (decideBlocks old s).cpa.claim = s.cpa.claim := by
  rcases h with h | h
  · have hu : (upkept s).ssq.engine = .claiming := by rw [upkept_ssq, h]
    rw [decideBlocks_of_claiming old h]; split
    · exact ⟨grantTest_engine hu, by rw [grantTest_claim, upkept_cpa]⟩
    · exact ⟨Or.inl hu, by rw [upkept_cpa]⟩
  · have hu : (upkept s).ssq.engine = .prelube := by rw [upkept_ssq, h]
    obtain ⟨v, hv, hdecided⟩ := decideBlocks_of_prelube old h
    have hvclaims : Claims v ∧ v.cpa.claim = s.cpa.claim := by
      rcases hv with rfl | rfl
      · exact ⟨Or.inr hu, by rw [upkept_cpa]⟩
      · exact ⟨(clashTest_engine_of_prelube hu).symm, by rw [clashTest_claim_of_prelube hu, upkept_cpa]⟩
    obtain ⟨hvengine, hvclaim⟩ := hvclaims
    rcases hdecided with hd | hd <;> rw [hd]
    · exact ⟨hvengine, hvclaim⟩
    · refine ⟨?_, (grantTest_claim v).trans hvclaim⟩
      rcases hvengine with hv | hv
      · exact grantTest_engine hv
      · rw [grantTest_of_ne (by rw [hv]; decide)]; exact Or.inr hv

theorem react_claims (old : State) {s : State} (h : Claims s) :
    Claims (react old s) ∧ (react old s).cpa.claim = s.cpa.claim := by
  obtain ⟨hclaims, hclaim⟩ := decideBlocks_claims old h
  have hposted := posted_postOrders old (s := decideBlocks old s) (Or.inr hclaims.not_cranking)
  unfold react
  exact ⟨by unfold Claims; rw [hposted.engine]; exact hclaims, by rw [hposted.cpa, hclaim]⟩

/-- The engine rests after an attempt, or is locked out. -/
def Rests (s : State) : Prop := s.ssq.engine = .crankRest ∨ s.ssq.engine = .lockedOut

theorem Rests.calm {s : State} (h : Rests s) : Calm s := .of_engine (by rcases h with h | h <;> simp [h])

theorem react_rests (old : State) {s : State} (h : Rests s) : Rests (react old s) := by
  unfold Rests; rw [(react_of_calm old h.calm).engine]; exact h

/-- An attempt counted as failed, before the engine rests: its orders, its count and its cause (R86). -/
def attemptCounted (c : Cause) (s : State) : State :=
  raiseCrankFail c (countAttempt c (addStopIfHeld (if s.ssq.engine = .cranking then addSeq .disengage s else s)))

theorem failedAttempt_eq (c : Cause) (s : State) : failedAttempt c s =
    if (attemptCounted c s).ssq.attempts = 3 then enter .lockedOut (raiseFault .crankLockout (attemptCounted c s))
    else enterCrankRest (attemptCounted c s) := rfl

theorem failedAttempt_rests (c : Cause) (s : State) : Rests (failedAttempt c s) := by
  rw [failedAttempt_eq]; split
  · exact Or.inr (engine_enter _ _)
  · exact Or.inl (enterCrankRest_engine _)

/-- In CRANKING a pump of the sequence list is a post, or an ENGAGE refused under ESTOP, which fails the attempt (R139). -/
theorem pumpSequence_cranking {s : State} (h : s.ssq.engine = .cranking) : Posted s (pumpSequence s) ∨ Rests (pumpSequence s) := by
  cases hestop : s.estop with
  | false => exact Or.inl (posted_pumpSequence (Or.inl hestop))
  | true =>
    unfold pumpSequence; split
    next =>
      split
      next o rest hlist =>
        have hnoted := posted_notePosted o { s with ssq := { s.ssq with seqList := rest } }
        have he : (notePosted o { s with ssq := { s.ssq with seqList := rest } }).estop = true := hnoted.estop.trans hestop
        have hengine : (notePosted o { s with ssq := { s.ssq with seqList := rest } }).ssq.engine = .cranking := hnoted.engine.trans h
        simp only [he, if_true]
        by_cases ho : o = .engage
        · subst ho
          refine Or.inr ?_
          simp only [seqEnding]
          rw [if_pos hengine]
          exact failedAttempt_rests _ _
        · rw [seqEnding_inhibited he (Or.inl ho)]
          refine Or.inl ⟨?_, hnoted.cpa, hnoted.fcl, hnoted.clc, hnoted.outer, fun hf => absurd hestop (by simp [hf])⟩
          rw [hnoted.ssq]
      next => exact Or.inl (.refl s)
    next => exact Or.inl (.refl s)

theorem Posted.rests {s t : State} (h : Posted s t) (hs : Rests s) : Rests t := by unfold Rests; rw [h.engine]; exact hs

theorem postOrders_cranking (old : State) {s : State} (h : s.ssq.engine = .cranking) :
    Posted s (postOrders old s) ∨ Rests (postOrders old s) := by
  have hprotect := posted_pumpProtect s
  unfold postOrders; simp only []
  rcases pumpSequence_cranking (s := pumpProtect s) (hprotect.engine.trans h) with hseq | hseq
  · refine Or.inl ((hprotect.trans hseq).trans ?_)
    exact posted_ite (posted_stepTest _)
  · exact Or.inr ((posted_ite (posted_stepTest _)).rests hseq)

/-- From CRANKING a reaction stays with its claim, or the engine rests. -/
theorem react_cranking (old : State) {s : State} (h : s.ssq.engine = .cranking) :
    ((react old s).ssq.engine = .cranking ∧ (react old s).cpa.claim = s.cpa.claim) ∨ Rests (react old s) := by
  have hu : (upkept s).ssq.engine = .cranking := by rw [upkept_ssq, h]
  have hdecided : decideBlocks old s = upkept s ∨ (decideBlocks old s).ssq.engine = .crankRest := by
    rw [decideBlocks_of_cranking old h]; split
    · exact (clashTest_engine_of_cranking hu)
    · exact Or.inl rfl
  unfold react
  rcases hdecided with hd | hd
  · rw [hd]
    rcases postOrders_cranking old hu with hposted | hrests
    · exact Or.inl ⟨hposted.engine.trans hu, by rw [hposted.cpa, upkept_cpa]⟩
    · exact Or.inr hrests
  · exact Or.inr ((posted_postOrders old (Or.inr (by rw [hd]; decide))).rests (Or.inl hd))

end Sys2Proof.Machine
end

section
/-! The cycle boundary and the phantom holds: what the closing of a window, the boundary's work and the beginning of the own window
leave and change. -/

namespace Sys2Proof.Machine

/-! ## What sending leaves -/

/-- What the end and the start of sending leave: table but for the own entry, holds, inputs, configuration, pins, and the window,
the cycle, the copies and the LISTENING count of CLC. -/
structure LinkKept (s t : State) : Prop where
  entries : ∀ p, s.ownPosition ≠ some p → t.entry p = s.entry p
  holds : t.cpa.holds = s.cpa.holds
  lmn : t.lmn = s.lmn
  mpt : t.mpt = s.mpt
  pins : t.pins = s.pins
  windowIndex : t.clc.windowIndex = s.clc.windowIndex
  windowTimer : t.clc.windowTimer = s.clc.windowTimer
  cycleCount : t.clc.cycleCount = s.clc.cycleCount
  repeatMark : t.clc.repeatMark = s.clc.repeatMark
  listeningCount : t.clc.listeningCount = s.clc.listeningCount
  snaps : t.clc.snapA = s.clc.snapA ∧ t.clc.snapB = s.clc.snapB

theorem LinkKept.ownPosition {s t : State} (h : LinkKept s t) : t.ownPosition = s.ownPosition := by
  unfold State.ownPosition; rw [h.mpt]

theorem LinkKept.trans {s t u : State} (hst : LinkKept s t) (htu : LinkKept t u) : LinkKept s u where
  entries p hp := (htu.entries p (by rw [hst.ownPosition]; exact hp)).trans (hst.entries p hp)
  holds := htu.holds.trans hst.holds
  lmn := htu.lmn.trans hst.lmn
  mpt := htu.mpt.trans hst.mpt
  pins := htu.pins.trans hst.pins
  windowIndex := htu.windowIndex.trans hst.windowIndex
  windowTimer := htu.windowTimer.trans hst.windowTimer
  cycleCount := htu.cycleCount.trans hst.cycleCount
  repeatMark := htu.repeatMark.trans hst.repeatMark
  listeningCount := htu.listeningCount.trans hst.listeningCount
  snaps := ⟨htu.snaps.1.trans hst.snaps.1, htu.snaps.2.trans hst.snaps.2⟩

theorem LinkKept.refl (s : State) : LinkKept s s := ⟨fun _ _ => rfl, rfl, rfl, rfl, rfl, rfl, rfl, rfl, rfl, rfl, rfl, rfl⟩

theorem LinkKept.liveSet {s t : State} (h : LinkKept s t) : t.liveSet = s.liveSet := by
  unfold State.liveSet State.others
  rw [h.ownPosition]
  refine List.filter_congr fun p hp => ?_
  rw [h.entries p (by simpa using hp)]

/-- CLC's other fields may change freely. -/
theorem linkKept_clc {s : State} (c : Clc) (hi : c.windowIndex = s.clc.windowIndex := by rfl)
    (ht : c.windowTimer = s.clc.windowTimer := by rfl) (hc : c.cycleCount = s.clc.cycleCount := by rfl)
    (hr : c.repeatMark = s.clc.repeatMark := by rfl) (hl : c.listeningCount = s.clc.listeningCount := by rfl)
    (hs : c.snapA = s.clc.snapA ∧ c.snapB = s.clc.snapB := by exact ⟨rfl, rfl⟩) : LinkKept s { s with clc := c } :=
  ⟨fun _ _ => rfl, rfl, rfl, rfl, rfl, hi, ht, hc, hr, hl, hs⟩

theorem linkKept_react (old s : State) : LinkKept s (react old s) where
  entries _ _ := react_entry old s _
  holds := react_holds old s
  lmn := react_lmn old s
  mpt := react_mpt old s
  pins := react_pins old s
  windowIndex := by rw [react_clc]
  windowTimer := by rw [react_clc]
  cycleCount := by rw [react_clc]
  repeatMark := by rw [react_clc]
  listeningCount := by rw [react_clc]
  snaps := by rw [react_clc]; exact ⟨rfl, rfl⟩

theorem linkKept_leaveChecking (s : State) : LinkKept s (leaveChecking s) := by
  unfold leaveChecking; split
  · exact linkKept_clc _
  · exact .refl s

theorem linkKept_checkSent (b : Bool) (s : State) : LinkKept s (checkSent b s) := by
  have hcounted : LinkKept s (countCheckSent b (stopSending s)) := linkKept_clc _
  unfold checkSent; simp only []; split
  · exact (hcounted.trans (linkKept_leaveChecking _)).trans (linkKept_react _ _)
  · exact hcounted

theorem linkKept_finishSending (s : State) : LinkKept s (finishSending s) := by
  rcases finishSending_cases s with h | h | ⟨b, h⟩ <;> rw [h]
  · exact .refl s
  · exact linkKept_clc _
  · exact linkKept_checkSent b s

theorem linkKept_closeWindow (s : State) : LinkKept s (closeWindow s) := by
  unfold closeWindow; split
  · exact linkKept_clc _
  · exact linkKept_finishSending s

/-! ## The own entry -/

theorem entry_setEntry_ne {p q : Fin 8} (h : q ≠ p) (e : Entry) (s : State) : (setEntry p e s).entry q = s.entry q :=
  PerPosition.get_set_ne s.table e h

@[simp] theorem entry_setEntry (p : Fin 8) (e : Entry) (s : State) : (setEntry p e s).entry p = e := PerPosition.get_set s.table p e

theorem refreshOwn_of_none {s : State} (h : s.ownPosition = none) (code : Option FaultKind) : refreshOwn code s = s := by
  simp [refreshOwn, h]

theorem refreshOwn_of_own {s : State} {p : Fin 8} (h : s.ownPosition = some p) (code : Option FaultKind) :
    refreshOwn code s = setEntry p ((s.entry p).ownRefreshed s.gather code) s := by
  simp [refreshOwn, h]

/-- The own entry's refresh touches the table alone. -/
theorem refreshOwn_eq (code : Option FaultKind) (s : State) : refreshOwn code s = { s with table := (refreshOwn code s).table } := by
  unfold refreshOwn; split <;> rfl

theorem refreshOwn_entry_ne {s : State} {p : Fin 8} (h : s.ownPosition ≠ some p) (code : Option FaultKind) :
    (refreshOwn code s).entry p = s.entry p := by
  unfold refreshOwn; split
  next q hq => exact entry_setEntry_ne (fun hpq => h (by rw [hq, hpq])) _ _
  next => rfl

/-- The own entry with a state's values, as the statements write it (R36). -/
theorem ownRefreshed_eq (code : Option FaultKind) (s : State) (e : Entry) : e.ownRefreshed s.gather code = ownEntryAfter code s e := by
  unfold Entry.ownRefreshed ownEntryAfter State.gather State.ownFlags
  rw [Bool.decide_and, Bool.decide_and]
  rfl

theorem linkKept_refreshOwn (code : Option FaultKind) (s : State) : LinkKept s (refreshOwn code s) := by
  have hentries (p : Fin 8) (hp : s.ownPosition ≠ some p) : (refreshOwn code s).entry p = s.entry p := refreshOwn_entry_ne hp code
  rw [refreshOwn_eq] at hentries ⊢
  exact ⟨hentries, rfl, rfl, rfl, rfl, rfl, rfl, rfl, rfl, rfl, rfl, rfl⟩

/-! ## The beginning of the own window -/

theorem linkKept_sendRecord (b : Bool) (s : State) : LinkKept s (sendRecord b s) := by
  have hfcl (f : Fcl) : LinkKept s { s with fcl := f } := ⟨fun _ _ => rfl, rfl, rfl, rfl, rfl, rfl, rfl, rfl, rfl, rfl, rfl, rfl⟩
  have hstatus (c : Committed) : LinkKept s (sendStatus c b s) :=
    ((hfcl _).trans (linkKept_refreshOwn _ _)).trans (linkKept_clc _)
  unfold sendRecord; split
  · exact .refl s
  · split
    · exact linkKept_clc _
    · exact hstatus _
    · exact hstatus _
    · exact .refl s

theorem linkKept_beginOwnWindow (s : State) : LinkKept s (beginOwnWindow s) := by
  unfold beginOwnWindow; split
  · split
    · exact linkKept_clc _
    · exact linkKept_sendRecord _ s
  · exact .refl s

/-- Sending touches CLC's sending side, the table and the notices alone. -/
theorem sendRecord_eq (b : Bool) (s : State) : sendRecord b s = { s with
    clc := { (sendRecord b s).clc with linkState := s.clc.linkState }, table := (sendRecord b s).table, fcl := (sendRecord b s).fcl } := by
  have hstatus (c : Committed) : sendStatus c b s = { s with
      clc := { (sendStatus c b s).clc with linkState := s.clc.linkState }, table := (sendStatus c b s).table
      fcl := (sendStatus c b s).fcl } := by
    unfold sendStatus; simp only []; rw [refreshOwn_eq]; rfl
  unfold sendRecord; split
  · rfl
  · split
    · rfl
    · exact hstatus _
    · exact hstatus _
    · rfl

theorem beginOwnWindow_eq (s : State) : beginOwnWindow s = { s with
    clc := { (beginOwnWindow s).clc with linkState := s.clc.linkState }, table := (beginOwnWindow s).table
    fcl := (beginOwnWindow s).fcl } := by
  unfold beginOwnWindow; split
  · split
    · rfl
    · exact sendRecord_eq false s
  · rfl

theorem beginOwnWindow_linkState (s : State) : (beginOwnWindow s).clc.linkState = s.clc.linkState := by rw [beginOwnWindow_eq]

/-- In the link states that send no STATUS or NOTICE the beginning of the own window leaves the table. -/
theorem beginOwnWindow_table {s : State} (hj : s.clc.linkState ≠ .joined) (ha : s.clc.linkState ≠ .alone) :
    (beginOwnWindow s).table = s.table := by
  unfold beginOwnWindow; split
  · split
    · rfl
    · unfold sendRecord; split
      · rfl
      · split
        · rfl
        next h => exact absurd h hj
        next h => exact absurd h ha
        · rfl
  · rfl

/-! ## The boundary's work -/

/-- The table, the holds and the claim as a boundary ages them, the cycle counted. -/
def agedBase (s : State) : State :=
  { s with
    table := s.agedTable
    clc := { s.clc with cycleCount := s.clc.cycleCount + 1 }
    cpa := { s.cpa with holds := s.holdsAfterAgeing, claim := s.cpa.claim.map (fun a => satAdd 255 a 1) } }

theorem boundaryWork_unfold (s : State) : boundaryWork s = countListening
    (if s.clc.linkState.refreshesAtBoundary then refreshOwn none (takeSnapshot (agedBase s)) else takeSnapshot (agedBase s)) := rfl

theorem takeSnapshot_eq (s : State) : takeSnapshot s = { s with clc := (takeSnapshot s).clc } := by
  unfold takeSnapshot; split <;> rfl

theorem countListening_eq (s : State) : countListening s = { s with clc := (countListening s).clc } := by
  unfold countListening leaveListening; simp only []; repeat' split
  all_goals rfl

/-- The boundary's work is the ageing, with another CLC and the own entry's refresh. -/
theorem boundaryWork_eq (s : State) : boundaryWork s =
    { agedBase s with clc := (boundaryWork s).clc, table := (boundaryWork s).table } := by
  have hset (u : State) : (if s.clc.linkState.refreshesAtBoundary then refreshOwn none (takeSnapshot u) else takeSnapshot u)
      = { u with clc := (takeSnapshot u).clc, table :=
          (if s.clc.linkState.refreshesAtBoundary then refreshOwn none (takeSnapshot u) else takeSnapshot u).table } := by
    split
    · rw [refreshOwn_eq, takeSnapshot_eq]
    · rw [takeSnapshot_eq]
  rw [boundaryWork_unfold, countListening_eq, hset]

theorem aged_eq (e : Entry) : e.aged = agedEntry e := by
  unfold Entry.aged agedEntry; split <;> rfl

theorem agedTable_get (s : State) (p : Fin 8) : s.agedTable.get p = if s.ownPosition = some p then s.entry p else agedEntry (s.entry p) := by
  unfold State.agedTable; rw [PerPosition.get_build, aged_eq]

@[simp] theorem countListening_table (s : State) : (countListening s).table = s.table := by rw [countListening_eq]

@[simp] theorem takeSnapshot_table (s : State) : (takeSnapshot s).table = s.table := by rw [takeSnapshot_eq]

theorem boundaryWork_table (s : State) : (boundaryWork s).table =
    (if s.clc.linkState.refreshesAtBoundary then refreshOwn none (takeSnapshot (agedBase s)) else agedBase s).table := by
  rw [boundaryWork_unfold, countListening_table]; split <;> simp

theorem takeSnapshot_ownPosition (s : State) : (takeSnapshot s).ownPosition = s.ownPosition := by rw [takeSnapshot_eq]; rfl

/-- The entries of the other positions are aged. -/
theorem boundaryWork_entry {s : State} {p : Fin 8} (h : s.ownPosition ≠ some p) : (boundaryWork s).entry p = agedEntry (s.entry p) := by
  have haged : (agedBase s).entry p = agedEntry (s.entry p) := (agedTable_get s p).trans (if_neg h)
  unfold State.entry at *
  rw [boundaryWork_table]; split
  · have hkept := refreshOwn_entry_ne (s := takeSnapshot (agedBase s)) (p := p) (by rw [takeSnapshot_ownPosition]; exact h) none
    unfold State.entry at hkept
    rw [hkept, takeSnapshot_table]; exact haged
  · exact haged

/-- A boundary leaves the own entry in the link states in which it composes a record. -/
theorem boundaryWork_own_kept {s : State} {p : Fin 8} (h : s.ownPosition = some p) (hl : s.clc.linkState.refreshesAtBoundary = false) :
    (boundaryWork s).entry p = s.entry p := by
  unfold State.entry
  rw [boundaryWork_table, hl]
  exact (agedTable_get s p).trans (if_pos h)

/-- What the statements age is what the model ages. -/
theorem agedBase_gather (c : Clc) (s : State) : ({ agedBase s with clc := c } : State).gather = (agedState s).gather := by
  have htable : s.agedTable = (agedState s).table := by
    unfold State.agedTable agedState; simp only [aged_eq]
  have hbase : agedBase s = { agedState s with
      clc := { s.clc with cycleCount := s.clc.cycleCount + 1 }, cpa := { (agedState s).cpa with holds := s.holdsAfterAgeing } } := by
    unfold agedBase; rw [htable]; rfl
  rw [hbase]; rfl

/-- In the other link states from LISTENING on it refreshes the own entry, with the values as aged. -/
theorem boundaryWork_own_refreshed {s : State} {p : Fin 8} (h : s.ownPosition = some p) (hl : s.clc.linkState.refreshesAtBoundary = true) :
    (boundaryWork s).entry p = ownEntryAfter none (agedState s) (s.entry p) := by
  have hown : (takeSnapshot (agedBase s)).ownPosition = some p := (takeSnapshot_ownPosition _).trans h
  have hentry : (takeSnapshot (agedBase s)).entry p = s.entry p := by
    unfold State.entry; rw [takeSnapshot_table]; exact (agedTable_get s p).trans (if_pos h)
  have htable : (boundaryWork s).entry p = (refreshOwn none (takeSnapshot (agedBase s))).entry p := by
    unfold State.entry; rw [boundaryWork_table, hl, if_pos rfl]
  rw [htable, refreshOwn_of_own hown, entry_setEntry, hentry, takeSnapshot_eq, agedBase_gather, ownRefreshed_eq]

end Sys2Proof.Machine
end

section
/-! Obligations O7 and O8: the cycle boundary and the phantom holds. -/

namespace Sys2Proof.Machine

/-! ## The values a boundary's work changes -/

theorem takeSnapshot_snaps (s : State) : (takeSnapshot s).clc = { s.clc with
    snapA := (takeSnapshot s).clc.snapA, snapB := (takeSnapshot s).clc.snapB } := by
  unfold takeSnapshot; split <;> rfl

theorem countListening_clc (s : State) : (countListening s).clc = { s.clc with
    linkState := (countListening s).clc.linkState, listeningCount := (countListening s).clc.listeningCount
    injectDone := (countListening s).clc.injectDone } := by
  unfold countListening leaveListening; simp only []; repeat' split
  all_goals rfl

theorem countListening_of_ne {s : State} (h : s.clc.linkState ≠ .listening) : countListening s = s := if_neg h

/-- Under 25 boundaries LISTENING goes on. -/
theorem countListening_linkState {s : State} (h : s.clc.linkState = .listening → s.clc.listeningCount < 24) :
    (countListening s).clc.linkState = s.clc.linkState := by
  unfold countListening; split
  next hl =>
    have hcount : ¬ 25 ≤ s.clc.listeningCount + 1 := by have := h hl; omega
    simp only [if_neg hcount]
  next => rfl

theorem refreshOwn_clc (code : Option FaultKind) (s : State) : (refreshOwn code s).clc = s.clc := by rw [refreshOwn_eq]

/-- A boundary's work ends with the LISTENING count, on the CLC that the copies leave. -/
theorem boundaryWork_counts (s : State) : ∃ u : State, u.clc = (takeSnapshot (agedBase s)).clc ∧ boundaryWork s = countListening u := by
  rw [boundaryWork_unfold]; split
  · exact ⟨_, refreshOwn_clc _ _, rfl⟩
  · exact ⟨_, rfl, rfl⟩

theorem boundaryWork_clc (s : State) : ∃ u : State, u.clc = (takeSnapshot (agedBase s)).clc ∧ (boundaryWork s).clc = (countListening u).clc := by
  obtain ⟨u, hu, hwork⟩ := boundaryWork_counts s
  exact ⟨u, hu, by rw [hwork]⟩

theorem boundaryWork_cycleCount (s : State) : (boundaryWork s).clc.cycleCount = s.clc.cycleCount + 1 := by
  obtain ⟨u, hu, hclc⟩ := boundaryWork_clc s
  rw [hclc, countListening_clc, hu, takeSnapshot_snaps]; rfl

theorem boundaryWork_windowIndex (s : State) : (boundaryWork s).clc.windowIndex = s.clc.windowIndex := by
  obtain ⟨u, hu, hclc⟩ := boundaryWork_clc s
  rw [hclc, countListening_clc, hu, takeSnapshot_snaps]; rfl

theorem boundaryWork_snapA (s : State) : (boundaryWork s).clc.snapA = (takeSnapshot (agedBase s)).clc.snapA := by
  obtain ⟨u, hu, hclc⟩ := boundaryWork_clc s
  rw [hclc, countListening_clc, hu]

theorem boundaryWork_snapB (s : State) : (boundaryWork s).clc.snapB = (takeSnapshot (agedBase s)).clc.snapB := by
  obtain ⟨u, hu, hclc⟩ := boundaryWork_clc s
  rw [hclc, countListening_clc, hu]

theorem boundaryWork_linkState {s : State} (h : s.clc.linkState = .listening → s.clc.listeningCount < 24) :
    (boundaryWork s).clc.linkState = s.clc.linkState := by
  obtain ⟨u, hu, hclc⟩ := boundaryWork_clc s
  have hlink : u.clc.linkState = s.clc.linkState := by rw [hu, takeSnapshot_snaps]; rfl
  have hcount : u.clc.listeningCount = s.clc.listeningCount := by rw [hu, takeSnapshot_snaps]; rfl
  rw [hclc, countListening_linkState (by rw [hlink, hcount]; exact h), hlink]

theorem boundaryWork_mpt (s : State) : (boundaryWork s).mpt = s.mpt := by rw [boundaryWork_eq]; rfl

theorem boundaryWork_ownPosition (s : State) : (boundaryWork s).ownPosition = s.ownPosition := by
  unfold State.ownPosition; rw [boundaryWork_mpt]

theorem boundaryWork_ssq (s : State) : (boundaryWork s).ssq = s.ssq := by rw [boundaryWork_eq]; rfl

theorem boundaryWork_holds (s : State) : (boundaryWork s).cpa.holds = s.holdsAfterAgeing := by rw [boundaryWork_eq]; rfl

theorem boundaryWork_claim (s : State) : (boundaryWork s).cpa.claim = agedClaim s.cpa.claim := by
  rw [boundaryWork_eq]; rfl

/-! ## The copies (R31) -/

theorem takeSnapshot_of_none {s : State} (h : s.mpt.committed = none) : takeSnapshot s = s := by simp [takeSnapshot, h]

theorem snapshot_eq (e : Entry) : e.snapshot = copyOf e := rfl

theorem aActs_eq (c : Committed) : c.aActs = relayAActs c := (Bool.decide_and _ _).symm

theorem bActs_eq (c : Committed) : c.bActs = relayBActs c := by
  unfold Committed.bActs relayBActs
  rw [Bool.decide_and, Bool.decide_and, Bool.decide_or, Bool.and_assoc]

/-- A relay entry that acts has another position's entry as its source, and the boundary has aged that one. -/
theorem snapshotFor_agedBase {s : State} {r : RelayEntry} {acts : Bool} (h : acts = true → s.ownPosition ≠ some r.source)
    (old : Option Snapshot) : (agedBase s).snapshotFor r acts old =
    if acts = true ∧ r.mode = .snapshot then copyOf (agedEntry (s.entry r.source)) else old := by
  unfold State.snapshotFor
  by_cases hacts : acts = true
  · have hentry : (agedBase s).entry r.source = agedEntry (s.entry r.source) :=
      (agedTable_get s r.source).trans (if_neg (h hacts))
    rw [hentry, snapshot_eq, hacts]; simp
  · simp [hacts]

theorem relayAActs_source {c : Committed} (h : relayAActs c = true) : c.relayA.source ≠ c.position := (of_decide_eq_true h).2

theorem relayBActs_source {c : Committed} (h : relayBActs c = true) : c.relayB.source ≠ c.position := (of_decide_eq_true h).2.1

theorem boundaryWork_copies {s : State} {c : Committed} (hc : s.mpt.committed = some c) :
    (boundaryWork s).clc.snapA = (if relayAActs c = true ∧ c.relayA.mode = .snapshot then
        copyOf (agedEntry (s.entry c.relayA.source)) else s.clc.snapA) ∧
    (boundaryWork s).clc.snapB = (if relayBActs c = true ∧ c.relayB.mode = .snapshot then
        copyOf (agedEntry (s.entry c.relayB.source)) else s.clc.snapB) := by
  have hown (p : Fin 8) (hp : p ≠ c.position) : s.ownPosition ≠ some p := by
    unfold State.ownPosition; rw [hc]; exact fun h => hp (Option.some.inj h).symm
  have hbase : (agedBase s).mpt.committed = some c := hc
  rw [boundaryWork_snapA, boundaryWork_snapB]
  unfold takeSnapshot; simp only [hbase]
  rw [aActs_eq, bActs_eq, snapshotFor_agedBase fun h => hown _ (relayAActs_source h),
    snapshotFor_agedBase fun h => hown _ (relayBActs_source h)]
  exact ⟨rfl, rfl⟩

theorem boundaryWork_copies_of_none {s : State} (hc : s.mpt.committed = none) :
    (boundaryWork s).clc.snapA = s.clc.snapA ∧ (boundaryWork s).clc.snapB = s.clc.snapB := by
  rw [boundaryWork_snapA, boundaryWork_snapB, takeSnapshot_of_none (by exact hc)]
  exact ⟨rfl, rfl⟩

/-! ## A window expiry that is a boundary -/

/-- The state in which the boundary of a window expiry begins: the window closed, the index at 0. -/
def windowZero (b : Nat) (s : State) : State :=
  setWindow 0 0 { closeWindow s with clc := { (closeWindow s).clc with busyUs := b, reception := s.receptionAtWindow b } }

/-- The own window begins with the boundary when it is window 0. -/
def beginZero (s : State) : State := if s.ownPosition = some 0 then beginOwnWindow s else s

theorem expireWindow_boundary (b : Nat) {s : State} (hi : s.clc.windowIndex = 7) (hm : s.clc.repeatMark = false) :
    expireWindow b s = beginZero (cycleBoundary (windowZero b s)) := by
  have hkept := linkKept_closeWindow s
  unfold expireWindow
  rw [advanceWindow_last (by exact hkept.windowIndex.trans hi), passZero_of_noMark (by exact hkept.repeatMark.trans hm)]
  rfl

theorem exec_boundary (b : Nat) {s : State} (ht : s.clc.windowTimer.isSome = true) (hi : s.clc.windowIndex = 7)
    (hm : s.clc.repeatMark = false) : exec (.windowTimerExpiry b) s = .next (beginZero (cycleBoundary (windowZero b s))) := by
  rw [exec_windowTimerExpiry ht, expireWindow_boundary b hi hm]

theorem linkKept_beginZero (s : State) : LinkKept s (beginZero s) := by
  unfold beginZero; split
  · exact linkKept_beginOwnWindow s
  · exact .refl s

theorem beginZero_linkState (s : State) : (beginZero s).clc.linkState = s.clc.linkState := by
  unfold beginZero; split
  · exact beginOwnWindow_linkState s
  · rfl

theorem beginZero_engine (s : State) : (beginZero s).ssq = s.ssq := by
  unfold beginZero; split
  · rw [beginOwnWindow_eq]
  · rfl

theorem beginZero_cpa (s : State) : (beginZero s).cpa = s.cpa := by
  unfold beginZero; split
  · rw [beginOwnWindow_eq]
  · rfl

theorem linkKept_boundary (s : State) : LinkKept (boundaryWork s) (beginZero (cycleBoundary s)) :=
  (linkKept_react s (boundaryWork s)).trans (linkKept_beginZero _)

theorem windowZero_ownPosition (b : Nat) (s : State) : (windowZero b s).ownPosition = s.ownPosition := (linkKept_closeWindow s).ownPosition

theorem windowZero_entry {b : Nat} {s : State} {p : Fin 8} (h : s.ownPosition ≠ some p) : (windowZero b s).entry p = s.entry p :=
  (linkKept_closeWindow s).entries p h

theorem windowZero_linkSnaps (b : Nat) (s : State) :
    (windowZero b s).clc.snapA = s.clc.snapA ∧ (windowZero b s).clc.snapB = s.clc.snapB := (linkKept_closeWindow s).snaps

theorem windowZero_mpt (b : Nat) (s : State) : (windowZero b s).mpt = s.mpt := (linkKept_closeWindow s).mpt

/-- With no CHECK record on the pair, the closing of a window touches the sending side and the counts alone. -/
theorem closeWindow_quiet {s : State} (h : noCheckOnPair s) : ∃ n : LinkCounters,
    closeWindow s = { s with clc := { s.clc with tx := .idle, counters := n } } := by
  by_cases htx : s.clc.tx = .deferring
  · exact ⟨_, closeWindow_of_deferring htx⟩
  · exact ⟨_, closeWindow_of_noCheck h htx⟩

/-- Window 0 as its boundary finds it, with no CHECK record on the pair. -/
theorem windowZero_quiet {b : Nat} {s : State} (h : noCheckOnPair s) : ∃ n : LinkCounters, windowZero b s = { s with
    clc := { s.clc with tx := .idle, counters := n, windowIndex := 0, windowTimer := some 0, busyUs := b
                        reception := s.receptionAtWindow b } } := by
  obtain ⟨n, hclose⟩ := closeWindow_quiet h
  exact ⟨n, by unfold windowZero setWindow; rw [hclose]⟩

/-! ## The claim through the reactions -/

/-- What a reaction keeps of a claim: in CLAIMING and PRELUBE all of it, in CRANKING unless the engine comes to rest. -/
structure KeepsClaim (s t : State) : Prop where
  claims : Claims s → Claims t ∧ t.cpa.claim = s.cpa.claim
  cranking : s.ssq.engine = .cranking → (t.ssq.engine = .cranking ∧ t.cpa.claim = s.cpa.claim) ∨ Rests t
  rests : Rests s → Rests t

theorem keepsClaim_react (old s : State) : KeepsClaim s (react old s) := ⟨react_claims old, react_cranking old, react_rests old⟩

theorem KeepsClaim.of_same {s t : State} (he : t.ssq.engine = s.ssq.engine) (hc : t.cpa.claim = s.cpa.claim) : KeepsClaim s t where
  claims h := ⟨by unfold Claims; rw [he]; exact h, hc⟩
  cranking h := Or.inl ⟨he.trans h, hc⟩
  rests h := by unfold Rests; rw [he]; exact h

theorem KeepsClaim.trans {s t u : State} (hst : KeepsClaim s t) (htu : KeepsClaim t u) : KeepsClaim s u where
  claims h := by
    obtain ⟨ht, hclaim⟩ := hst.claims h
    obtain ⟨hu, hclaim'⟩ := htu.claims ht
    exact ⟨hu, hclaim'.trans hclaim⟩
  cranking h := by
    rcases hst.cranking h with ⟨ht, hclaim⟩ | ht
    · exact (htu.cranking ht).imp_left fun ⟨hu, hclaim'⟩ => ⟨hu, hclaim'.trans hclaim⟩
    · exact Or.inr (htu.rests ht)
  rests h := htu.rests (hst.rests h)

theorem keepsClaim_checkSent (b : Bool) (s : State) : KeepsClaim s (checkSent b s) := by
  have hsent : KeepsClaim s (countCheckSent b (stopSending s)) := .of_same rfl rfl
  have hleft (u : State) : KeepsClaim u (leaveChecking u) := by
    unfold leaveChecking; split <;> exact .of_same rfl rfl
  unfold checkSent; simp only []; split
  · exact (hsent.trans (hleft _)).trans (keepsClaim_react s _)
  · exact hsent

theorem keepsClaim_closeWindow (s : State) : KeepsClaim s (closeWindow s) := by
  unfold closeWindow; split
  · exact .of_same rfl rfl
  · rcases finishSending_cases s with h | h | ⟨b, h⟩ <;> rw [h]
    · exact .of_same rfl rfl
    · exact .of_same rfl rfl
    · exact keepsClaim_checkSent b s

theorem Rests.not_cranking {s : State} (h : Rests s) : s.ssq.engine ≠ .cranking := by rcases h with h | h <;> rw [h] <;> decide

/-- Where the claim stays through two reactions about a boundary, it is the one the boundary aged. -/
theorem boundary_claim {s v : State} (hv : KeepsClaim s v) (h : Claims s ∨ s.ssq.engine = .cranking)
    (ht : s.ssq.engine = .cranking → (cycleBoundary v).ssq.engine = .cranking) :
    (cycleBoundary v).cpa.claim = agedClaim s.cpa.claim := by
  have hssq := boundaryWork_ssq v
  have hreact : KeepsClaim (boundaryWork v) (cycleBoundary v) := keepsClaim_react v (boundaryWork v)
  rcases h with h | h
  · obtain ⟨hclaims, hclaim⟩ := hv.claims h
    rw [(hreact.claims (by unfold Claims; rw [hssq]; exact hclaims)).2, boundaryWork_claim, hclaim]
  · rcases hv.cranking h with ⟨hcranking, hclaim⟩ | hrests
    · rcases hreact.cranking (by rw [hssq]; exact hcranking) with ⟨-, hclaim'⟩ | hrests
      · rw [hclaim', boundaryWork_claim, hclaim]
      · exact absurd (ht h) hrests.not_cranking
    · exact absurd (ht h) (hreact.rests (by unfold Rests; rw [hssq]; exact hrests)).not_cranking

/-! ## The own entry and the link state over a boundary -/

theorem linkAfter_of_followed {s : State} (h : s.clc.linkState = .joined ∨ s.clc.linkState = .alone) : s.linkAfter = s.joinedOrAlone := by
  rcases h with h | h <;> simp [State.linkAfter, h]

/-- A reaction gives JOINED or ALONE by the live set (R14). -/
theorem react_follows (old : State) {s : State} (h : s.clc.linkState = .joined ∨ s.clc.linkState = .alone) :
    (react old s).clc.linkState = if (react old s).liveSet = [] then .alone else .joined := by
  rw [react_linkState, linkAfter_of_followed h, joinedOrAlone_eq, react_liveSet]; simp only [List.length_eq_zero_iff]

theorem closeWindow_followed {s : State} (h : s.clc.linkState = .joined ∨ s.clc.linkState = .alone) :
    (closeWindow s).clc.linkState = .joined ∨ (closeWindow s).clc.linkState = .alone := by
  have hfollows (old u : State) (hu : u.clc.linkState = .joined ∨ u.clc.linkState = .alone) :
      (react old u).clc.linkState = .joined ∨ (react old u).clc.linkState = .alone := by
    rw [react_linkState, linkAfter_of_followed hu]; exact joinedOrAlone_follows u
  have hnot : s.clc.linkState ≠ .checking := by rcases h with h | h <;> rw [h] <;> decide
  unfold closeWindow; split
  · exact h
  · rcases finishSending_cases s with hf | hf | ⟨b, hf⟩ <;> rw [hf]
    · exact h
    · exact h
    · unfold checkSent; simp only []; split
      · rw [leaveChecking, if_neg (by exact hnot)]
        exact hfollows s _ h
      · exact h

theorem cycleBoundary_follows {s : State} (h : s.clc.linkState = .joined ∨ s.clc.linkState = .alone) :
    (cycleBoundary s).clc.linkState = if (cycleBoundary s).liveSet = [] then .alone else .joined := by
  have hwork : (boundaryWork s).clc.linkState = s.clc.linkState :=
    boundaryWork_linkState fun hl => by rcases h with h | h <;> rw [hl] at h <;> cases h
  unfold cycleBoundary
  exact react_follows s (by rw [hwork]; exact h)

theorem boundary_follows (b : Nat) (s : State) : FollowsLiveSet s (beginZero (cycleBoundary (windowZero b s))) := by
  intro h
  have hw : (windowZero b s).clc.linkState = .joined ∨ (windowZero b s).clc.linkState = .alone := closeWindow_followed h
  have hfollows := cycleBoundary_follows hw
  generalize cycleBoundary (windowZero b s) = u at hfollows ⊢
  rw [beginZero_linkState, (linkKept_beginZero u).liveSet, hfollows]

theorem linkAfter_of_fixed {s : State} (hj : s.clc.linkState ≠ .joined) (ha : s.clc.linkState ≠ .alone) : s.linkAfter = s.clc.linkState := by
  simp [State.linkAfter, hj, ha]

/-- Where the boundary does not begin a record of the own station, it leaves the own entry as its work made it. -/
theorem boundary_own {p : Fin 8} {s : State} (h : p ≠ 0 ∨ ((boundaryWork s).clc.linkState ≠ .joined ∧ (boundaryWork s).clc.linkState ≠ .alone))
    (hp : s.ownPosition = some p) : (beginZero (cycleBoundary s)).entry p = (boundaryWork s).entry p := by
  have hown : (cycleBoundary s).ownPosition = some p := by
    unfold cycleBoundary; rw [react_ownPosition, boundaryWork_ownPosition, hp]
  have hentry : (cycleBoundary s).entry p = (boundaryWork s).entry p := react_entry _ _ p
  rw [← hentry]
  unfold beginZero; split
  next hzero =>
    have hp0 : p = 0 := Option.some.inj (hown.symm.trans hzero)
    obtain ⟨hj, ha⟩ := h.resolve_left (absurd hp0)
    have hlink : (cycleBoundary s).clc.linkState = (boundaryWork s).clc.linkState := by
      unfold cycleBoundary; rw [react_linkState, linkAfter_of_fixed hj ha]
    unfold State.entry
    rw [beginOwnWindow_table (by rw [hlink]; exact hj) (by rw [hlink]; exact ha)]
  next => rfl

/-- The own entry's values do not come from CLC. -/
theorem ownEntryAfter_clc (code : Option FaultKind) (c : Clc) (s : State) (e : Entry) :
    ownEntryAfter code (agedState { s with clc := c }) e = ownEntryAfter code (agedState s) e := rfl

theorem boundary_own_refreshed {b : Nat} {s : State} {p : Fin 8} (hp : s.ownPosition = some p) (hcheck : noCheckOnPair s)
    (h : s.clc.linkState = .checking ∨ s.clc.linkState = .silenced
      ∨ (s.clc.linkState = .listening ∧ (p ≠ 0 ∨ s.clc.listeningCount < 24))) :
    (beginZero (cycleBoundary (windowZero b s))).entry p = ownEntryAfter none (agedState s) (s.entry p) := by
  obtain ⟨n, hw⟩ := windowZero_quiet (b := b) hcheck
  have hlinkw : (windowZero b s).clc.linkState = s.clc.linkState := by rw [hw]
  have hcountw : (windowZero b s).clc.listeningCount = s.clc.listeningCount := by rw [hw]
  have hpw : (windowZero b s).ownPosition = some p := (windowZero_ownPosition b s).trans hp
  have hrefreshes : (windowZero b s).clc.linkState.refreshesAtBoundary = true := by
    rw [hlinkw]; rcases h with h | h | ⟨h, -⟩ <;> rw [h] <;> rfl
  have hsilent : p ≠ 0 ∨ ((boundaryWork (windowZero b s)).clc.linkState ≠ .joined
      ∧ (boundaryWork (windowZero b s)).clc.linkState ≠ .alone) := by
    have hstays (hl : s.clc.linkState ≠ .joined ∧ s.clc.linkState ≠ .alone)
        (hc : s.clc.linkState = .listening → s.clc.listeningCount < 24) :
        (boundaryWork (windowZero b s)).clc.linkState ≠ .joined ∧ (boundaryWork (windowZero b s)).clc.linkState ≠ .alone := by
      rw [boundaryWork_linkState (by rw [hlinkw, hcountw]; exact hc), hlinkw]; exact hl
    rcases h with h | h | ⟨h, hp0 | hc⟩
    · exact Or.inr (hstays (by rw [h]; decide) (by rw [h]; exact fun h => nomatch h))
    · exact Or.inr (hstays (by rw [h]; decide) (by rw [h]; exact fun h => nomatch h))
    · exact Or.inl hp0
    · exact Or.inr (hstays (by rw [h]; decide) fun _ => hc)
  rw [boundary_own hsilent hpw, boundaryWork_own_refreshed hpw hrefreshes, hw]
  exact ownEntryAfter_clc none _ s (s.entry p)

theorem boundary_own_left {b : Nat} {s : State} {p : Fin 8} (hp : s.ownPosition = some p) (hcheck : noCheckOnPair s)
    (h : s.clc.linkState = .joined ∨ s.clc.linkState = .alone) (hp0 : p ≠ 0) :
    (beginZero (cycleBoundary (windowZero b s))).entry p = s.entry p := by
  obtain ⟨n, hw⟩ := windowZero_quiet (b := b) hcheck
  have hpw : (windowZero b s).ownPosition = some p := (windowZero_ownPosition b s).trans hp
  have hkeeps : (windowZero b s).clc.linkState.refreshesAtBoundary = false := by
    rw [hw]; show s.clc.linkState.refreshesAtBoundary = false
    rcases h with h | h <;> rw [h] <;> rfl
  rw [boundary_own (Or.inl hp0) hpw, boundaryWork_own_kept hpw hkeeps, hw]; rfl

/-! ## The obligations -/

theorem boundary_copies_of_none {b : Nat} {s : State} (h : s.mpt.committed = none) :
    (beginZero (cycleBoundary (windowZero b s))).clc.snapA = s.clc.snapA
      ∧ (beginZero (cycleBoundary (windowZero b s))).clc.snapB = s.clc.snapB := by
  obtain ⟨hA, hB⟩ := (linkKept_boundary (windowZero b s)).snaps
  obtain ⟨hA', hB'⟩ := boundaryWork_copies_of_none (s := windowZero b s) (by rw [windowZero_mpt]; exact h)
  obtain ⟨hA'', hB''⟩ := windowZero_linkSnaps b s
  exact ⟨hA.trans (hA'.trans hA''), hB.trans (hB'.trans hB'')⟩

theorem boundary_copies {b : Nat} {s : State} {c : Committed} (hc : s.mpt.committed = some c) :
    (beginZero (cycleBoundary (windowZero b s))).clc.snapA = (if relayAActs c = true ∧ c.relayA.mode = .snapshot then
        copyOf (agedEntry (s.entry c.relayA.source)) else s.clc.snapA) ∧
    (beginZero (cycleBoundary (windowZero b s))).clc.snapB = (if relayBActs c = true ∧ c.relayB.mode = .snapshot then
        copyOf (agedEntry (s.entry c.relayB.source)) else s.clc.snapB) := by
  have hentry (p : Fin 8) (hp : p ≠ c.position) : (windowZero b s).entry p = s.entry p :=
    windowZero_entry (by unfold State.ownPosition; rw [hc]; exact fun h => hp (Option.some.inj h).symm)
  obtain ⟨hA, hB⟩ := (linkKept_boundary (windowZero b s)).snaps
  obtain ⟨hA', hB'⟩ := boundaryWork_copies (s := windowZero b s) (by rw [windowZero_mpt]; exact hc)
  obtain ⟨hA'', hB''⟩ := windowZero_linkSnaps b s
  rw [hA, hB, hA', hB', hA'', hB'']
  refine ⟨?_, ?_⟩
  · split
    next h => rw [hentry _ (relayAActs_source h.1)]
    next => rfl
  · split
    next h => rw [hentry _ (relayBActs_source h.1)]
    next => rfl

/-- Settles O7: the window is closed, the boundary does its work, the blocks react, and the own window may begin with it. -/
theorem boundaryAgesEveryOtherEntry : Obligations.BoundaryAgesEveryOtherEntry := by
  refine ⟨boundaryWork_claim, fun b s htimer hi hmark => ⟨_, exec_boundary b htimer hi hmark, ?_⟩⟩
  have hkept := linkKept_boundary (windowZero b s)
  refine ⟨?_, ?_, fun p hp => ?_, boundary_follows b s, fun h => ?_, fun p hp hcheck => ⟨fun h => ?_, fun h hp0 => ?_⟩,
    boundary_copies_of_none, fun c hc => boundary_copies hc⟩
  · rw [hkept.cycleCount, boundaryWork_cycleCount]
    exact congrArg (· + 1) (linkKept_closeWindow s).cycleCount
  · rw [hkept.windowIndex, boundaryWork_windowIndex]; rfl
  · have hpw : (windowZero b s).ownPosition ≠ some p := by rw [windowZero_ownPosition]; exact hp
    rw [hkept.entries p (by rw [boundaryWork_ownPosition]; exact hpw), boundaryWork_entry hpw, windowZero_entry hp]
  · have hv : KeepsClaim s (windowZero b s) := (keepsClaim_closeWindow s).trans (.of_same rfl rfl)
    have hclaim := boundary_claim hv (by rcases h with h | h | ⟨h, -⟩ <;> simp [Claims, h])
      fun hcranking => by
        rcases h with h | h | ⟨-, h⟩
        · rw [h] at hcranking; cases hcranking
        · rw [h] at hcranking; cases hcranking
        · rwa [beginZero_engine] at h
    rw [beginZero_cpa, hclaim]
  · exact boundary_own_refreshed hp hcheck h
  · exact boundary_own_left hp hcheck h hp0

theorem agedEntry_lost {e : Entry} (hs : e.state = .live ∨ e.state = .stale) (h : 49 ≤ e.age) : (agedEntry e).state = .lost := by
  have hne : e.state ≠ .absent := by rcases hs with hs | hs <;> rw [hs] <;> decide
  have hmin : 50 ≤ min 63 (e.age + 1) := by omega
  unfold agedEntry
  rw [if_neg hne]
  simp only []
  rw [if_neg (by omega), if_neg (by omega)]

/-- An entry that ages to LOST starts a hold if its engine is in a permit state (R63). -/
theorem startsHold_of_lost {s : State} {p : Fin 8} (hown : s.ownPosition ≠ some p)
    (hs : (s.entry p).state = .live ∨ (s.entry p).state = .stale) (hage : 49 ≤ (s.entry p).age) :
    s.startsHold p = true ↔ (s.entry p).engine = .prelube ∨ (s.entry p).engine = .cranking ∨ (s.entry p).engine = .firing := by
  have hlost : (s.entry p).aged.state = .lost := by rw [aged_eq]; exact agedEntry_lost hs hage
  rw [← EngineState.holdsPermit_iff]
  simp [State.startsHold, hown, hlost, Entry.liveOrStale_iff.mpr hs]

theorem windowZero_holds (b : Nat) (s : State) : (windowZero b s).cpa.holds = s.cpa.holds := (linkKept_closeWindow s).holds

theorem exec_phantomHoldExpiry {p : Fin 8} {s : State} (h : (s.cpa.holds.get p).isSome = true) :
    exec (.phantomHoldExpiry p) s = .next (react s (endHold p s)) := by
  have hexec : exec (.phantomHoldExpiry p) s = execPhantomHoldExpiry p s := rfl
  rw [hexec]; unfold execPhantomHoldExpiry; rw [if_pos h]

/-- Settles O8: a hold starts with its entry's LOST report, and its expiry touches nothing else outside the deciding blocks. -/
theorem phantomHoldsStartAndEnd : Obligations.PhantomHoldsStartAndEnd := by
  refine ⟨fun b p s htimer hi hmark hown hs hage => ⟨_, exec_boundary b htimer hi hmark, ?_⟩,
    fun p s h => ⟨_, exec_phantomHoldExpiry h, ?_⟩⟩
  · have hentry : (windowZero b s).entry p = s.entry p := windowZero_entry hown
    have hownw : (windowZero b s).ownPosition ≠ some p := by rw [windowZero_ownPosition]; exact hown
    have hstarts := startsHold_of_lost hownw (by rw [hentry]; exact hs) (by rw [hentry]; exact hage)
    rw [hentry] at hstarts
    rw [(linkKept_boundary _).holds, boundaryWork_holds, State.holdsAfterAgeing, PerPosition.get_build, windowZero_holds]
    simp only [hstarts]
  · refine ⟨?_, fun q hq => ?_, ?_, ?_, ?_, ?_⟩
    · rw [react_holds]; exact PerPosition.get_set _ _ _
    · rw [react_holds]; exact PerPosition.get_set_ne _ _ hq
    · rw [react_table]; rfl
    · rw [react_lmn]; rfl
    · rw [react_mpt]; rfl
    · rw [react_clc]; rfl

end Sys2Proof.Machine
end

section
/-! The records that the station composes: STATUS, NOTICE and CHECK records octet by octet (R16, R20 to R33). -/

namespace Sys2Proof.Machine

/-! ## STATUS and NOTICE records -/

theorem demandCodeOf_eq (d : Option Nat) : demandCodeOf d = d.getD 15 := by cases d <;> rfl

theorem octets_summary (m : Snapshot) (p : Fin 8) : (m.summary p).octets = summaryOctets p m := by
  unfold Snapshot.summary Summary.octets summaryOctets
  simp only [demandCodeOf_eq]; rfl

theorem lowOctet_eq (t : BitVec 16) : lowOctet t.toNat = t.setWidth 8 := by
  unfold lowOctet byteOf; apply BitVec.eq_of_toNat_eq; simp

theorem highOctet_eq (t : BitVec 16) : highOctet t.toNat = (t >>> 8).setWidth 8 := by
  unfold highOctet byteOf; apply BitVec.eq_of_toNat_eq; simp [Nat.shiftRight_eq_div_pow]

theorem bits_ownFlags (s : State) : s.ownFlags.bits = ownFlagsOctet s := by
  unfold UnitFlags.bits State.ownFlags ownFlagsOctet flagBit
  simp only [Bool.and_eq_true, decide_eq_true_eq]

theorem relaySummary_octets (s : State) (e : RelayEntry) (acts : Bool) (copy : Option Snapshot) :
    (s.relaySummary e acts copy).toList.map Summary.octets = composedBy s e acts copy := by
  unfold State.relaySummary composedBy
  cases acts with
  | false => rfl
  | true =>
    cases e.mode with
    | off => rfl
    | latest =>
      simp only [if_true, snapshot_eq]
      cases copyOf (s.entry e.source) with
      | none => rfl
      | some m => exact congrArg (fun x => [x]) (octets_summary m e.source)
    | snapshot =>
      simp only [if_true]
      cases copy with
      | none => rfl
      | some m => exact congrArg (fun x => [x]) (octets_summary m e.source)

theorem relayList_octets (c : Committed) (s : State) : (s.relayList c).map Summary.octets = relayedSummaries c s := by
  unfold State.relayList relayedSummaries
  rw [List.map_append, relaySummary_octets, relaySummary_octets, aActs_eq, bActs_eq]

/-- What JOINED and ALONE put into the header octet. -/
theorem linkCode_followed {l : LinkState} (h : l = .joined ∨ l = .alone) : linkCode l = if l = .joined then 1 else 2 := by
  rcases h with h | h <;> rw [h] <;> rfl

theorem statusOctets_eq {c : Committed} {s : State} (d : Bool) (h : s.clc.linkState = .joined ∨ s.clc.linkState = .alone) :
    statusOctets s.fcl.notices.head? c.position d s.clc.linkState c.tag s.clc.cycleCount s.gather (s.relayList c)
      = ownRecord c d s := by
  have hlength : (s.relayList c).length = (relayedSummaries c s).length := by rw [← relayList_octets, List.length_map]
  unfold statusOctets ownRecord headerOctet closed
  rw [relayList_octets, hlength, linkCode_followed h, lowOctet_eq, highOctet_eq]
  simp only [State.gather, demandCodeOf_eq, bits_ownFlags, flagBit]
  cases s.fcl.notices.head? <;> rfl

/-- The own record goes out with the values of the state in which it is composed, and the own entry takes them (R22, R36). -/
theorem sends_sendStatus {c : Committed} {s : State} (hc : s.mpt.committed = some c) (d : Bool)
    (h : s.clc.linkState = .joined ∨ s.clc.linkState = .alone) :
    Sends (ownKind s) (ownRecord c d s) (sendStatus c d s) ∧ (sendStatus c d s).fcl.notices = s.fcl.notices.tail
      ∧ OwnEntryTakes c s (sendStatus c d s) := by
  have hown : s.ownPosition = some c.position := by unfold State.ownPosition; rw [hc]; rfl
  refine ⟨?_, ?_, ?_, fun p hp => ?_⟩
  · unfold sendStatus; simp only []; rw [statusOctets_eq d h]; exact ⟨rfl, rfl, rfl⟩
  · have hrefresh (k : Option FaultKind) (u : State) : (refreshOwn k u).fcl = u.fcl := by rw [refreshOwn_eq]
    unfold sendStatus startSending; simp only []; rw [hrefresh]
  · have hentry : (sendStatus c d s).entry c.position
        = (refreshOwn s.fcl.notices.head? { s with fcl := { s.fcl with notices := s.fcl.notices.tail } }).entry c.position := rfl
    rw [hentry, refreshOwn_of_own (by exact hown), entry_setEntry]
    exact ownRefreshed_eq s.fcl.notices.head? s _
  · exact refreshOwn_entry_ne (by show s.ownPosition ≠ some p; rw [hown]; exact fun h => hp (Option.some.inj h).symm)
      s.fcl.notices.head?

theorem sendRecord_of_followed {c : Committed} {s : State} (hc : s.mpt.committed = some c)
    (h : s.clc.linkState = .joined ∨ s.clc.linkState = .alone) (d : Bool) : sendRecord d s = sendStatus c d s := by
  unfold sendRecord; rw [hc]; rcases h with h | h <;> simp only [h]

theorem sendRecord_of_checking {c : Committed} {s : State} (hc : s.mpt.committed = some c) (h : s.clc.linkState = .checking) (d : Bool) :
    sendRecord d s = sendCheck c d s := by
  unfold sendRecord; rw [hc]; simp only [h]

/-! ## The CHECK payload (R16) -/

/-- The stages as a list, stage 1 first. -/
def stageList (v : BitVec 9) : List Bool := (List.range 9).map v.getLsbD

/-- So many output bits from these stages on, as the model steps them. -/
def stageBits : Nat → BitVec 9 → List Bool
  | 0, _ => []
  | n + 1, v => v.getLsbD 8 :: stageBits n (stepStages v)

theorem length_stageBits (n : Nat) (v : BitVec 9) : (stageBits n v).length = n := by
  induction n generalizing v with
  | zero => rfl
  | succ n ih => simp [stageBits, ih]

theorem stageList_stepStages : ∀ v : BitVec 9,
    stageList (stepStages v) = (v.getLsbD 8 ^^ v.getLsbD 4) :: (stageList v).take 8 := by decide

theorem seededStages_eq : ∀ (origin : Fin 8) (cycle : Byte), seededStages origin cycle = stageList (seedStages origin cycle) := by decide

theorem outputBits_stageList (n : Nat) (v : BitVec 9) : outputBits n (stageList v) = stageBits n v := by
  induction n generalizing v with
  | zero => rfl
  | succ n ih =>
    have h8 : (stageList v).getD 8 false = v.getLsbD 8 := rfl
    have h4 : (stageList v).getD 4 false = v.getLsbD 4 := rfl
    rw [outputBits, h8, h4, ← stageList_stepStages, ih]; rfl

/-- An octet of the payload, from its output bits, bit 0 first. -/
def octetOfBits (bits : List Bool) (k : Nat) : Byte :=
  BitVec.ofNat 8 ((List.range 8).map (fun i => if bits.getD (8 * k + i) false then 2 ^ i else 0)).sum

/-- So many steps of the stages. -/
def stepsOn : Nat → BitVec 9 → BitVec 9
  | 0, v => v
  | n + 1, v => stepsOn n (stepStages v)

theorem payloadOctet_eq : ∀ v : BitVec 9, payloadOctet 8 1 v = (octetOfBits (stageBits 8 v) 0, stepsOn 8 v) := by decide

theorem stageBits_add (m n : Nat) (v : BitVec 9) : stageBits (m + n) v = stageBits m v ++ stageBits n (stepsOn m v) := by
  induction m generalizing v with
  | zero => simp [stageBits, stepsOn]
  | succ m ih => rw [Nat.succ_add]; simp [stageBits, stepsOn, ih]

theorem octetOfBits_append_zero {as bs : List Bool} (h : as.length = 8) : octetOfBits (as ++ bs) 0 = octetOfBits as 0 := by
  unfold octetOfBits
  congr 2
  refine List.map_congr_left fun i hi => ?_
  have hi : 8 * 0 + i < as.length := by rw [h]; have := List.mem_range.mp hi; omega
  simp only [List.getD_append _ _ _ _ hi]

theorem octetOfBits_append_succ {as bs : List Bool} (h : as.length = 8) (k : Nat) : octetOfBits (as ++ bs) (k + 1) = octetOfBits bs k := by
  unfold octetOfBits
  congr 2
  refine List.map_congr_left fun i _ => ?_
  have hi : as.length ≤ 8 * (k + 1) + i := by omega
  have hsub : 8 * (k + 1) + i - as.length = 8 * k + i := by omega
  simp only [List.getD_append_right _ _ _ _ hi, hsub]

theorem payloadOctets_eq (n : Nat) (v : BitVec 9) : payloadOctets n v = (List.range n).map (octetOfBits (stageBits (8 * n) v)) := by
  induction n generalizing v with
  | zero => rfl
  | succ n ih =>
    have hbits : stageBits (8 * (n + 1)) v = stageBits 8 v ++ stageBits (8 * n) (stepsOn 8 v) := by
      rw [show 8 * (n + 1) = 8 + 8 * n by omega, stageBits_add]
    have hlength := length_stageBits 8 v
    rw [payloadOctets, payloadOctet_eq, List.range_succ_eq_map, List.map_cons, List.map_map, hbits, octetOfBits_append_zero hlength]
    simp only [ih]
    refine congrArg _ (List.map_congr_left fun k _ => ?_)
    exact (octetOfBits_append_succ hlength k).symm

/-- The payload that the model composes is the one the statements expect (R16). -/
theorem checkPayload_eq (origin : Fin 8) (cycle : Byte) : checkPayload origin cycle = expectedPayload origin cycle := by
  unfold checkPayload expectedPayload
  rw [payloadOctets_eq, seededStages_eq, outputBits_stageList]; rfl

theorem checkOctets_eq (c : Committed) (d : Bool) (s : State) :
    checkOctets c.position d c.tag s.clc.cycleCount
      (if decide (0 < s.clc.remainingInjected) then injectError s.clc.checkIndex (checkPayload c.position s.clc.cycleCount)
        else checkPayload c.position s.clc.cycleCount) = ownCheck c d s := by
  unfold checkOctets ownCheck closed headerOctet injectError
  rw [checkPayload_eq, lowOctet_eq, highOctet_eq]
  simp only [decide_eq_true_eq]; rfl

theorem sendCheck_eq (c : Committed) (d : Bool) (s : State) :
    sendCheck c d s = startSending (.check (decide (0 < s.clc.remainingInjected))) (ownCheck c d s) s := by
  rw [← checkOctets_eq]; rfl

theorem sends_sendCheck (c : Committed) (d : Bool) (s : State) :
    Sends (.check (decide (0 < s.clc.remainingInjected))) (ownCheck c d s) (sendCheck c d s) := by
  rw [sendCheck_eq]; exact ⟨rfl, rfl, rfl⟩

end Sys2Proof.Machine
end

section
/-! Obligations O9 to O11: the own window on a quiet and on a busy pair. -/

namespace Sys2Proof.Machine

/-! ## The own window begins -/

theorem beginOwnWindow_silent {s : State} (h : s.clc.linkState.sends = false) : beginOwnWindow s = s := by simp [beginOwnWindow, h]

theorem beginOwnWindow_busy {s : State} (h : s.clc.linkState.sends = true) (hb : s.pairBusy = true) :
    beginOwnWindow s = setTx .deferring s := by
  simp [beginOwnWindow, h, hb, setTx]

theorem beginOwnWindow_quiet {s : State} (h : s.clc.linkState.sends = true) (hb : s.pairBusy = false) :
    beginOwnWindow s = sendRecord false s := by
  simp [beginOwnWindow, h, hb]

theorem sends_of_followed {s : State} (h : s.clc.linkState = .joined ∨ s.clc.linkState = .alone) : s.clc.linkState.sends = true := by
  rcases h with h | h <;> rw [h] <;> rfl

theorem advanceWindow_own {s : State} (hi : s.clc.windowIndex ≠ 7) (hown : s.ownPosition = some (s.clc.windowIndex + 1)) :
    advanceWindow s = beginOwnWindow (setWindow (s.clc.windowIndex + 1) 0 s) := by
  have hown' : (setWindow (s.clc.windowIndex + 1) 0 s).ownPosition = some (s.clc.windowIndex + 1) := hown
  unfold advanceWindow; simp only [if_neg hi, if_pos hown']

theorem ownPosition_of_committed {c : Committed} {s : State} (hc : s.mpt.committed = some c) : s.ownPosition = some c.position := by
  unfold State.ownPosition; rw [hc]; rfl

/-! ## A window closed -/

/-- The state in which a window inside a cycle begins, with the sending side and the counts of the window closed. -/
def nextWindow (b : Nat) (n : LinkCounters) (s : State) : State :=
  { s with clc := { s.clc with tx := .idle, counters := n, windowIndex := s.clc.windowIndex + 1, windowTimer := some 0, busyUs := b
                               reception := s.receptionAtWindow b } }

/-- Inside a cycle, with no CHECK record on the pair, the next window begins with another count at most of a missed one. -/
theorem expireWindow_own {b : Nat} {s : State} (hcheck : noCheckOnPair s) (hi : s.clc.windowIndex ≠ 7)
    (hown : s.ownPosition = some (s.clc.windowIndex + 1)) :
    ∃ n, expireWindow b s = beginOwnWindow (nextWindow b n s) ∧ (s.clc.tx ≠ .deferring → n = s.clc.counters) := by
  by_cases htx : s.clc.tx = .deferring
  · refine ⟨{ s.clc.counters with windowMissed := sat16 s.clc.counters.windowMissed }, ?_, absurd htx⟩
    unfold expireWindow; rw [closeWindow_of_deferring htx, advanceWindow_own (by exact hi) (by exact hown)]; rfl
  · refine ⟨_, ?_, fun _ => rfl⟩
    unfold expireWindow; rw [closeWindow_of_noCheck hcheck htx, advanceWindow_own (by exact hi) (by exact hown)]; rfl

theorem expireWindow_inside {b : Nat} {s : State} (hcheck : noCheckOnPair s) (htx : s.clc.tx ≠ .deferring) (hi : s.clc.windowIndex ≠ 7)
    (hown : s.ownPosition ≠ some (s.clc.windowIndex + 1)) : expireWindow b s = nextWindow b s.clc.counters s := by
  unfold expireWindow; rw [closeWindow_of_noCheck hcheck htx, advanceWindow_inside (by exact hi) (by exact hown)]; rfl

/-! ## CLC over a boundary -/

theorem boundaryWork_clc_eq (s : State) : (boundaryWork s).clc = { s.clc with
    cycleCount := s.clc.cycleCount + 1, snapA := (boundaryWork s).clc.snapA, snapB := (boundaryWork s).clc.snapB
    linkState := (boundaryWork s).clc.linkState, listeningCount := (boundaryWork s).clc.listeningCount
    injectDone := (boundaryWork s).clc.injectDone } := by
  obtain ⟨u, hu, hclc⟩ := boundaryWork_clc s
  rw [hclc, countListening_clc, hu, takeSnapshot_snaps]; rfl

theorem cycleBoundary_clc_eq (s : State) : (cycleBoundary s).clc = { s.clc with
    cycleCount := s.clc.cycleCount + 1, snapA := (boundaryWork s).clc.snapA, snapB := (boundaryWork s).clc.snapB
    linkState := (cycleBoundary s).clc.linkState, listeningCount := (boundaryWork s).clc.listeningCount
    injectDone := (boundaryWork s).clc.injectDone } := by
  unfold cycleBoundary; rw [react_clc, boundaryWork_clc_eq]

theorem cycleBoundary_mpt (s : State) : (cycleBoundary s).mpt = s.mpt := by
  unfold cycleBoundary; rw [react_mpt, boundaryWork_mpt]

theorem cycleBoundary_ownPosition (s : State) : (cycleBoundary s).ownPosition = s.ownPosition := by
  unfold State.ownPosition; rw [cycleBoundary_mpt]

/-- A boundary that does not end LISTENING keeps the link states that do not follow the live set. -/
theorem cycleBoundary_fixed {s : State} (hj : s.clc.linkState ≠ .joined) (ha : s.clc.linkState ≠ .alone)
    (h : s.clc.linkState = .listening → s.clc.listeningCount < 24) : (cycleBoundary s).clc.linkState = s.clc.linkState := by
  have hwork := boundaryWork_linkState h
  unfold cycleBoundary
  rw [react_linkState, linkAfter_of_fixed (by rw [hwork]; exact hj) (by rw [hwork]; exact ha), hwork]

theorem cycleBoundary_followed {s : State} (h : s.clc.linkState = .joined ∨ s.clc.linkState = .alone) :
    (cycleBoundary s).clc.linkState = .joined ∨ (cycleBoundary s).clc.linkState = .alone := by
  rw [cycleBoundary_follows h]; split
  · exact Or.inr rfl
  · exact Or.inl rfl

/-! ## The link states that send nothing -/

/-- CONFIG, SILENCED, and LISTENING where it does not end with this window. -/
def StaysSilent (s : State) : Prop :=
  s.clc.linkState = .config ∨ s.clc.linkState = .silenced
    ∨ (s.clc.linkState = .listening ∧ (s.clc.windowIndex ≠ 7 ∨ s.clc.repeatMark = true ∨ s.clc.listeningCount < 24))

theorem StaysSilent.sends {s : State} (h : StaysSilent s) : s.clc.linkState.sends = false := by
  rcases h with h | h | ⟨h, -⟩ <;> rw [h] <;> rfl

theorem StaysSilent.not_followed {s : State} (h : StaysSilent s) : s.clc.linkState ≠ .joined ∧ s.clc.linkState ≠ .alone := by
  rcases h with h | h | ⟨h, -⟩ <;> rw [h] <;> exact ⟨by decide, by decide⟩

/-- The passage through 0 keeps the sending side, the counters, the busy time, and the link state of a silent station. -/
theorem passZero_silent {s : State} (hj : s.clc.linkState ≠ .joined) (ha : s.clc.linkState ≠ .alone)
    (h : s.clc.linkState = .listening → s.clc.repeatMark = true ∨ s.clc.listeningCount < 24) :
    (passZero s).clc.tx = s.clc.tx ∧ (passZero s).clc.counters = s.clc.counters ∧ (passZero s).clc.busyUs = s.clc.busyUs
      ∧ (passZero s).clc.linkState = s.clc.linkState := by
  cases hm : s.clc.repeatMark with
  | true => rw [passZero_of_mark hm]; exact ⟨rfl, rfl, rfl, rfl⟩
  | false =>
    have hlink := cycleBoundary_fixed hj ha fun hl => (h hl).resolve_left (by rw [hm]; decide)
    have hclc := cycleBoundary_clc_eq s
    rw [passZero_of_noMark hm]
    exact ⟨by rw [hclc], by rw [hclc], by rw [hclc], hlink⟩

theorem expireWindow_silent {b : Nat} {s : State} (hcheck : noCheckOnPair s) (htx : s.clc.tx ≠ .deferring) (h : StaysSilent s) :
    (expireWindow b s).clc.tx = .idle ∧ (expireWindow b s).clc.counters = s.clc.counters ∧ (expireWindow b s).clc.busyUs = b
      ∧ (s.clc.windowIndex ≠ 7 → expireWindow b s = nextWindow b s.clc.counters s) := by
  by_cases hi : s.clc.windowIndex = 7
  · obtain ⟨hj, ha⟩ := h.not_followed
    have hpass := passZero_silent (s := setWindow 0 0 { setTx .idle s with
      clc := { (setTx .idle s).clc with busyUs := b, reception := s.receptionAtWindow b } }) hj ha
      fun hl => by
        have hl : s.clc.linkState = .listening := hl
        rcases h with h | h | ⟨-, h⟩
        · rw [h] at hl; cases hl
        · rw [h] at hl; cases hl
        · exact h.resolve_left (absurd hi)
    refine ⟨?_, ?_, ?_, absurd hi⟩
    all_goals
      unfold expireWindow
      rw [closeWindow_of_noCheck hcheck htx, advanceWindow_last (by exact hi)]
      generalize passZero _ = u at hpass ⊢
      obtain ⟨hutx, hucounters, hubusy, hulink⟩ := hpass
      rw [beginOwnWindow_silent (by rw [hulink]; exact h.sends), ite_self]
      assumption
  · have hnext : expireWindow b s = nextWindow b s.clc.counters s := by
      by_cases hown : s.ownPosition = some (s.clc.windowIndex + 1)
      · obtain ⟨n, hexp, hn⟩ := expireWindow_own (b := b) hcheck hi hown
        rw [hexp, hn htx, beginOwnWindow_silent (by exact h.sends)]
      · exact expireWindow_inside hcheck htx hi hown
    rw [hnext]; exact ⟨rfl, rfl, rfl, fun _ => rfl⟩

/-! ## The obligations -/

theorem nextWindow_quiet (n : LinkCounters) (s : State) : (nextWindow 0 n s).pairBusy = false := rfl

/-- A STATUS or NOTICE of the own window inside a cycle. -/
theorem ownWindow_inside {c : Committed} {s : State} (hc : s.mpt.committed = some c) (hi : s.clc.windowIndex ≠ 7)
    (hp : c.position = s.clc.windowIndex + 1) (hcheck : noCheckOnPair s) (h : s.clc.linkState = .joined ∨ s.clc.linkState = .alone) :
    Sends (ownKind s) (ownRecord c false s) (expireWindow 0 s) ∧ (expireWindow 0 s).fcl.notices = s.fcl.notices.tail
      ∧ (expireWindow 0 s).clc.windowIndex = s.clc.windowIndex + 1 ∧ OwnEntryTakes c s (expireWindow 0 s) := by
  obtain ⟨n, hexp, -⟩ := expireWindow_own (b := 0) hcheck hi (by rw [ownPosition_of_committed hc, hp])
  have hquiet := nextWindow_quiet n s
  have hindex := (linkKept_beginOwnWindow (nextWindow 0 n s)).windowIndex
  obtain ⟨hsends, hnotices, hentry⟩ := sends_sendStatus (s := nextWindow 0 n s) hc false h
  have hbegins : beginOwnWindow (nextWindow 0 n s) = sendStatus c false (nextWindow 0 n s) := by
    rw [beginOwnWindow_quiet (sends_of_followed (s := nextWindow 0 n s) h) hquiet, sendRecord_of_followed (by exact hc) (by exact h)]
  rw [← hbegins, ← hexp] at hsends hnotices hentry
  exact ⟨hsends, hnotices, by rw [hexp, hindex]; rfl, hentry⟩

/-- A STATUS or NOTICE of window 0, after the boundary or the repeat mark's stop. -/
theorem ownWindow_zero {c : Committed} {u : State} (hc : u.mpt.committed = some c) (hp : c.position = 0) (hbusy : u.clc.busyUs = 0)
    (h : u.clc.linkState = .joined ∨ u.clc.linkState = .alone) :
    Sends (ownKind u) (ownRecord c false u) (beginZero u) ∧ (beginZero u).fcl.notices = u.fcl.notices.tail
      ∧ OwnEntryTakes c u (beginZero u) := by
  unfold beginZero
  rw [if_pos (by rw [ownPosition_of_committed hc, hp]), beginOwnWindow_quiet (sends_of_followed h) (by simp [State.pairBusy, hbusy]),
    sendRecord_of_followed hc h]
  exact sends_sendStatus hc false h

/-- The own record of window 0 follows the work of the boundary. -/
theorem boundary_then_own {c : Committed} {v : State} (hp : c.position = 0) (hc : v.mpt.committed = some c)
    (hbusy : v.clc.busyUs = 0) (h : v.clc.linkState = .joined ∨ v.clc.linkState = .alone) :
    ∃ u, u = cycleBoundary v ∧ u.clc.cycleCount = v.clc.cycleCount + 1 ∧ Sends (ownKind u) (ownRecord c false u) (beginZero u)
      ∧ (beginZero u).fcl.notices = u.fcl.notices.tail ∧ OwnEntryTakes c u (beginZero u) := by
  have hclc := cycleBoundary_clc_eq v
  exact ⟨_, rfl, by rw [hclc], ownWindow_zero (by rw [cycleBoundary_mpt]; exact hc) hp (by rw [hclc]; exact hbusy)
    (cycleBoundary_followed h)⟩

theorem receptionAtWindow_zero (s : State) : s.receptionAtWindow 0 = .ready := rfl

/-- The window before window 0 closed on an idle sending side. -/
theorem windowZero_of_idle {s : State} (htx : s.clc.tx = .idle) :
    windowZero 0 s = setWindow 0 0 { s with clc := { s.clc with busyUs := 0, reception := .ready } } := by
  unfold windowZero
  rw [closeWindow_of_noCheck (noCheckOnPair_of_idle htx) (by simp [htx]), setTx_of_tx htx, receptionAtWindow_zero]

theorem exec_repeated {s : State} (ht : s.clc.windowTimer.isSome = true) (hi : s.clc.windowIndex = 7)
    (hm : s.clc.repeatMark = true) (htx : s.clc.tx = .idle) :
    exec (.windowTimerExpiry 0) s = .next (beginZero { s with clc := { s.clc with
      windowIndex := 0, windowTimer := some 0, busyUs := 0, reception := .ready, repeatMark := false } }) := by
  rw [exec_windowTimerExpiry ht]; unfold expireWindow
  rw [closeWindow_of_noCheck (noCheckOnPair_of_idle htx) (by simp [htx]), setTx_of_tx htx, receptionAtWindow_zero,
    advanceWindow_last (by exact hi), passZero_of_mark (by exact hm)]
  rfl

theorem beginZero_cycleCount (s : State) : (beginZero s).clc.cycleCount = s.clc.cycleCount := (linkKept_beginZero s).cycleCount

/-- Settles O9: each link state's own window, reduced to the sending of its record. -/
theorem ownWindowSendsTheOwnRecord : Obligations.OwnWindowSendsTheOwnRecord := by
  refine ⟨fun c s hc ht hi hp hcheck h => ⟨_, exec_windowTimerExpiry ht, ownWindow_inside hc hi hp hcheck h⟩,
    fun c s hc ht hi hp htx h => ⟨fun hm => ⟨_, exec_repeated ht hi hm htx, ?_⟩, fun hm => ?_⟩,
    fun c s hc ht hi hp hcheck h => ⟨_, exec_windowTimerExpiry ht, ?_⟩,
    fun b s ht htx hcheck h => ⟨_, exec_windowTimerExpiry ht, ?_⟩⟩
  · have hcycle := beginZero_cycleCount { s with clc := { s.clc with
      windowIndex := 0, windowTimer := some 0, busyUs := 0, reception := .ready, repeatMark := false } }
    obtain ⟨hsends, hnotices, hentry⟩ := ownWindow_zero (u := { s with clc := { s.clc with
      windowIndex := 0, windowTimer := some 0, busyUs := 0, reception := .ready, repeatMark := false } }) hc hp rfl h
    exact ⟨hsends, hnotices, hcycle, hentry⟩
  · have hexec := exec_boundary 0 ht hi hm
    rw [windowZero_of_idle htx] at hexec
    obtain ⟨u, hu, hcycle, hsent⟩ := boundary_then_own (v := setWindow 0 0 { s with
      clc := { s.clc with busyUs := 0, reception := .ready } }) hp hc rfl h
    exact ⟨u, _, hu, hcycle, hu ▸ hexec, hsent⟩
  · obtain ⟨n, hexp, -⟩ := expireWindow_own (b := 0) hcheck hi (by rw [ownPosition_of_committed hc, hp])
    have hsends : (nextWindow 0 n s).clc.linkState.sends = true := by
      show s.clc.linkState.sends = true
      rw [h]; rfl
    rw [hexp, beginOwnWindow_quiet hsends (nextWindow_quiet n s), sendRecord_of_checking (by exact hc) (by exact h)]
    exact ⟨sends_sendCheck c false (nextWindow 0 n s), rfl, rfl⟩
  · obtain ⟨hidle, hcounters, hbusy, hinside⟩ := expireWindow_silent (b := b) hcheck htx h
    refine ⟨hidle, hcounters, hbusy, fun hi => ?_⟩
    rw [hinside hi]; unfold nextWindow; rw [receptionAt_eq]

theorem exec_deferredSend {u : Nat} {s : State} (htx : s.clc.tx = .deferring) (ht : s.clc.windowTimer = some u) (hu : u ≤ 2000) :
    exec .deferredSend s = .next (sendRecord true { s with clc := { s.clc with busyUs := 0, reception := .ready } }) := by
  have hexec : exec .deferredSend s = execDeferredSend s := rfl
  rw [hexec]; unfold execDeferredSend pairQuiet
  rw [if_pos ⟨htx, by rw [ht]; exact hu⟩, finishSending_of_deferring htx]

theorem sendStatus_eq (c : Committed) (d : Bool) (s : State) : sendStatus c d s = { s with
    clc := (sendStatus c d s).clc, table := (sendStatus c d s).table, fcl := (sendStatus c d s).fcl } := by
  unfold sendStatus startSending; simp only []; rw [refreshOwn_eq]

/-- Settles O10: the deferred record is composed as the state stands, with DEFERRED set. -/
theorem deferredSendSetsDeferred : Obligations.DeferredSendSetsDeferred := by
  refine fun c u s hc htx ht hu => ⟨fun h => ⟨_, exec_deferredSend htx ht hu, ?_⟩, fun h => ⟨_, exec_deferredSend htx ht hu, ?_⟩⟩
  · rw [sendRecord_of_followed (by exact hc) (by exact h)]
    obtain ⟨hsends, hnotices, hentry⟩ := sends_sendStatus
      (s := { s with clc := { s.clc with busyUs := 0, reception := .ready } }) hc true h
    refine ⟨hsends, hnotices, hentry, ?_⟩
    rw [sendStatus_eq]; exact ⟨rfl, rfl, rfl, rfl, rfl⟩
  · rw [sendRecord_of_checking (by exact hc) (by exact h)]
    exact ⟨sends_sendCheck c true { s with clc := { s.clc with busyUs := 0, reception := .ready } }, rfl⟩

/-- Settles O11: a busy pair defers the record, and the timeout of the deferral counts it as missed. -/
theorem busyPairDefersThenMisses : Obligations.BusyPairDefersThenMisses := by
  refine ⟨fun b c s hb hc ht hi hp hcheck h => ⟨_, exec_windowTimerExpiry ht, ?_⟩, fun s htx => ?_⟩
  · obtain ⟨n, hexp, -⟩ := expireWindow_own (b := b) hcheck hi (by rw [ownPosition_of_committed hc, hp])
    have hsends : (nextWindow b n s).clc.linkState.sends = true := by
      show s.clc.linkState.sends = true
      rcases h with h | h | h <;> rw [h] <;> rfl
    rw [hexp, beginOwnWindow_busy hsends (decide_eq_true hb)]
    exact ⟨rfl, rfl, rfl⟩
  · have hexec : exec .deferralTimeout s = execDeferralTimeout s := rfl
    rw [hexec]; unfold execDeferralTimeout; rw [if_pos htx]; rfl

end Sys2Proof.Machine
end

section
/-! The end of LISTENING and of the line check (R13 to R15). -/

namespace Sys2Proof.Machine

/-! ## The end of LISTENING -/

/-- The own window's beginning touches of CLC the sending side, the busy time and the reception alone. -/
theorem beginOwnWindow_clc (s : State) : (beginOwnWindow s).clc = { s.clc with
    tx := (beginOwnWindow s).clc.tx, busyUs := (beginOwnWindow s).clc.busyUs, reception := (beginOwnWindow s).clc.reception } := by
  have hstatus (c : Committed) : (sendStatus c false s).clc = { s.clc with
      tx := (sendStatus c false s).clc.tx, busyUs := (sendStatus c false s).clc.busyUs
      reception := (sendStatus c false s).clc.reception } := by
    unfold sendStatus startSending; simp only [refreshOwn_clc]
  unfold beginOwnWindow; split
  · split
    · rfl
    · unfold sendRecord; split
      · rfl
      · split
        · rfl
        · exact hstatus _
        · exact hstatus _
        · rfl
  · rfl

theorem beginZero_clc (s : State) : (beginZero s).clc = { s.clc with
    tx := (beginZero s).clc.tx, busyUs := (beginZero s).clc.busyUs, reception := (beginZero s).clc.reception } := by
  unfold beginZero; split
  · exact beginOwnWindow_clc s
  · rfl

theorem countListening_liveSet (s : State) : (countListening s).liveSet = s.liveSet := by rw [countListening_eq]; rfl

theorem countListening_goesOn {s : State} (hl : s.clc.linkState = .listening) (hc : s.clc.listeningCount < 24) :
    (countListening s).clc.listeningCount = s.clc.listeningCount + 1 := by
  have hcount : ¬ 25 ≤ s.clc.listeningCount + 1 := by omega
  unfold countListening; simp only [if_pos hl, if_neg hcount]

/-- The 25th boundary ends LISTENING. -/
theorem countListening_ends {s : State} (hl : s.clc.linkState = .listening) (hc : s.clc.listeningCount = 24) :
    countListening s = leaveListening { s with clc := { s.clc with listeningCount := 25 } } := by
  unfold countListening; simp only [if_pos hl, hc]; rfl

theorem leaveListening_clc (s : State) : (leaveListening s).clc = { s.clc with
    linkState := if 0 < s.clc.remainingCheck then .checking else s.joinedOrAlone
    injectDone := s.clc.injectDone || decide (0 < s.clc.remainingCheck ∧ s.clc.remainingInjected = 0) } := by
  unfold leaveListening; split
  next h => simp [h]
  next h => simp [h]

/-- The link state after the end of LISTENING, with a reaction that follows. -/
theorem linkAfter_of_left {s : State} {n : Nat} (h : s.clc.linkState = if 0 < n then .checking else s.joinedOrAlone) :
    s.linkAfter = afterListening n s := by
  unfold afterListening
  by_cases hn : 0 < n
  · rw [if_pos hn] at h ⊢
    rw [linkAfter_of_fixed (by rw [h]; decide) (by rw [h]; decide), h]
  · rw [if_neg hn] at h ⊢
    rw [linkAfter_of_followed (by rw [h]; exact joinedOrAlone_follows s), joinedOrAlone_eq]
    simp only [List.length_eq_zero_iff]

theorem afterListening_congr {s t : State} (h : t.liveSet = s.liveSet) (n : Nat) : afterListening n t = afterListening n s := by
  unfold afterListening; rw [h]

/-- A boundary in LISTENING: the count, and at 25 the state that follows. -/
theorem cycleBoundary_listening_ends {s : State} (hl : s.clc.linkState = .listening) (hc : s.clc.listeningCount = 24) :
    (cycleBoundary s).clc.listeningCount = 25 ∧ (cycleBoundary s).clc.linkState = afterListening s.clc.remainingCheck (cycleBoundary s)
      ∧ (cycleBoundary s).clc.injectDone = (s.clc.injectDone || decide (0 < s.clc.remainingCheck ∧ s.clc.remainingInjected = 0)) := by
  obtain ⟨u, hu, hwork⟩ := boundaryWork_counts s
  rw [takeSnapshot_snaps] at hu
  have hul : u.clc.linkState = .listening := by rw [hu]; exact hl
  have huc : u.clc.listeningCount = 24 := by rw [hu]; exact hc
  have hulive : (boundaryWork s).joinedOrAlone = u.joinedOrAlone := by
    rw [joinedOrAlone_eq, joinedOrAlone_eq, hwork, countListening_liveSet]
  have hleft : (boundaryWork s).clc = { u.clc with
      listeningCount := 25, linkState := if 0 < s.clc.remainingCheck then .checking else (boundaryWork s).joinedOrAlone
      injectDone := s.clc.injectDone || decide (0 < s.clc.remainingCheck ∧ s.clc.remainingInjected = 0) } := by
    rw [hulive, hwork, countListening_ends hul huc, leaveListening_clc, hu]; rfl
  have hafter : (boundaryWork s).linkAfter = afterListening s.clc.remainingCheck (boundaryWork s) := linkAfter_of_left (by rw [hleft])
  unfold cycleBoundary
  rw [react_clc, afterListening_congr (react_liveSet s (boundaryWork s)), hafter, hleft]
  exact ⟨rfl, rfl, rfl⟩

theorem cycleBoundary_listening_goesOn {s : State} (hl : s.clc.linkState = .listening) (hc : s.clc.listeningCount < 24) :
    (cycleBoundary s).clc.linkState = .listening ∧ (cycleBoundary s).clc.listeningCount = s.clc.listeningCount + 1 := by
  obtain ⟨u, hu, hwork⟩ := boundaryWork_counts s
  rw [takeSnapshot_snaps] at hu
  have hcount : (boundaryWork s).clc.listeningCount = s.clc.listeningCount + 1 := by
    rw [hwork, countListening_goesOn (by rw [hu]; exact hl) (by rw [hu]; exact hc), hu]; rfl
  refine ⟨?_, ?_⟩
  · rw [cycleBoundary_fixed (by rw [hl]; decide) (by rw [hl]; decide) fun _ => hc, hl]
  · rw [cycleBoundary_clc_eq, hcount]

/-- The window expiry that takes the 25th boundary. -/
theorem listeningEnds_expireWindow (b : Nat) {s : State} (hl : s.clc.linkState = .listening) (hi : s.clc.windowIndex = 7)
    (hm : s.clc.repeatMark = false) (hcheck : noCheckOnPair s) (hc : s.clc.listeningCount = 24) : ListeningEnds s (expireWindow b s) := by
  obtain ⟨n, hw⟩ := windowZero_quiet (b := b) hcheck
  have hends := cycleBoundary_listening_ends (s := windowZero b s) (by rw [hw]; exact hl) (by rw [hw]; exact hc)
  have hrest : (windowZero b s).clc.remainingCheck = s.clc.remainingCheck ∧ (windowZero b s).clc.injectDone = s.clc.injectDone
      ∧ (windowZero b s).clc.remainingInjected = s.clc.remainingInjected ∧ (windowZero b s).clc.cycleCount = s.clc.cycleCount := by
    rw [hw]; exact ⟨rfl, rfl, rfl, rfl⟩
  have hentries (p : Fin 8) (hp : s.ownPosition ≠ some p) :
      (beginZero (cycleBoundary (windowZero b s))).entry p = agedEntry (s.entry p) := by
    have hpw : (windowZero b s).ownPosition ≠ some p := by rw [windowZero_ownPosition]; exact hp
    rw [(linkKept_boundary _).entries p (by rw [boundaryWork_ownPosition]; exact hpw), boundaryWork_entry hpw, windowZero_entry hp]
  have hclc := cycleBoundary_clc_eq (windowZero b s)
  have htimer : (windowZero b s).clc.windowTimer = some 0 := rfl
  have hindex : (windowZero b s).clc.windowIndex = 0 := rfl
  obtain ⟨hremaining, hdone, hinjected, hcycle⟩ := hrest
  obtain ⟨hcount, hlink, hinject⟩ := hends
  rw [expireWindow_boundary b hi hm]
  generalize cycleBoundary (windowZero b s) = u at hclc hcount hlink hinject hentries
  have hbegin := beginZero_clc u
  have hlive : (beginZero u).liveSet = u.liveSet := (linkKept_beginZero u).liveSet
  refine ⟨?_, ?_, ?_, ?_, hentries, ?_, ?_⟩
  · rw [hbegin]; exact hcount
  · rw [hbegin, hclc]; exact hindex
  · rw [hbegin, hclc]; exact htimer
  · rw [hbegin, hclc, hcycle]
  · rw [hbegin, afterListening_congr hlive, ← hremaining]; exact hlink
  · rw [hbegin, ← hdone, ← hremaining, ← hinjected]; exact hinject

theorem listening_goesOn_expireWindow (b : Nat) {s : State} (hl : s.clc.linkState = .listening) (hi : s.clc.windowIndex = 7)
    (hm : s.clc.repeatMark = false) (hcheck : noCheckOnPair s) (hc : s.clc.listeningCount < 24) :
    (expireWindow b s).clc.linkState = .listening ∧ (expireWindow b s).clc.listeningCount = s.clc.listeningCount + 1 := by
  obtain ⟨n, hw⟩ := windowZero_quiet (b := b) hcheck
  have hcountw : (windowZero b s).clc.listeningCount = s.clc.listeningCount := by rw [hw]
  have hgoes := cycleBoundary_listening_goesOn (s := windowZero b s) (by rw [hw]; exact hl) (by rw [hcountw]; exact hc)
  rw [expireWindow_boundary b hi hm, ← hcountw]
  generalize cycleBoundary (windowZero b s) = u at hgoes
  rw [beginZero_clc]; exact hgoes

theorem listeningEnds_iff {s : State} : s.listeningEnds = true ↔ s.clc.windowTimer.isSome = true ∧ s.clc.linkState = .listening
    ∧ s.clc.windowIndex = 7 ∧ s.clc.repeatMark = false ∧ 24 ≤ s.clc.listeningCount := by
  simp [State.listeningEnds, and_assoc]

theorem exec_listeningEnd {s : State} : exec .listeningEnd s =
    .next (if s.listeningEnds then expireWindow (Config.listeningBusy s.freeCount) (useFree s) else s) := rfl

/-! ## The end of the line check -/

theorem sendsCheck_of_tx {s : State} {i : Bool} {bs : List WireOctet} {us : Nat} (h : s.clc.tx = .sending ⟨.check i, bs, us⟩) :
    s.sendsCheck = true := by
  unfold State.sendsCheck; rw [h]

/-- The CHECK record that takes the remaining check count to 0 ends CHECKING. -/
theorem checkSent_last {s : State} (i : Bool) (hl : s.clc.linkState = .checking) (hr : s.clc.remainingCheck = 1) :
    (checkSent i s).clc.remainingCheck = 0 ∧ (checkSent i s).clc.checkIndex = s.clc.checkIndex + 1 ∧ (checkSent i s).clc.tx = .idle
      ∧ (checkSent i s).clc.linkState = if s.liveSet = [] then .alone else .joined := by
  have hzero : (countCheckSent i (stopSending s)).clc.remainingCheck = 0 := by
    show s.clc.remainingCheck - 1 = 0; rw [hr]
  have hleft : leaveChecking (countCheckSent i (stopSending s)) = setLink s.joinedOrAlone (countCheckSent i (stopSending s)) := if_pos hl
  have hafter : (setLink s.joinedOrAlone (countCheckSent i (stopSending s))).linkAfter = s.joinedOrAlone :=
    linkAfter_of_followed (joinedOrAlone_follows s)
  unfold checkSent; simp only []
  rw [if_pos hzero, hleft, react_clc, hafter, joinedOrAlone_eq]
  simp only [List.length_eq_zero_iff]
  exact ⟨hzero, rfl, rfl, trivial⟩

/-- A CHECK record sent counts one, whatever follows. -/
theorem checkSent_counts (i : Bool) (s : State) : (checkSent i s).clc.remainingCheck = s.clc.remainingCheck - 1
    ∧ (checkSent i s).clc.checkIndex = s.clc.checkIndex + 1 := by
  have hleave (u : State) : (leaveChecking u).clc.remainingCheck = u.clc.remainingCheck ∧ (leaveChecking u).clc.checkIndex = u.clc.checkIndex := by
    unfold leaveChecking; split <;> exact ⟨rfl, rfl⟩
  unfold checkSent; simp only []; split
  · rw [react_clc]; exact hleave _
  · exact ⟨rfl, rfl⟩

end Sys2Proof.Machine
end

section
/-! The taking of a record (R4 to R12, R37 to R41): the quiet pair, the realignment, and the refreshes, each with what it changes. -/

namespace Sys2Proof.Machine

/-- JOINED or ALONE, the link states that follow the live set. -/
def Followed (s : State) : Prop := s.clc.linkState = .joined ∨ s.clc.linkState = .alone

theorem followed_of_linkAfter {s t : State} (hs : Followed s) (h : t.clc.linkState = s.linkAfter) : Followed t := by
  unfold Followed; rw [h, linkAfter_of_followed hs]; exact joinedOrAlone_follows s

theorem followed_react (old : State) {s : State} (h : Followed s) : Followed (react old s) := followed_of_linkAfter h (react_linkState old s)

/-! ## The moves and CLC -/

theorem setLink_linkAfter {l : LinkState} {s : State} (h : l = .joined ∨ l = .alone) : (setLink l s).linkAfter = s.joinedOrAlone := if_pos h

/-- The moves of the deciding blocks leave what the live set makes of the link state. -/
theorem Move.linkAfter_eq {s t : State} (h : Move s t) : t.linkAfter = s.linkAfter := by
  have hsame (u v : State) (hclc : v.clc = u.clc) (houter : v.outer = u.outer) : v.linkAfter = u.linkAfter := by
    unfold State.linkAfter; rw [hclc, joinedOrAlone_of_outer houter]
  by_cases hlink : s.clc.linkState = .joined ∨ s.clc.linkState = .alone
  · cases h with
    | link s hold => rw [setLink_linkAfter (joinedOrAlone_follows s), linkAfter_of_followed hold]
    | raise k s hk => exact hsame _ _ (by simp) (outer_raiseFault k s)
    | crankFail c s => exact hsame _ _ (by simp) (Move.crankFail c s).outer_eq
    | clear k s hk => exact hsame _ _ (by simp) (outer_clearFault k s)
    | withdraw c s => exact hsame _ _ (by simp) (Move.withdraw c s).outer_eq
    | post c r s he => exact hsame _ _ (by simp) (Move.post c r s he).outer_eq
    | ssq | nsp | yields | enter => rfl
  · have hfixed : s.linkAfter = s.clc.linkState := if_neg hlink
    exact hsame _ _ (h.clc_of_settled hfixed) h.outer_eq

theorem moves_linkAfter {s t : State} (h : Moves s t) : t.linkAfter = s.linkAfter := h.same fun _ _ => Move.linkAfter_eq

/-- A state with the outer part of another has its CLC but for the link state. -/
theorem clc_of_outer {s t : State} (h : t.outer = s.outer) : t.clc = { s.clc with linkState := t.clc.linkState } := by
  have hclc : ({ t.clc with linkState := .config } : Clc) = { s.clc with linkState := .config } := congrArg Outer.clc h
  exact congrArg (fun c : Clc => { c with linkState := t.clc.linkState }) hclc

/-! ## The pair becomes quiet -/

/-- What the end of sending does to CLC: a record still taken as being sent has gone out. -/
structure Finished (s u : State) : Prop where
  counters : u.clc.counters = s.clc.counters
  deferring : u.clc.tx = .deferring ↔ s.clc.tx = .deferring
  sent : u.clc.tx = .idle ∨ u.clc.tx = .deferring
  sends : u.clc.linkState.sends = s.clc.linkState.sends
  followed : Followed s → Followed u

theorem leaveChecking_sends (s : State) : (leaveChecking s).linkAfter.sends = s.clc.linkState.sends := by
  have hjoined (u : State) : u.joinedOrAlone.sends = true := by rcases joinedOrAlone_follows u with h | h <;> rw [h] <;> rfl
  by_cases hc : s.clc.linkState = .checking
  · have hleft : leaveChecking s = setLink s.joinedOrAlone s := if_pos hc
    rw [hleft, setLink_linkAfter (joinedOrAlone_follows s), hjoined, hc]; rfl
  · have hstays : leaveChecking s = s := if_neg hc
    rw [hstays]
    by_cases hf : s.clc.linkState = .joined ∨ s.clc.linkState = .alone
    · rw [linkAfter_of_followed hf, hjoined, sends_of_followed hf]
    · unfold State.linkAfter; rw [if_neg hf]

theorem leaveChecking_followed {s : State} (h : Followed s) : leaveChecking s = s :=
  if_neg (by rcases h with h | h <;> rw [h] <;> decide)

theorem leaveChecking_clc (s : State) : (leaveChecking s).clc = { s.clc with linkState := (leaveChecking s).clc.linkState } := by
  unfold leaveChecking; split <;> rfl

/-- The end of a CHECK record, in CLC. -/
theorem checkSent_clc (i : Bool) (s : State) : ∃ l, (checkSent i s).clc = { (countCheckSent i (stopSending s)).clc with linkState := l }
    ∧ l.sends = s.clc.linkState.sends ∧ (Followed s → l = .joined ∨ l = .alone) := by
  unfold checkSent; simp only []; split
  · refine ⟨_, ?_, leaveChecking_sends (countCheckSent i (stopSending s)), fun h => ?_⟩
    · rw [react_clc, leaveChecking_clc]
    · have hf : Followed (countCheckSent i (stopSending s)) := h
      rw [leaveChecking_followed hf, linkAfter_of_followed hf]; exact joinedOrAlone_follows _
  · exact ⟨_, rfl, rfl, id⟩

theorem finished_self {s : State} (h : s.clc.tx = .idle ∨ s.clc.tx = .deferring) : Finished s s := ⟨rfl, Iff.rfl, h, rfl, id⟩

theorem finished_idle {s : State} {r : SentRecord} (h : s.clc.tx = .sending r) : Finished s (setTx .idle s) :=
  ⟨rfl, by simp [h], Or.inl rfl, rfl, id⟩

theorem finished_checkSent {s : State} {r : SentRecord} (h : s.clc.tx = .sending r) (i : Bool) : Finished s (checkSent i s) := by
  obtain ⟨l, hclc, hsends, hfollowed⟩ := checkSent_clc i s
  refine ⟨?_, ?_, ?_, ?_, fun hs => ?_⟩
  · rw [hclc]; rfl
  · rw [hclc, h]; exact ⟨(fun h => nomatch h), (fun h => nomatch h)⟩
  · rw [hclc]; exact Or.inl rfl
  · rw [hclc]; exact hsends
  · unfold Followed; rw [hclc]; exact hfollowed hs

theorem finished_finishSending (s : State) : Finished s (finishSending s) := by
  unfold finishSending
  cases htx : s.clc.tx with
  | idle => exact finished_self (Or.inl htx)
  | deferring => exact finished_self (Or.inr htx)
  | sending r =>
    cases hk : r.kind with
    | check i => simp only [hk]; exact finished_checkSent htx i
    | status => simp only [hk]; exact finished_idle htx
    | notice k => simp only [hk]; exact finished_idle htx

/-- What the quiet of the pair does to a station. -/
structure Quieted (s u : State) : Prop where
  kept : LinkKept s u
  finished : Finished s u
  busy : u.clc.busyUs = 0
  reception : u.clc.reception = .ready

theorem quieted_pairQuiet (s : State) : Quieted s (pairQuiet s) where
  kept := (linkKept_finishSending s).trans (linkKept_clc _)
  finished := by
    obtain ⟨hcounters, hdeferring, hsent, hsends, hfollowed⟩ := finished_finishSending s
    exact ⟨hcounters, hdeferring, hsent, hsends, hfollowed⟩
  busy := rfl
  reception := rfl

/-- With no CHECK record on the pair its quiet touches CLC's sending side, busy time and reception alone. -/
theorem pairQuiet_of_noCheck {s : State} (h : noCheckOnPair s) :
    ∃ x, pairQuiet s = { s with clc := { s.clc with tx := x, busyUs := 0, reception := .ready } } := by
  unfold pairQuiet
  by_cases htx : s.clc.tx = .deferring
  · rw [finishSending_of_deferring htx]; exact ⟨_, rfl⟩
  · rw [finishSending_of_noCheck h htx]; exact ⟨_, rfl⟩

/-! ## The realignment (R4 to R6) -/

/-- A deferral that a realignment to window `q` ends, or an own window that it passes over, counts as missed (R6). -/
def MissesOnWay (q : Fin 8) (s : State) : Prop :=
  (s.clc.tx = .deferring ∧ q ≠ s.clc.windowIndex) ∨ (s.missesWindow s.clc.windowIndex q = true ∧ s.clc.linkState.sends = true)

/-- The state before the index moves to `q`, its misses counted. -/
def closedOnWay (q : Fin 8) (s : State) : State :=
  if s.clc.tx = .deferring ∧ q ≠ s.clc.windowIndex then countMissed (setTx .idle s)
  else if s.missesWindow s.clc.windowIndex q && s.clc.linkState.sends then countMissed s
  else s

theorem realign_eq (q : Fin 8) {us : Nat} (hus : us < 5000) (s : State) :
    realign q us s = crossZero s.clc.windowIndex q (setWindow q us (closedOnWay q s)) :=
  if_neg (by omega)

theorem closedOnWay_eq (q : Fin 8) (s : State) : ∃ x n, closedOnWay q s = { s with
      clc := { s.clc with tx := x, counters := { s.clc.counters with windowMissed := n } } }
    ∧ (MissesOnWay q s → n = min 65535 (s.clc.counters.windowMissed + 1)) ∧ (¬ MissesOnWay q s → n = s.clc.counters.windowMissed) := by
  unfold closedOnWay MissesOnWay
  by_cases hd : s.clc.tx = .deferring ∧ q ≠ s.clc.windowIndex
  · rw [if_pos hd]; exact ⟨_, _, rfl, fun _ => rfl, fun h => absurd (Or.inl hd) h⟩
  · rw [if_neg hd]
    by_cases hm : s.missesWindow s.clc.windowIndex q = true ∧ s.clc.linkState.sends = true
    · rw [if_pos (by rw [hm.1, hm.2]; rfl)]; exact ⟨_, _, rfl, fun _ => rfl, fun h => absurd (Or.inr hm) h⟩
    · rw [if_neg (by rw [Bool.and_eq_true]; exact hm)]
      exact ⟨_, _, rfl, fun h => absurd h (not_or.mpr ⟨hd, hm⟩), fun _ => rfl⟩

/-- What a move of the index over window 0 does: a boundary or none, and the repeat mark. -/
structure Crossed (boundary mark : Bool) (v t : State) : Prop where
  clc : t.clc = { v.clc with
    cycleCount := if boundary then v.clc.cycleCount + 1 else v.clc.cycleCount, repeatMark := mark, snapA := t.clc.snapA
    snapB := t.clc.snapB, linkState := t.clc.linkState, listeningCount := t.clc.listeningCount, injectDone := t.clc.injectDone }
  entries : ∀ p, v.ownPosition ≠ some p → t.entry p = if boundary then agedEntry (v.entry p) else v.entry p
  lmn : t.lmn = v.lmn
  mpt : t.mpt = v.mpt
  pins : t.pins = v.pins
  followed : Followed v → Followed t
  follows : boundary = true → FollowsLiveSet v t

theorem crossed_mark (m : Bool) (v : State) : Crossed false m v { v with clc := { v.clc with repeatMark := m } } :=
  ⟨rfl, fun _ _ => rfl, rfl, rfl, rfl, id, fun h => nomatch h⟩

theorem crossed_cycleBoundary {v : State} (h : v.clc.repeatMark = false) : Crossed true false v (cycleBoundary v) where
  clc := by
    have hclc := cycleBoundary_clc_eq v
    rw [hclc]; simp [h]
  entries p hp := (react_entry v (boundaryWork v) p).trans (boundaryWork_entry hp)
  lmn := (react_lmn v (boundaryWork v)).trans (by rw [boundaryWork_eq]; rfl)
  mpt := cycleBoundary_mpt v
  pins := (react_pins v (boundaryWork v)).trans (by rw [boundaryWork_eq]; rfl)
  followed := cycleBoundary_followed
  follows _ := cycleBoundary_follows

/-- The repeat mark and the boundary of a move of the index from `i` to `q` (the table of R5). -/
theorem crossed_crossZero (i q : Fin 8) (v : State) :
    Crossed (decide (1 ≤ (q - i).val ∧ (q - i).val ≤ 4 ∧ q < i) && !v.clc.repeatMark)
      (if decide (1 ≤ (q - i).val ∧ (q - i).val ≤ 4 ∧ q < i) then false
        else if decide (5 ≤ (q - i).val ∧ i < q) then true else v.clc.repeatMark) v (crossZero i q v) := by
  unfold crossZero
  by_cases hf : 1 ≤ (q - i).val ∧ (q - i).val ≤ 4 ∧ q < i
  · simp only [hf, decide_true, if_true, Bool.true_and, and_self]
    cases hm : v.clc.repeatMark with
    | true => rw [passZero_of_mark hm]; exact crossed_mark false v
    | false => rw [passZero_of_noMark hm]; exact crossed_cycleBoundary hm
  · simp only [hf, decide_false, if_false, Bool.false_and]
    by_cases hb : 5 ≤ (q - i).val ∧ i < q
    · rw [if_pos hb, if_pos (decide_eq_true hb)]; exact crossed_mark true v
    · rw [if_neg hb]; simp only [decide_eq_false hb, Bool.false_eq_true, if_false]; exact crossed_mark v.clc.repeatMark v

end Sys2Proof.Machine
end

section
/-! The taking of a record, continued: the aligned state, the refreshes, and what RECORD_TAKEN answers. -/

namespace Sys2Proof.Machine

/-! ## The aligned state -/

/-- A record that is not deferred realigns the window (R4, R11). -/
def alignTo (r : Record) (us : Nat) (s : State) : State := if r.deferred then s else realign r.origin us s

/-- What the realignment by a record of `n` octets changes. -/
structure Aligned (n : Nat) (r : Record) (s t : State) : Prop where
  realigned : Realigned n r s t
  counters : t.clc.counters = { s.clc.counters with windowMissed := t.clc.counters.windowMissed }
  entries : ∀ p, s.ownPosition ≠ some p → t.entry p = if takesBoundary r s then agedEntry (s.entry p) else s.entry p
  busy : t.clc.busyUs = s.clc.busyUs
  reception : t.clc.reception = s.clc.reception
  checks : t.clc.remainingCheck = s.clc.remainingCheck ∧ t.clc.checkIndex = s.clc.checkIndex
  lmn : t.lmn = s.lmn
  mpt : t.mpt = s.mpt
  pins : t.pins = s.pins
  followed : Followed s → Followed t
  follows : takesBoundary r s = true → FollowsLiveSet s t

theorem sends_iff {l : LinkState} : l.sends = true ↔ l = .checking ∨ l = .joined ∨ l = .alone := by
  cases l <;> simp [LinkState.sends]

theorem missesWindow_iff {q : Fin 8} {s : State} : s.missesWindow s.clc.windowIndex q = true ↔
    (q - s.clc.windowIndex).val ≤ 4 ∧ ∃ own, s.ownPosition = some own ∧ 1 ≤ (own - s.clc.windowIndex).val
      ∧ (own - s.clc.windowIndex).val < (q - s.clc.windowIndex).val := by
  unfold State.missesWindow
  cases s.ownPosition with
  | none => simp
  | some own =>
    simp only [Bool.and_eq_true, decide_eq_true_eq]
    refine ⟨fun ⟨⟨⟨⟨_, _⟩, hq⟩, hown⟩, hpassed⟩ => ⟨hq, own, rfl, hown, hpassed⟩, fun ⟨hq, own', hsome, hown, hpassed⟩ => ?_⟩
    obtain rfl := Option.some.inj hsome
    refine ⟨⟨⟨⟨fun h => ?_, by omega⟩, hq⟩, hown⟩, hpassed⟩
    rw [h, sub_self] at hown
    exact absurd hown (by decide)

theorem missesOnWay_iff {r : Record} {s : State} (hd : r.deferred = false) : MissesOnWay r.origin s ↔ ownWindowMissed r s := by
  unfold MissesOnWay ownWindowMissed distance
  rw [missesWindow_iff, sends_iff]
  refine ⟨fun h => ⟨hd, h.imp_right fun ⟨hmiss, hsends⟩ => ⟨hsends, hmiss⟩⟩, fun ⟨_, h⟩ => h.imp_right fun ⟨hsends, hmiss⟩ => ⟨hmiss, hsends⟩⟩

theorem crossesForward_eq {r : Record} {s : State} (hd : r.deferred = false) : crossesForward r s =
    decide (1 ≤ (r.origin - s.clc.windowIndex).val ∧ (r.origin - s.clc.windowIndex).val ≤ 4 ∧ r.origin < s.clc.windowIndex) := by
  simp [crossesForward, distance, hd]

theorem crossesBackward_eq {r : Record} {s : State} (hd : r.deferred = false) : crossesBackward r s =
    decide (5 ≤ (r.origin - s.clc.windowIndex).val ∧ s.clc.windowIndex < r.origin) := by
  simp [crossesBackward, distance, hd]

theorem aligned_deferred {r : Record} (n : Nat) (s : State) (hd : r.deferred = true) : Aligned n r s s := by
  have hforward : crossesForward r s = false := by simp [crossesForward, hd]
  have hbackward : crossesBackward r s = false := by simp [crossesBackward, hd]
  have hboundary : takesBoundary r s = false := by simp [takesBoundary, hforward]
  have hmissed : ¬ ownWindowMissed r s := by simp [ownWindowMissed, hd]
  refine ⟨⟨?_, ?_, ?_, ?_, fun h => absurd h hmissed, fun _ => rfl⟩, rfl, fun p _ => ?_, rfl, rfl, ⟨rfl, rfl⟩, rfl, rfl, rfl, id, fun h => ?_⟩
  · simp [hd]
  · simp [hd]
  · simp [hboundary]
  · simp [hforward, hbackward]
  · simp [hboundary]
  · simp [hboundary] at h

theorem aligned_realign {r : Record} {n : Nat} (hn : 72 * n + 80 < 5000) (s : State) (hd : r.deferred = false) :
    Aligned n r s (realign r.origin (72 * n + 80) s) := by
  obtain ⟨x, m, hclosed, hmissed, hkept⟩ := closedOnWay_eq r.origin s
  rw [missesOnWay_iff hd] at hmissed hkept
  have hcrossed := crossed_crossZero s.clc.windowIndex r.origin (setWindow r.origin (72 * n + 80) (closedOnWay r.origin s))
  have hmark : (setWindow r.origin (72 * n + 80) (closedOnWay r.origin s)).clc.repeatMark = s.clc.repeatMark := by rw [hclosed]; rfl
  rw [hmark, ← crossesForward_eq hd, ← crossesBackward_eq hd] at hcrossed
  rw [realign_eq r.origin hn, hclosed] at *
  obtain ⟨hclc, hentries, hlmn, hmpt, hpins, hfollowed, hfollows⟩ := hcrossed
  refine ⟨⟨?_, ?_, ?_, ?_, fun h => ?_, fun h => ?_⟩, ?_, hentries, ?_, ?_, ?_, hlmn, hmpt, hpins, hfollowed, hfollows⟩
  all_goals rw [hclc]
  · simp [hd]
  · simp [hd]
  · rfl
  · exact hmissed h
  · exact hkept h
  · rfl
  · rfl
  · rfl
  · exact ⟨rfl, rfl⟩

theorem aligned_alignTo {r : Record} {n : Nat} (hn : 72 * n + 80 < 5000) (s : State) : Aligned n r s (alignTo r (72 * n + 80) s) := by
  unfold alignTo
  cases hd : r.deferred with
  | true => exact aligned_deferred n s hd
  | false => exact aligned_realign hn s hd

/-! ## The counted record -/

/-- The state in which an accepted record acts: the pair quiet, the record counted. -/
def counted (s : State) : State := mapCounters (fun c => { c with recordsGood := sat16 c.recordsGood }) (pairQuiet s)

theorem counted_clc (s : State) : (counted s).clc = { (pairQuiet s).clc with
    counters := { s.clc.counters with recordsGood := min 65535 (s.clc.counters.recordsGood + 1) } } := by
  unfold counted; rw [mapCounters_clc, (quieted_pairQuiet s).finished.counters]; rfl

theorem linkKept_counted (s : State) : LinkKept s (counted s) := (quieted_pairQuiet s).kept.trans (linkKept_clc _)

theorem ownWindowMissed_congr {r : Record} {s u : State} (hdeferring : u.clc.tx = .deferring ↔ s.clc.tx = .deferring)
    (hindex : u.clc.windowIndex = s.clc.windowIndex) (hsends : u.clc.linkState.sends = s.clc.linkState.sends)
    (hown : u.ownPosition = s.ownPosition) : ownWindowMissed r u ↔ ownWindowMissed r s := by
  unfold ownWindowMissed distance
  rw [hdeferring, hindex, hown, ← sends_iff, ← sends_iff, hsends]

theorem takesBoundary_congr (r : Record) {s u : State} (hindex : u.clc.windowIndex = s.clc.windowIndex)
    (hmark : u.clc.repeatMark = s.clc.repeatMark) : takesBoundary r u = takesBoundary r s := by
  unfold takesBoundary crossesForward distance; rw [hindex, hmark]

theorem takesBoundary_counted (r : Record) (s : State) : takesBoundary r (counted s) = takesBoundary r s :=
  takesBoundary_congr r (linkKept_counted s).windowIndex (linkKept_counted s).repeatMark

/-- The realignment of the counted state, told of the state before the record. -/
theorem realigned_of_counted {n : Nat} {r : Record} {s t : State} (h : Realigned n r (counted s) t) : Realigned n r s t := by
  have hkept := linkKept_counted s
  have hfinished := (quieted_pairQuiet s).finished
  have hmissed : ownWindowMissed r (counted s) ↔ ownWindowMissed r s :=
    ownWindowMissed_congr hfinished.deferring hkept.windowIndex hfinished.sends hkept.ownPosition
  have hforward : crossesForward r (counted s) = crossesForward r s := by unfold crossesForward distance; rw [hkept.windowIndex]
  have hbackward : crossesBackward r (counted s) = crossesBackward r s := by unfold crossesBackward distance; rw [hkept.windowIndex]
  have hcount : (counted s).clc.counters.windowMissed = s.clc.counters.windowMissed := by rw [counted_clc]
  unfold Realigned at h ⊢
  rw [takesBoundary_counted, hmissed, hforward, hbackward, hcount, hkept.windowIndex, hkept.windowTimer, hkept.cycleCount,
    hkept.repeatMark] at h
  exact h

/-! ## What RECORD_TAKEN does -/

theorem frames_iff {n : Nat} {s : State} : s.clc.reception.frames n = true ↔ framed n s := by
  unfold framed
  cases s.clc.reception with
  | ready => simp [Reception.frames]
  | suspended own q =>
    refine ⟨fun h => Or.inr ⟨own, q, rfl, of_decide_eq_true h⟩, fun h => ?_⟩
    rcases h with h | ⟨own', q', h, hq⟩
    · cases h
    · cases h; exact decide_eq_true hq

theorem exec_recordTaken_unframed {ws : List WireOctet} {s : State} (hr : s.inReset = false) (hf : ¬ framed ws.length s) :
    exec (.recordTaken ws) s = .next (pairQuiet s) := by
  have hexec : exec (.recordTaken ws) s = execRecordTaken ws s := rfl
  have hframes : s.clc.reception.frames ws.length = false := by rw [← frames_iff] at hf; simpa using hf
  rw [hexec]; unfold execRecordTaken; rw [hr, hframes]; rfl

theorem exec_recordTaken_framed {ws : List WireOctet} {s : State} (hr : s.inReset = false) (hf : framed ws.length s) :
    exec (.recordTaken ws) s = .next (match acceptRecord ws with
      | some r => actOnRecord r (72 * ws.length + 80) (pairQuiet s)
      | none => rejectRecord ws (pairQuiet s)) := by
  have hexec : exec (.recordTaken ws) s = execRecordTaken ws s := rfl
  have hframes : s.clc.reception.frames ws.length = true := frames_iff.mpr hf
  rw [hexec]; unfold execRecordTaken; rw [hr, hframes]; rfl

theorem exec_recordTaken_accepted {ws : List WireOctet} {r : Record} {s : State} (hr : s.inReset = false) (hf : framed ws.length s)
    (ha : acceptRecord ws = some r) : exec (.recordTaken ws) s = .next (actOnRecord r (72 * ws.length + 80) (pairQuiet s)) := by
  rw [exec_recordTaken_framed hr hf, ha]

theorem exec_recordTaken_rejected {ws : List WireOctet} {s : State} (hr : s.inReset = false) (hf : framed ws.length s)
    (ha : acceptRecord ws = none) : exec (.recordTaken ws) s = .next (rejectRecord ws (pairQuiet s)) := by
  rw [exec_recordTaken_framed hr hf, ha]

/-- A record that passes the tests has the length of its mark. -/
theorem acceptRecord_some {ws : List WireOctet} {r : Record} (h : acceptRecord ws = some r) :
    ∃ m, Mark.ofOctet (octetAt (ws.map dataBits) 0) = some m ∧ recordLengthOk m (ws.map dataBits) = true
      ∧ r = parseRecord m (ws.map dataBits) := by
  unfold acceptRecord at h; simp only [] at h
  split at h
  · split at h
    · cases h
    next m hm =>
      split at h
      next hok =>
        simp only [Bool.and_eq_true] at hok
        exact ⟨m, hm, hok.1.2, (Option.some.inj h).symm⟩
      · cases h
  · cases h

theorem recordLengthOk_bound {m : Mark} {bs : List Byte} (h : recordLengthOk m bs = true) : bs.length ≤ 24 := by
  have hclaim : flagBit (claimPresent bs) 1 ≤ 1 := by unfold flagBit; split <;> omega
  unfold recordLengthOk at h; simp only [] at h
  cases m with
  | check => simp at h; omega
  | status => simp at h; omega
  | notice => simp at h; omega

theorem acceptRecord_bound {ws : List WireOctet} {r : Record} (h : acceptRecord ws = some r) : 72 * ws.length + 80 < 5000 := by
  obtain ⟨m, -, hlength, -⟩ := acceptRecord_some h
  have hbound := recordLengthOk_bound hlength
  rw [List.length_map] at hbound; omega

theorem parseRecord_mark (m : Mark) (bs : List Byte) : (parseRecord m bs).mark = m := rfl

theorem acceptRecord_payload {ws : List WireOctet} {r : Record} (h : acceptRecord ws = some r) (hm : r.mark = .check) :
    r.payload.length = 16 := by
  obtain ⟨m, -, hlength, rfl⟩ := acceptRecord_some h
  obtain rfl : m = .check := hm
  unfold recordLengthOk at hlength; simp at hlength
  simp [parseRecord, hlength.2]

/-- An accepted record of another position, or of a station with no position yet. -/
theorem actOnRecord_other {r : Record} {us : Nat} {s : State} (h : s.ownPosition ≠ some r.origin) :
    actOnRecord r us (pairQuiet s) = if r.mark = .check then compareCheck r (alignTo r us (counted s))
      else if s.mpt.committed.isSome then handOn r (alignTo r us (counted s)) else alignTo r us (counted s) := by
  have hmpt : (mapCounters (fun c => { c with recordsGood := sat16 c.recordsGood }) (pairQuiet s)).mpt.committed = s.mpt.committed :=
    congrArg Mpt.committed (linkKept_counted s).mpt
  unfold actOnRecord; simp only [hmpt]
  cases hc : s.mpt.committed with
  | none => rfl
  | some c =>
    have hother : r.origin ≠ c.position := fun hp => h (by rw [ownPosition_of_committed hc, hp])
    simp only [if_neg hother]; rfl

theorem actOnRecord_own {r : Record} {us : Nat} {c : Committed} {s : State} (hc : s.mpt.committed = some c) (hp : r.origin = c.position) :
    actOnRecord r us (pairQuiet s) = if r.tag = c.tag then counted s else react (counted s) (duplicatePosition (counted s)) := by
  have hmpt : (mapCounters (fun c => { c with recordsGood := sat16 c.recordsGood }) (pairQuiet s)).mpt.committed = some c := by
    rw [← hc]; exact congrArg Mpt.committed (linkKept_counted s).mpt
  unfold actOnRecord; simp only [hmpt, if_pos hp]; rfl

/-! ## One refresh of an entry -/

section
variable (p : Fin 8) (e : Entry) (s : State)

theorem refreshEntry_holds : (refreshEntry p e s).cpa.holds = s.cpa.holds.set p none := (refreshEntry_keeps p e s).2.1

theorem refreshEntry_mpt : (refreshEntry p e s).mpt = s.mpt := (refreshEntry_keeps p e s).2.2.1

theorem refreshEntry_lmn : (refreshEntry p e s).lmn = s.lmn := (refreshEntry_keeps p e s).2.2.2

theorem refreshEntry_pins : (refreshEntry p e s).pins = s.pins :=
  pins_of_outer (s := endHold p (setEntry p e s)) (outer_refreshEntry p e s)

theorem refreshEntry_linkState : (refreshEntry p e s).clc.linkState = (setEntry p e s).linkAfter := by
  unfold refreshEntry
  rw [react_linkState, moves_linkAfter (moves_clashTest (.refl _))]; rfl

/-- A refresh changes of CLC the link state alone. -/
theorem refreshEntry_clc : (refreshEntry p e s).clc = { s.clc with linkState := (setEntry p e s).linkAfter } := by
  rw [clc_of_outer (outer_refreshEntry p e s), refreshEntry_linkState]; rfl

theorem refreshEntry_followed {s : State} (h : Followed s) : Followed (refreshEntry p e s) :=
  followed_of_linkAfter (s := setEntry p e s) h (refreshEntry_linkState p e s)

theorem refreshEntry_follows : FollowsLiveSet s (refreshEntry p e s) := by
  intro h
  have hlive : (refreshEntry p e s).liveSet = (setEntry p e s).liveSet :=
    liveSet_of_outer (s := endHold p (setEntry p e s)) (outer_refreshEntry p e s)
  have hafter : (setEntry p e s).linkAfter = (setEntry p e s).joinedOrAlone := linkAfter_of_followed h
  rw [refreshEntry_linkState, hafter, joinedOrAlone_eq, hlive]
  simp only [List.length_eq_zero_iff]

end

end Sys2Proof.Machine
end

section
/-! Obligations O14 to O17: the end of LISTENING and of the line check, failed, accepted and duplicate records. -/

namespace Sys2Proof.Machine

/-! ## The refreshes of a record (R37 to R41) -/

theorem replacedBy_eq (e : Entry) (r : Record) : e.replacedBy r.tag = replaces e r := rfl

theorem refreshed_eq (e : Entry) (r : Record) : e.refreshed r = afterRecord r e := by
  unfold Entry.refreshed afterRecord
  simp only [replacedBy_eq]
  cases r.fault <;> rfl

theorem agedEntry_absent_iff {e : Entry} : (agedEntry e).state = .absent ↔ e.state = .absent := by
  unfold agedEntry
  by_cases h : e.state = .absent
  · rw [if_pos h]
  · rw [if_neg h]; simp only [h, iff_false]
    split
    · decide
    · split <;> decide

theorem agedEntry_kept (e : Entry) : (agedEntry e).tag = e.tag ∧ (agedEntry e).engine = e.engine ∧ (agedEntry e).prev = e.prev
    ∧ (agedEntry e).lastFault = e.lastFault ∧ (agedEntry e).checkErrors = e.checkErrors := by
  unfold agedEntry; split <;> exact ⟨rfl, rfl, rfl, rfl, rfl⟩

theorem replaces_aged (e : Entry) (r : Record) : replaces (agedEntry e) r = replaces e r := by
  unfold replaces; simp only [ne_eq, agedEntry_absent_iff, (agedEntry_kept e).1]

/-- A direct refresh does not see whether its entry was aged just before. -/
theorem afterRecord_aged (r : Record) (e : Entry) : afterRecord r (agedEntry e) = afterRecord r e := by
  obtain ⟨-, hengine, hprev, hfault, herrors⟩ := agedEntry_kept e
  unfold afterRecord prevAfter
  simp only [replaces_aged, agedEntry_absent_iff, hengine, hprev, hfault, herrors]

theorem relayed_eq (v : Fin 8) (m : Summary) (e : Entry) : afterSummary v m e = if e.passesAge m.age then e.relayed v m else e := by
  have hpasses : e.passesAge m.age = true ↔ e.state = .absent ∨ m.age + 1 < e.age := by simp [Entry.passesAge]
  unfold afterSummary
  by_cases h : e.state = .absent ∨ m.age + 1 < e.age
  · rw [if_pos (hpasses.mpr h)]; exact if_pos h
  · rw [if_neg (mt hpasses.mp h)]; exact if_neg h

section
variable {v : Fin 8} {m : Summary} {s : State}

theorem relayedRefresh_entry {p : Fin 8} (hown : s.ownPosition ≠ some p) (hv : p ≠ v) :
    (relayedRefresh v m s).entry p = if m.origin = p then afterSummary v m (s.entry p) else s.entry p := by
  by_cases hp : m.origin = p
  · subst hp
    rw [if_pos rfl, relayed_eq]; unfold relayedRefresh
    rw [if_neg (not_or.mpr ⟨hown, hv⟩)]; simp only []
    split
    · exact refreshEntry_entry _ _ _
    · rfl
  · rw [if_neg hp]
    rcases relayedRefresh_cases v m s with h | h <;> rw [h]
    exact refreshEntry_entry_ne _ _ (Ne.symm hp)

theorem relayedRefresh_origin : (relayedRefresh v m s).entry v = s.entry v := by
  by_cases hv : m.origin = v
  · unfold relayedRefresh; rw [if_pos (Or.inr hv)]
  · rcases relayedRefresh_cases v m s with h | h <;> rw [h]
    exact refreshEntry_entry_ne _ _ (Ne.symm hv)

end

/-- What one refresh after another leaves: CLC but for the link state, the inputs, the configuration and the pins; no hold begins. -/
structure Handed (s t : State) : Prop where
  clc : t.clc = { s.clc with linkState := t.clc.linkState }
  lmn : t.lmn = s.lmn
  mpt : t.mpt = s.mpt
  pins : t.pins = s.pins
  holds : ∀ p, s.cpa.holds.get p = none → t.cpa.holds.get p = none
  follows : FollowsLiveSet s s → FollowsLiveSet s t
  followed : Followed s → Followed t

theorem Handed.refl (s : State) : Handed s s := ⟨rfl, rfl, rfl, rfl, fun _ => id, id, id⟩

theorem Handed.ownPosition {s t : State} (h : Handed s t) : t.ownPosition = s.ownPosition := by unfold State.ownPosition; rw [h.mpt]

theorem Handed.trans {s t u : State} (hst : Handed s t) (htu : Handed t u) : Handed s u where
  clc := by rw [htu.clc, hst.clc]
  lmn := htu.lmn.trans hst.lmn
  mpt := htu.mpt.trans hst.mpt
  pins := htu.pins.trans hst.pins
  holds p hp := htu.holds p (hst.holds p hp)
  follows h hs := htu.follows (fun _ => hst.follows h hs) (hst.followed hs)
  followed hs := htu.followed (hst.followed hs)

theorem handed_refreshEntry (p : Fin 8) (e : Entry) (s : State) : Handed s (refreshEntry p e s) where
  clc := by rw [refreshEntry_clc]
  lmn := refreshEntry_lmn p e s
  mpt := refreshEntry_mpt p e s
  pins := refreshEntry_pins p e s
  holds q hq := by
    rw [refreshEntry_holds]
    by_cases h : q = p
    · rw [h]; exact PerPosition.get_set _ _ _
    · rw [PerPosition.get_set_ne _ _ h]; exact hq
  follows _ := refreshEntry_follows p e s
  followed := refreshEntry_followed p e

theorem handed_relayedRefresh (v : Fin 8) (m : Summary) (s : State) : Handed s (relayedRefresh v m s) := by
  rcases relayedRefresh_cases v m s with h | h <;> rw [h]
  · exact .refl s
  · exact handed_refreshEntry _ _ s

theorem handed_relayedRefreshes (v : Fin 8) (ms : List Summary) (s : State) : Handed s (relayedRefreshes v ms s) := by
  induction ms generalizing s with
  | nil => exact .refl s
  | cons m ms ih => exact (handed_relayedRefresh v m s).trans (ih _)

/-- The summaries of a position, applied one after another to its entry (R40). -/
theorem relayedRefreshes_entry {v p : Fin 8} (ms : List Summary) {s : State} (hown : s.ownPosition ≠ some p) (hv : p ≠ v) :
    (relayedRefreshes v ms s).entry p
      = (ms.filter (fun m => decide (m.origin = p))).foldl (fun e m => afterSummary v m e) (s.entry p) := by
  induction ms generalizing s with
  | nil => rfl
  | cons m ms ih =>
    rw [relayedRefreshes, ih (by rw [(handed_relayedRefresh v m s).ownPosition]; exact hown), relayedRefresh_entry hown hv]
    by_cases hp : m.origin = p
    · simp [hp]
    · simp [hp]

theorem relayedRefreshes_origin (v : Fin 8) (ms : List Summary) (s : State) : (relayedRefreshes v ms s).entry v = s.entry v := by
  induction ms generalizing s with
  | nil => rfl
  | cons m ms ih => rw [relayedRefreshes, ih, relayedRefresh_origin]

/-- The state with a replacement of the origin counted (R38). -/
def tagCounted (r : Record) (s : State) : State :=
  if replaces (s.entry r.origin) r then mapCounters (fun c => { c with tagChange := sat16 c.tagChange }) s else s

theorem directRefresh_eq (r : Record) (s : State) :
    directRefresh r s = refreshEntry r.origin (afterRecord r (s.entry r.origin)) (tagCounted r s) := by
  rw [← refreshed_eq]; rfl

theorem tagCounted_clc (r : Record) (s : State) : (tagCounted r s) = { s with clc := { s.clc with counters := { s.clc.counters with
    tagChange := if replaces (s.entry r.origin) r then min 65535 (s.clc.counters.tagChange + 1) else s.clc.counters.tagChange } } } := by
  unfold tagCounted; split <;> rfl

/-- What handing a record on does to the table: its origin's entry, and the summaries of the others. -/
theorem handOn_origin (r : Record) (s : State) : (handOn r s).entry r.origin = afterRecord r (s.entry r.origin) := by
  unfold handOn; rw [relayedRefreshes_origin, directRefresh_eq, refreshEntry_entry]

theorem handOn_entry {r : Record} {s : State} {p : Fin 8} (hown : s.ownPosition ≠ some p) (hp : p ≠ r.origin) :
    (handOn r s).entry p = (r.summaries.filter (fun m => decide (m.origin = p))).foldl (fun e m => afterSummary r.origin m e) (s.entry p) := by
  have hcounted : (tagCounted r s).ownPosition = s.ownPosition ∧ (tagCounted r s).entry p = s.entry p := by
    rw [tagCounted_clc]; exact ⟨rfl, rfl⟩
  have hdirect : (directRefresh r s).ownPosition = s.ownPosition := by
    rw [directRefresh_eq, (handed_refreshEntry _ _ _).ownPosition, hcounted.1]
  unfold handOn
  rw [relayedRefreshes_entry _ (by rw [hdirect]; exact hown) hp, directRefresh_eq, refreshEntry_entry_ne _ _ hp, hcounted.2]

/-- What handing a record on leaves. -/
theorem handed_handOn (r : Record) (s : State) : Handed (tagCounted r s) (handOn r s) := by
  unfold handOn; rw [directRefresh_eq]
  exact (handed_refreshEntry _ _ _).trans (handed_relayedRefreshes _ _ _)

theorem handOn_follows (r : Record) (s : State) : FollowsLiveSet (tagCounted r s) (handOn r s) := by
  unfold handOn; rw [directRefresh_eq]
  intro h
  exact (handed_relayedRefreshes _ _ _).follows (fun _ => refreshEntry_follows _ _ _ h) (refreshEntry_followed _ _ h)

theorem handOn_hold (r : Record) (s : State) : (handOn r s).cpa.holds.get r.origin = none := by
  unfold handOn; rw [directRefresh_eq]
  refine (handed_relayedRefreshes _ _ _).holds _ ?_
  rw [refreshEntry_holds]; exact PerPosition.get_set _ _ _

end Sys2Proof.Machine
end

section
/-! The reading of a record (R10, R20, R21, R175): the tests of a record, and the fields that a receiver takes from its octets. -/

namespace Sys2Proof.Machine

/-! ## Octets -/

theorem octetAt_map (ws : List WireOctet) (i : Nat) : octetAt (ws.map dataBits) i = takenOctet ws i := by
  unfold octetAt takenOctet
  rw [List.getD_eq_getElem?_getD, List.getD_eq_getElem?_getD, List.getElem?_map]
  cases ws[i]? <;> rfl

theorem claimPresent_map (ws : List WireOctet) : claimPresent (ws.map dataBits) = claimFlag ws := by
  unfold claimPresent claimFlag; rw [octetAt_map]

theorem relayCount_map (ws : List WireOctet) : relayCount (ws.map dataBits) = relaysTold ws := by
  unfold relayCount relaysTold; rw [octetAt_map]; rfl

theorem onesBelow_eq {w : Nat} (v : BitVec w) (n : Nat) : onesBelow v n = ((List.range n).filter (fun i => v.getLsbD i)).length := by
  induction n with
  | zero => rfl
  | succ n ih =>
    rw [onesBelow, ih, List.range_succ, List.filter_append, List.length_append]
    cases h : v.getLsbD n <;> simp [h, flagBit]

theorem oddParity_iff (w : WireOctet) : oddParity w = true ↔ onesOf w % 2 = 1 := by
  unfold oddParity onesOf; rw [onesBelow_eq, beq_iff_eq]

theorem originOf_val (b : Byte) : (originOf b).val = bitsFrom b 0 3 := by
  unfold originOf field bitsFrom
  show b.toNat / 2 ^ 0 % 2 ^ 3 % 8 = b.toNat / 2 ^ 0 % 2 ^ 3
  omega

theorem legibleOrigin_iff (ws : List WireOctet) (p : Fin 8) : legibleOrigin ws = some p ↔
    ∃ w, ws[1]? = some w ∧ onesOf w % 2 = 1 ∧ p.val = w.toNat % 8 := by
  unfold legibleOrigin
  cases ws[1]? with
  | none => simp
  | some w =>
    have horigin : (originOf (dataBits w)).val = w.toNat % 8 := by
      rw [originOf_val]; unfold bitsFrom dataBits
      rw [BitVec.toNat_setWidth]; omega
    simp only [Option.some.injEq, exists_eq_left']
    by_cases hodd : oddParity w = true
    · rw [if_pos hodd, Option.some.injEq, Fin.ext_iff, horigin]
      exact ⟨fun h => ⟨(oddParity_iff w).mp hodd, h.symm⟩, fun h => h.2.symm⟩
    · rw [if_neg hodd]
      exact ⟨fun h => (nomatch h), fun h => absurd ((oddParity_iff w).mpr h.1) hodd⟩

/-! ## The tests -/

theorem checkOctetOk_iff (bs : List Byte) : checkOctetOk bs = true ↔ bs.getLast? = some (bs.dropLast.foldl (· ^^^ ·) (0 : Byte)) := by
  unfold checkOctetOk xorAll
  cases bs.getLast? with
  | none => exact ⟨(fun h => nomatch h), (fun h => nomatch h)⟩
  | some c =>
    rw [Option.some.injEq, beq_iff_eq]
    exact eq_comm

theorem askedLength_iff {c : Prop} [Decidable c] {n l : Nat} : (if c then some n else none) = some l ↔ (decide c && l == n) = true := by
  rw [Bool.and_eq_true, decide_eq_true_eq, beq_iff_eq]
  by_cases h : c
  · rw [if_pos h, Option.some.injEq]; exact ⟨fun hn => ⟨h, hn.symm⟩, fun hn => hn.2.symm⟩
  · rw [if_neg h]; exact ⟨(fun hn => nomatch hn), fun hn => absurd hn.1 h⟩

/-- The length asked of a record is the length of its mark. -/
theorem lengthAsked_iff (ws : List WireOctet) : lengthAsked ws = some ws.length ↔
    ∃ m, Mark.ofOctet (octetAt (ws.map dataBits) 0) = some m ∧ recordLengthOk m (ws.map dataBits) = true := by
  have hmark (m : Mark) (P : Mark → Prop) : (∃ m', some m = some m' ∧ P m') ↔ P m := by simp
  unfold lengthAsked Mark.ofOctet recordLengthOk
  rw [octetAt_map, claimPresent_map, relayCount_map, List.length_map]
  simp only []
  by_cases hstatus : takenOctet ws 0 = 0xA5
  · rw [if_pos hstatus, if_pos hstatus, hmark]; exact askedLength_iff
  · rw [if_neg hstatus, if_neg hstatus]
    by_cases hnotice : takenOctet ws 0 = 0xA6
    · rw [if_pos hnotice, if_pos hnotice, hmark]; exact askedLength_iff
    · rw [if_neg hnotice, if_neg hnotice]
      by_cases hcheck : takenOctet ws 0 = 0xA9
      · rw [if_pos hcheck, if_pos hcheck, hmark, askedLength_iff, Bool.decide_and]
        cases claimFlag ws <;> rfl
      · rw [if_neg hcheck, if_neg hcheck]
        exact ⟨(fun h => nomatch h), fun ⟨_, h, _⟩ => (nomatch h)⟩

theorem nonempty_of_lengthOk {m : Mark} {bs : List Byte} (h : recordLengthOk m bs = true) : bs.isEmpty = false := by
  cases bs with
  | nil =>
    unfold recordLengthOk at h; simp only [] at h
    cases m with
    | check => simp at h
    | status => simp at h; omega
    | notice => simp at h; omega
  | cons b bs => rfl

/-- The tests of R10 are those of the model, and the record is then read by its mark. -/
theorem passesTests_iff (ws : List WireOctet) : PassesTests ws ↔ ∃ m, Mark.ofOctet (octetAt (ws.map dataBits) 0) = some m ∧
    recordLengthOk m (ws.map dataBits) = true ∧ acceptRecord ws = some (parseRecord m (ws.map dataBits)) := by
  have hparity : (∀ w ∈ ws, onesOf w % 2 = 1) ↔ ws.all oddParity = true := by
    simp only [List.all_eq_true, oddParity_iff]
  have hcheck : (ws.map (fun w => w.setWidth 8)).getLast?
        = some ((ws.map (fun w => w.setWidth 8)).dropLast.foldl (· ^^^ ·) (0 : Byte))
      ↔ checkOctetOk (ws.map dataBits) = true := (checkOctetOk_iff _).symm
  unfold PassesTests; simp only []
  rw [hparity, lengthAsked_iff, hcheck]
  refine ⟨fun ⟨hp, ⟨m, hm, hl⟩, hc⟩ => ⟨m, hm, hl, ?_⟩, fun ⟨m, hm, hl, ha⟩ => ?_⟩
  · unfold acceptRecord; simp only []
    rw [if_pos hp, hm]; simp [nonempty_of_lengthOk hl, hl, hc]
  · unfold acceptRecord at ha; simp only [] at ha
    split at ha
    next hp =>
      rw [hm] at ha; simp only [] at ha
      split at ha
      next hok =>
        simp only [Bool.and_eq_true] at hok
        exact ⟨hp, ⟨m, hm, hl⟩, hok.2⟩
      · cases ha
    · cases ha

theorem acceptRecord_none_iff (ws : List WireOctet) : acceptRecord ws = none ↔ ¬ PassesTests ws := by
  rw [passesTests_iff]
  cases h : acceptRecord ws with
  | none => simp
  | some r =>
    obtain ⟨m, hm, hl, rfl⟩ := acceptRecord_some h
    simp only [reduceCtorEq, false_iff, not_not]
    exact ⟨m, hm, hl, rfl⟩

/-! ## The fields (R175) -/

theorem engineTaken_eq {n : Nat} (h : n < 16) : engineTaken n = EngineState.ofCode n := by
  have hall : ∀ k : Fin 16, engineTaken k.val = EngineState.ofCode k.val := by decide
  exact hall ⟨n, h⟩

theorem faultTaken_eq (b : Byte) : faultTaken b.toNat = FaultKind.ofCode b.toNat := by
  have hall : ∀ b : Byte, faultTaken b.toNat = FaultKind.ofCode b.toNat := by decide
  exact hall b

theorem bitsFrom_lt (b : Byte) (lo : Nat) : bitsFrom b lo 4 < 16 := Nat.mod_lt _ (by decide)

theorem octetAt_block (ws : List WireOctet) (a : Nat) {i : Nat} (hi : i < 6) :
    octetAt (((ws.map dataBits).drop a).take 6) i = takenOctet ws (a + i) := by
  rw [← octetAt_map]; unfold octetAt
  rw [List.getD_eq_getElem?_getD, List.getD_eq_getElem?_getD, List.getElem?_take_of_lt hi, List.getElem?_drop]

theorem parseSummary_eq (ws : List WireOctet) (a : Nat) : parseSummary (((ws.map dataBits).drop a).take 6) = summaryTaken ws a := by
  unfold parseSummary summaryTaken
  rw [octetAt_block ws a (by decide : 0 < 6), octetAt_block ws a (by decide : 1 < 6), octetAt_block ws a (by decide : 2 < 6),
    octetAt_block ws a (by decide : 3 < 6), octetAt_block ws a (by decide : 4 < 6), octetAt_block ws a (by decide : 5 < 6)]
  simp only [engineTaken_eq (bitsFrom_lt _ _), notchOfCode, Nat.min_comm _ 8]
  rfl

theorem parseSummaries_eq (ws : List WireOctet) (n a : Nat) :
    parseSummaries n ((ws.map dataBits).drop a) = (List.range n).map (fun k => summaryTaken ws (a + 6 * k)) := by
  induction n generalizing a with
  | zero => rfl
  | succ n ih =>
    rw [parseSummaries, parseSummary_eq, List.drop_drop, ih, List.range_succ_eq_map, List.map_cons, List.map_map]
    refine congrArg _ (List.map_congr_left fun k _ => ?_)
    show summaryTaken ws (a + 6 + 6 * k) = summaryTaken ws (a + 6 * (k + 1))
    congr 1; omega

theorem payload_eq {ws : List WireOctet} (h : ws.length = 23) :
    ((ws.map dataBits).drop 6).take 16 = (List.range 16).map (fun i => takenOctet ws (6 + i)) := by
  refine List.ext_getElem (by simp [h]) fun i hi hi' => ?_
  have hlt : 6 + i < (ws.map dataBits).length := by simp at hi' ⊢; omega
  rw [List.getElem_take, List.getElem_drop, List.getElem_map, List.getElem_map, List.getElem_range, ← octetAt_map]
  exact (List.getElem_map dataBits).symm.trans (List.getD_eq_getElem _ 0 hlt).symm

theorem tag_toNat (hi lo : Byte) : (hi ++ lo : BitVec 16).toNat = lo.toNat + 256 * hi.toNat := by
  rw [BitVec.toNat_append, Nat.shiftLeft_eq, Nat.mul_comm, ← Nat.two_pow_add_eq_or_of_lt lo.isLt, Nat.add_comm]

theorem mark_taken {b : Byte} {m : Mark} (h : Mark.ofOctet b = some m) :
    m = (if b = 0xA5 then .status else if b = 0xA6 then .notice else .check) := by
  unfold Mark.ofOctet at h
  split at h
  · cases h; rw [if_pos (by assumption)]
  · split at h
    · cases h; rw [if_neg (by assumption), if_pos (by assumption)]
    · split at h
      · cases h; rw [if_neg (by assumption), if_neg (by assumption)]
      · cases h

theorem mark_notice_iff {b : Byte} {m : Mark} (h : Mark.ofOctet b = some m) : m = .notice ↔ b = 0xA6 := by
  rw [mark_taken h]
  by_cases hs : b = 0xA5
  · simp [hs]
  · rw [if_neg hs]
    by_cases hn : b = 0xA6
    · simp [hn]
    · rw [if_neg hn]; simp only [reduceCtorEq, false_iff]; exact hn

/-- A record is read as section 11.1 lays its octets out. -/
theorem readsAs_parseRecord {ws : List WireOctet} {m : Mark} (hm : Mark.ofOctet (octetAt (ws.map dataBits) 0) = some m)
    (hl : recordLengthOk m (ws.map dataBits) = true) : ReadsAs ws (parseRecord m (ws.map dataBits)) := by
  rw [octetAt_map] at hm
  have hnotice := mark_notice_iff hm
  unfold ReadsAs; simp only []
  refine ⟨mark_taken hm, ?_, ?_, ?_, ?_, fun hcheck => ?_, fun _ => ⟨?_, ?_, ?_⟩⟩
  · rw [← octetAt_map]; exact originOf_val _
  · rw [← octetAt_map]; rfl
  · rw [← octetAt_map, ← octetAt_map]; exact tag_toNat _ _
  · rw [← octetAt_map]; rfl
  · obtain rfl : m = .check := hcheck
    have hlength : ws.length = 23 := by
      unfold recordLengthOk at hl; simp at hl; exact hl.2
    exact payload_eq hlength
  · unfold parseRecord
    simp only [octetAt_map, claimPresent_map, hnotice, engineTaken_eq (bitsFrom_lt _ _), notchOfCode, Nat.min_comm _ 8]
    rfl
  · unfold parseRecord; simp only [octetAt_map, ← faultTaken_eq]
  · unfold parseRecord; simp only [relayCount_map, claimPresent_map, hnotice, flagBit, parseSummaries_eq]
    cases claimFlag ws <;> rfl

end Sys2Proof.Machine
end

section
/-! Obligations O14 and O15, and the bits counted in a CHECK payload (R17). -/

namespace Sys2Proof.Machine

/-! ## The bits of a CHECK payload -/

/-- So many bits of two payloads differ, of their first `n` octets. -/
def wrongBitsOf (n : Nat) (as bs : List Byte) : Nat :=
  ((List.range (8 * n)).filter (fun k => (as.getD (k / 8) 0).getLsbD (k % 8) != (bs.getD (k / 8) 0).getLsbD (k % 8))).length

theorem differingBits_eq (n : Nat) {as bs : List Byte} (ha : as.length = n) (hb : bs.length = n) :
    differingBits as bs = wrongBitsOf n as bs := by
  induction n generalizing as bs with
  | zero =>
    obtain rfl := List.length_eq_zero_iff.mp ha
    rfl
  | succ n ih =>
    obtain ⟨a, as, rfl⟩ := List.exists_cons_of_length_eq_add_one ha
    obtain ⟨b, bs, rfl⟩ := List.exists_cons_of_length_eq_add_one hb
    have hfirst : onesBelow (a ^^^ b) 8 = ((List.range 8).filter (fun k =>
        ((a :: as).getD (k / 8) 0).getLsbD (k % 8) != ((b :: bs).getD (k / 8) 0).getLsbD (k % 8))).length := by
      rw [onesBelow_eq]
      refine congrArg List.length (List.filter_congr fun k hk => ?_)
      have hk : k < 8 := List.mem_range.mp hk
      rw [Nat.div_eq_of_lt hk, Nat.mod_eq_of_lt hk, BitVec.getLsbD_xor]
      exact (Bool.bne_eq_xor ▸ rfl)
    have hrest : wrongBitsOf n as bs = (((List.range (8 * n)).map (8 + ·)).filter (fun k =>
        ((a :: as).getD (k / 8) 0).getLsbD (k % 8) != ((b :: bs).getD (k / 8) 0).getLsbD (k % 8))).length := by
      rw [List.filter_map, List.length_map]
      refine congrArg List.length (List.filter_congr fun k _ => ?_)
      have hdiv : (8 + k) / 8 = k / 8 + 1 := by omega
      have hmod : (8 + k) % 8 = k % 8 := by omega
      show _ = (((a :: as).getD ((8 + k) / 8) 0).getLsbD ((8 + k) % 8) != ((b :: bs).getD ((8 + k) / 8) 0).getLsbD ((8 + k) % 8))
      rw [hdiv, hmod]; rfl
    rw [differingBits, ih (by simpa using ha) (by simpa using hb), hfirst, hrest]
    unfold wrongBitsOf
    rw [show 8 * (n + 1) = 8 + 8 * n by omega, List.range_add, List.filter_append, List.length_append]

theorem length_expectedPayload (origin : Fin 8) (cycle : Byte) : (expectedPayload origin cycle).length = 16 := by
  unfold expectedPayload; simp

/-- The bits that the model counts in an accepted CHECK record are the wrong ones of its 128. -/
theorem checkBits_eq {r : Record} (h : r.payload.length = 16) :
    differingBits (checkPayload r.origin r.cycle) r.payload = wrongBits (expectedPayload r.origin r.cycle) r.payload := by
  rw [checkPayload_eq, differingBits_eq 16 (length_expectedPayload _ _) h]; rfl

/-! ## The counts of the line check through what follows -/

/-- The remaining check count and the check index. -/
def checkCounts (s : State) : Nat × Nat := (s.clc.remainingCheck, s.clc.checkIndex)

theorem checkCounts_react (old s : State) : checkCounts (react old s) = checkCounts s := by unfold checkCounts; rw [react_clc]

theorem checkCounts_advanceWindow (s : State) : checkCounts (advanceWindow s) = checkCounts s := by
  have hpass (u : State) : checkCounts (passZero u) = checkCounts u := by
    unfold passZero; split
    · rfl
    · unfold checkCounts; rw [cycleBoundary_clc_eq]
  have hbegin (u : State) : checkCounts (beginOwnWindow u) = checkCounts u := by unfold checkCounts; rw [beginOwnWindow_clc]
  have hset (i : Fin 8) (us : Nat) (u : State) : checkCounts (setWindow i us u) = checkCounts u := rfl
  unfold advanceWindow; simp only []
  split <;> split
  · rw [hbegin, hpass, hset]
  · rw [hpass, hset]
  · rw [hbegin, hset]
  · rw [hset]

theorem checkCounts_handOn (r : Record) (s : State) : checkCounts (handOn r s) = checkCounts s := by
  unfold checkCounts; rw [(handed_handOn r s).clc, tagCounted_clc]

theorem checkCounts_aligned {n : Nat} {r : Record} {s t : State} (h : Aligned n r s t) : checkCounts t = checkCounts s :=
  Prod.ext h.checks.1 h.checks.2

theorem duplicatePosition_clc (s : State) : (duplicatePosition s).clc = { s.clc with
    counters := { s.clc.counters with dupPositionSeen := min 65535 (s.clc.counters.dupPositionSeen + 1) }
    tx := if s.clc.tx = .deferring then .idle else s.clc.tx, linkState := .silenced } := by
  unfold duplicatePosition; simp only []
  have hraised (u : State) : (raiseFault .duplicatePosition u).clc = u.clc := raiseFault_clc _ u
  split
  next h =>
    rw [hraised] at h
    have h : s.clc.tx = .deferring := h
    rw [setLink_clc, setTx_clc, hraised, if_pos h]; rfl
  next h =>
    rw [hraised] at h
    have h : ¬ s.clc.tx = .deferring := h
    rw [setLink_clc, hraised, if_neg h]; rfl

theorem checkCounts_recordTaken {ws : List WireOctet} {s t : State} (hr : s.inReset = false)
    (hexec : exec (.recordTaken ws) s = .next t) : checkCounts t = checkCounts (finishSending s) := by
  have hquiet : checkCounts (pairQuiet s) = checkCounts (finishSending s) := rfl
  have hcounted : checkCounts (counted s) = checkCounts (pairQuiet s) := rfl
  rw [← hquiet]
  by_cases hf : framed ws.length s
  · cases ha : acceptRecord ws with
    | none =>
      rw [exec_recordTaken_rejected hr hf ha] at hexec
      obtain rfl := Host.Outcome.next.inj hexec
      unfold rejectRecord; simp only []; split
      · split <;> rfl
      · rfl
    | some r =>
      rw [exec_recordTaken_accepted hr hf ha] at hexec
      obtain rfl := Host.Outcome.next.inj hexec
      have haligned := checkCounts_aligned (aligned_alignTo (r := r) (acceptRecord_bound ha) (counted s))
      by_cases hown : s.ownPosition = some r.origin
      · obtain ⟨c, hc, hp⟩ := Option.map_eq_some_iff.mp hown
        rw [actOnRecord_own hc hp.symm]; split
        · rfl
        · rw [checkCounts_react]; unfold checkCounts; rw [duplicatePosition_clc]; rfl
      · rw [actOnRecord_other hown]; split
        · exact haligned
        · split
          · rw [checkCounts_handOn, haligned]; rfl
          · exact haligned
  · rw [exec_recordTaken_unframed hr hf] at hexec
    obtain rfl := Host.Outcome.next.inj hexec
    rfl

/-! ## The obligations -/

theorem exec_lineCheckEnd {s : State} : exec .lineCheckEnd s =
    .next (if s.sendsCheck && decide (s.clc.linkState = .checking) && decide (s.clc.remainingCheck = 1) then finishSending s else s) := rfl

theorem listeningEnds_of {s : State} (ht : s.clc.windowTimer.isSome = true) (hl : s.clc.linkState = .listening)
    (hi : s.clc.windowIndex = 7) (hm : s.clc.repeatMark = false) (hc : s.clc.listeningCount = 24) : s.listeningEnds = true :=
  listeningEnds_iff.mpr ⟨ht, hl, hi, hm, by omega⟩

theorem not_listeningEnds_of {s : State} (h : s.clc.windowTimer = none ∨ s.clc.linkState ≠ .listening ∨ s.clc.windowIndex ≠ 7
    ∨ s.clc.repeatMark = true ∨ s.clc.listeningCount < 24) : s.listeningEnds = false := by
  rw [← Bool.not_eq_true, listeningEnds_iff]
  rintro ⟨ht, hl, hi, hm, hc⟩
  rcases h with h | h | h | h | h
  · rw [h] at ht; cases ht
  · exact h hl
  · exact h hi
  · rw [h] at hm; cases hm
  · omega

/-- Settles O14: LISTENING's 25th boundary, and the CHECK record that ends the line check. -/
theorem listeningAndCheckingEndByTheLiveSet : Obligations.ListeningAndCheckingEndByTheLiveSet := by
  refine ⟨fun b s ht hl hi hm hcheck => ⟨fun hc => ⟨_, exec_windowTimerExpiry ht, listeningEnds_expireWindow b hl hi hm hcheck hc⟩,
    fun hc => ⟨expireWindow (Config.listeningBusy s.freeCount) (useFree s), ?_, ?_⟩,
    fun hc => ⟨_, exec_windowTimerExpiry ht, listening_goesOn_expireWindow b hl hi hm hcheck hc⟩⟩,
    fun s h => ?_, fun cmd i bs us s hcmd hl htx hr => ⟨checkSent i s, ?_, checkSent_last i hl hr⟩, fun s h => ?_,
    fun cmd i bs us s hcmd htx hr => ?_⟩
  · rw [exec_listeningEnd, listeningEnds_of ht hl hi hm hc]; rfl
  · exact listeningEnds_expireWindow (s := useFree s) _ hl hi hm hcheck hc
  · rw [exec_listeningEnd, not_listeningEnds_of h]; rfl
  · have hsends := sendsCheck_of_tx htx
    rcases hcmd with rfl | rfl
    · rw [exec_lineCheckEnd, hsends, hl, hr, finishSending_of_check htx]; rfl
    · have hexec : exec .checkRecordSent s = execCheckRecordSent s := rfl
      rw [hexec]; unfold execCheckRecordSent; rw [hsends, finishSending_of_check htx]; rfl
  · rw [exec_lineCheckEnd]
    have hnot : (s.sendsCheck && decide (s.clc.linkState = .checking) && decide (s.clc.remainingCheck = 1)) = false := by
      rcases h with h | h | h
      · rw [noCheckOnPair_iff.mp h]; rfl
      · simp [h]
      · simp [h]
    rw [hnot]; rfl
  · have hcounts : checkCounts (finishSending s) = (s.clc.remainingCheck - 1, s.clc.checkIndex + 1) := by
      rw [finishSending_of_check htx]
      exact Prod.ext (checkSent_counts i s).1 (checkSent_counts i s).2
    rcases hcmd with ⟨b, rfl, ht⟩ | ⟨ws, rfl, hreset⟩
    · have hclose : closeWindow s = finishSending s := if_neg (by rw [htx]; exact fun h => nomatch h)
      have hexpired : checkCounts (expireWindow b s) = (s.clc.remainingCheck - 1, s.clc.checkIndex + 1) := by
        unfold expireWindow; rw [checkCounts_advanceWindow, hclose]; exact hcounts
      exact ⟨_, exec_windowTimerExpiry ht, congrArg Prod.fst hexpired, congrArg Prod.snd hexpired⟩
    · obtain ⟨t, hexec⟩ : ∃ t, exec (.recordTaken ws) s = .next t := ⟨_, rfl⟩
      have htaken := (checkCounts_recordTaken hreset hexec).trans hcounts
      exact ⟨t, hexec, congrArg Prod.fst htaken, congrArg Prod.snd htaken⟩

/-- The pair's quiet leaves table and counts, and the window. -/
theorem rejectRecord_eq {ws : List WireOctet} {s : State} : ∃ v, rejectRecord ws s = { s with
      table := v, clc := { s.clc with counters := { s.clc.counters with checkError := min 65535 (s.clc.counters.checkError + 1) } } }
    ∧ ∀ p, v.get p = if s.ownPosition.isSome = true ∧ legibleOrigin ws = some p ∧ s.ownPosition ≠ some p then
        { s.entry p with checkErrors := min 255 ((s.entry p).checkErrors + 1) } else s.entry p := by
  unfold rejectRecord; simp only []
  cases hc : s.mpt.committed with
  | none =>
    have hown : s.ownPosition = none := by unfold State.ownPosition; rw [hc]; rfl
    refine ⟨s.table, ?_, fun p => by simp [hown, State.entry]⟩
    have hnone : (mapCounters (fun c => { c with checkError := sat16 c.checkError }) s).mpt.committed = none := hc
    rw [hnone]; rfl
  | some c =>
    have hown : s.ownPosition = some c.position := ownPosition_of_committed hc
    have hsome : (mapCounters (fun c => { c with checkError := sat16 c.checkError }) s).mpt.committed = some c := hc
    rw [hsome]
    cases hlegible : legibleOrigin ws with
    | none => exact ⟨s.table, rfl, fun p => by simp [State.entry]⟩
    | some q =>
      by_cases hq : q = c.position
      · refine ⟨s.table, if_pos hq, fun p => ?_⟩
        rw [if_neg]; · rfl
        rintro ⟨-, hp, hne⟩
        exact hne (by rw [hown, ← hq, Option.some.inj hp])
      · refine ⟨_, if_neg hq, fun p => ?_⟩
        by_cases hp : p = q
        · subst hp
          rw [PerPosition.get_set, if_pos ⟨by rw [hown]; rfl, rfl, by rw [hown]; exact fun h => hq (Option.some.inj h).symm⟩]; rfl
        · rw [PerPosition.get_set_ne _ _ hp, if_neg fun h => hp (Option.some.inj h.2.1).symm]; rfl

/-- Settles O15: a record that fails a test is counted, and octets that are no record are not. -/
theorem failedRecordIsOnlyCounted : Obligations.FailedRecordIsOnlyCounted := by
  refine ⟨acceptRecord_none_iff, legibleOrigin_iff, fun ws s hr hf ha => ⟨_, exec_recordTaken_rejected hr hf ha, ?_⟩,
    fun ws s hr hf => ⟨_, exec_recordTaken_unframed hr hf, ?_⟩⟩
  · obtain ⟨v, heq, hv⟩ := rejectRecord_eq (ws := ws) (s := pairQuiet s)
    obtain ⟨htable, -, -, hmpt, -, -, -, -, hcounters, hindex, htimer, -, -⟩ := finishSending_keeps s
    have hentry (p : Fin 8) : (pairQuiet s).entry p = s.entry p := congrArg (fun t => PerPosition.get t p) htable
    have hown : (pairQuiet s).ownPosition = s.ownPosition := congrArg (fun m : Mpt => m.committed.map Committed.position) hmpt
    have hcounts : (pairQuiet s).clc.counters = s.clc.counters := hcounters
    rw [heq]
    refine ⟨by rw [hcounts], hindex, htimer, rfl, rfl, fun hcheck => ?_, fun p => ?_⟩
    · obtain ⟨x, hquiet⟩ := pairQuiet_of_noCheck hcheck
      rw [hquiet]; exact ⟨rfl, rfl⟩
    · have hvp := hv p
      rw [hown, hentry] at hvp
      exact hvp
  · obtain ⟨htable, -, -, -, -, -, -, -, hcounters, hindex, htimer, hcycle, -⟩ := finishSending_keeps s
    refine ⟨hcounters, htable, hindex, htimer, hcycle, rfl, rfl, fun hcheck => ?_⟩
    obtain ⟨x, hquiet⟩ := pairQuiet_of_noCheck hcheck
    rw [hquiet]

end Sys2Proof.Machine
end

section
/-! Obligations O16 and O17: accepted records, and records from the own position. -/

namespace Sys2Proof.Machine

/-! ## Accepted records -/

/-- The counted state as the state before the record. -/
structure Counted (s u : State) : Prop where
  kept : LinkKept s u
  counters : u.clc.counters = { s.clc.counters with recordsGood := min 65535 (s.clc.counters.recordsGood + 1) }
  busy : u.clc.busyUs = 0
  reception : u.clc.reception = .ready
  followed : Followed s → Followed u

theorem counted_counted (s : State) : Counted s (counted s) where
  kept := linkKept_counted s
  counters := by rw [counted_clc]
  busy := rfl
  reception := rfl
  followed h := (quieted_pairQuiet s).finished.followed h

/-- The aligned state of a record, told of the state before it. -/
structure Received (n : Nat) (r : Record) (s v : State) : Prop where
  realigned : Realigned n r s v
  counters : v.clc.counters = { s.clc.counters with
    recordsGood := min 65535 (s.clc.counters.recordsGood + 1), windowMissed := v.clc.counters.windowMissed }
  entries : ∀ p, s.ownPosition ≠ some p → v.entry p = if takesBoundary r s then agedEntry (s.entry p) else s.entry p
  quiet : v.pairBusy = false
  reception : v.clc.reception = .ready
  lmn : v.lmn = s.lmn
  mpt : v.mpt = s.mpt
  pins : v.pins = s.pins
  followed : Followed s → Followed v
  follows : takesBoundary r s = true → FollowsLiveSet s v

theorem received_alignTo {r : Record} {n : Nat} (hn : 72 * n + 80 < 5000) (s : State) :
    Received n r s (alignTo r (72 * n + 80) (counted s)) := by
  obtain ⟨hkept, hcounters, hbusy, hreception, hfollowed⟩ := counted_counted s
  have h := aligned_alignTo (r := r) hn (counted s)
  have hboundary := takesBoundary_counted r s
  refine ⟨realigned_of_counted h.realigned, ?_, fun p hp => ?_, ?_, h.reception.trans hreception, h.lmn.trans hkept.lmn,
    h.mpt.trans hkept.mpt, h.pins.trans hkept.pins, fun hs => h.followed (hfollowed hs), fun ht hs => ?_⟩
  · rw [h.counters, hcounters]
  · rw [h.entries p (by rw [hkept.ownPosition]; exact hp), hboundary, hkept.entries p hp]
  · unfold State.pairBusy; rw [h.busy, hbusy]; rfl
  · exact h.follows (by rw [hboundary]; exact ht) (hfollowed hs)

theorem Received.ownPosition {n : Nat} {r : Record} {s v : State} (h : Received n r s v) : v.ownPosition = s.ownPosition := by
  unfold State.ownPosition; rw [h.mpt]

/-- Realignment is read off CLC's window, cycle, mark and missed count. -/
theorem realigned_of_clc {n : Nat} {r : Record} {s v t : State} (h : Realigned n r s v) (hi : t.clc.windowIndex = v.clc.windowIndex)
    (ht : t.clc.windowTimer = v.clc.windowTimer) (hc : t.clc.cycleCount = v.clc.cycleCount)
    (hr : t.clc.repeatMark = v.clc.repeatMark) (hm : t.clc.counters.windowMissed = v.clc.counters.windowMissed) : Realigned n r s t := by
  unfold Realigned at h ⊢; rw [hi, ht, hc, hr, hm]; exact h

theorem compareCheck_eq (r : Record) (s : State) : compareCheck r s = { s with clc := { s.clc with counters := { s.clc.counters with
    lineBitErrors := min 65535 (s.clc.counters.lineBitErrors + differingBits (checkPayload r.origin r.cycle) r.payload)
    checkRecordsSeen := min 65535 (s.clc.counters.checkRecordsSeen + 1) } } } := rfl

/-- The origin's entry as it stands when the record is handed on: aged or not, the direct refresh does not see which. -/
theorem Received.origin {n : Nat} {r : Record} {s v : State} (h : Received n r s v) (hown : s.ownPosition ≠ some r.origin) :
    afterRecord r (v.entry r.origin) = afterRecord r (s.entry r.origin) ∧ replaces (v.entry r.origin) r = replaces (s.entry r.origin) r := by
  rw [h.entries _ hown]; split
  · exact ⟨afterRecord_aged r _, replaces_aged _ r⟩
  · exact ⟨rfl, rfl⟩

/-- Settles O16: the record is counted and realigns, and is then compared or handed on. -/
theorem acceptedRecordRefreshesItsEntry : Obligations.AcceptedRecordRefreshesItsEntry := by
  refine ⟨fun ws h => ?_, fun ws r c s hreset hf ha hm hc hother => ⟨_, exec_recordTaken_accepted hreset hf ha, ?_⟩,
    fun ws r s hreset hf ha hm hown => ⟨_, exec_recordTaken_accepted hreset hf ha, ?_⟩,
    fun ws r s hreset hf ha hm hc => ⟨_, exec_recordTaken_accepted hreset hf ha, ?_⟩⟩
  · obtain ⟨m, hmark, hlength, haccept⟩ := (passesTests_iff ws).mp h
    exact ⟨_, haccept, readsAs_parseRecord hmark hlength⟩
  · have hposition : s.ownPosition = some c.position := ownPosition_of_committed hc
    have hown : s.ownPosition ≠ some r.origin := by rw [hposition]; exact fun h => hother (Option.some.inj h)
    have hv := received_alignTo (r := r) (acceptRecord_bound ha) s
    rw [actOnRecord_other hown, if_neg hm, if_pos (by rw [hc]; rfl)]
    generalize alignTo r (72 * ws.length + 80) (counted s) = v at hv ⊢
    obtain ⟨horigin, hreplaces⟩ := hv.origin hown
    have hhanded := handed_handOn r v
    have hclc := hhanded.clc
    rw [tagCounted_clc, hreplaces] at hclc
    refine ⟨realigned_of_clc hv.realigned ?_ ?_ ?_ ?_ ?_, ?_, fun p hp hpo => ?_, handOn_hold r v, ?_, ?_, fun h => ?_, ?_, ?_, ?_, ?_⟩
    · rw [hclc]
    · rw [hclc]
    · rw [hclc]
    · rw [hclc]
    · rw [hclc]
    · rw [handOn_origin, horigin]
    · have hpown : s.ownPosition ≠ some p := by rw [hposition]; exact fun h => hp (Option.some.inj h).symm
      rw [handOn_entry (by rw [hv.ownPosition]; exact hpown) hpo, hv.entries p hpown]
    · unfold State.pairBusy; rw [hclc]; exact hv.quiet
    · rw [hclc]; exact hv.reception
    · exact handOn_follows r v (by rw [tagCounted_clc]; exact hv.followed h)
    · rw [hclc, hv.counters]
    · rw [hhanded.lmn, tagCounted_clc]; exact hv.lmn
    · rw [hhanded.mpt, tagCounted_clc]; exact hv.mpt
    · rw [hhanded.pins, tagCounted_clc]; exact hv.pins
  · have hv := received_alignTo (r := r) (acceptRecord_bound ha) s
    rw [actOnRecord_other hown, if_pos hm, compareCheck_eq, checkBits_eq (acceptRecord_payload ha hm)]
    generalize alignTo r (72 * ws.length + 80) (counted s) = v at hv ⊢
    refine ⟨realigned_of_clc hv.realigned rfl rfl rfl rfl rfl, hv.quiet, hv.reception, hv.entries, hv.follows, ?_, hv.lmn, hv.mpt, hv.pins⟩
    rw [hv.counters]
  · have hown (p : Fin 8) : s.ownPosition ≠ some p := by unfold State.ownPosition; rw [hc]; exact fun h => nomatch h
    have hv := received_alignTo (r := r) (acceptRecord_bound ha) s
    rw [actOnRecord_other (hown _), if_neg hm, hc]
    generalize alignTo r (72 * ws.length + 80) (counted s) = v at hv ⊢
    exact ⟨hv.realigned, fun p => hv.entries p (hown p), by show v.clc.counters.recordsGood = _; rw [hv.counters]⟩

/-! ## A record from the own position -/

theorem clearFault_active_ne {j k : FaultKind} (h : k ≠ j) (s : State) : (clearFault j s).faultActive k = s.faultActive k := by
  unfold clearFault; split
  · simp [State.faultActive, dropKind, h]
  · rfl

/-- The deciding blocks clear no fault of another kind. -/
theorem Move.keeps_active {k : FaultKind} (hk : k.ofUpkeep = false) {s t : State} (h : Move s t) (hs : s.faultActive k = true) :
    t.faultActive k = true := by
  have hraise (j : FaultKind) (u : State) (hu : u.faultActive k = true) : (raiseFault j u).faultActive k = true := by
    by_cases hj : j = k
    · rw [hj]; exact raiseFault_active k u
    · rw [faultActive_raiseFault_ne (Ne.symm hj)]; exact hu
  cases h with
  | raise j s hj => exact hraise j s hs
  | crankFail c s => exact hraise .crankFail s hs
  | clear j s hj =>
    rw [clearFault_active_ne fun h => by rw [← h, hk] at hj; cases hj]; exact hs
  | withdraw c s => rw [faultActive_of_fcl (withdraw_fcl c s)]; exact hs
  | post c r s he => rw [faultActive_of_fcl (post_fcl c r s)]; exact hs
  | ssq | nsp | link | yields | enter => exact hs

theorem moves_keep_active {k : FaultKind} (hk : k.ofUpkeep = false) {s t : State} (h : Moves s t) (hs : s.faultActive k = true) :
    t.faultActive k = true :=
  h.keeps (P := fun u => u.faultActive k = true) (fun _ _ hmove hu => hmove.keeps_active hk hu) hs


/-- What a record from the own position leaves of the window, the cycle, the table and the pair. -/
theorem notRealigned_of_kept {s t : State} (hi : t.clc.windowIndex = s.clc.windowIndex) (ht : t.clc.windowTimer = s.clc.windowTimer)
    (hc : t.clc.cycleCount = s.clc.cycleCount) (hr : t.clc.repeatMark = s.clc.repeatMark) (htable : t.table = s.table)
    (hbusy : t.clc.busyUs = 0) (hreception : t.clc.reception = .ready) : NotRealigned s t :=
  ⟨hi, ht, hc, hr, htable, by unfold State.pairBusy; rw [hbusy]; rfl, hreception⟩

theorem counted_table (s : State) : (counted s).table = s.table := (finishSending_keeps s).1

theorem duplicatePosition_outer (s : State) : (duplicatePosition s).table = s.table := by
  unfold duplicatePosition; simp only []
  have hraised (u : State) : (raiseFault .duplicatePosition u).table = u.table := table_of_outer (outer_raiseFault _ u)
  split
  · exact hraised _
  · exact hraised _

theorem duplicatePosition_active (s : State) : (duplicatePosition s).faultActive .duplicatePosition = true := by
  have hraised := raiseFault_active .duplicatePosition (mapCounters (fun c => { c with dupPositionSeen := sat16 c.dupPositionSeen }) s)
  unfold duplicatePosition; simp only []
  split <;> exact hraised

theorem counted_tx (s : State) : (counted s).clc.tx = .idle ∨ (counted s).clc.tx = .deferring := (quieted_pairQuiet s).finished.sent

/-- CLC after a record from the own position with another tag (R12). -/
theorem react_duplicate_clc (s : State) : (react (counted s) (duplicatePosition (counted s))).clc = { (counted s).clc with
    counters := { (counted s).clc.counters with dupPositionSeen := min 65535 ((counted s).clc.counters.dupPositionSeen + 1) }
    tx := .idle, linkState := .silenced } := by
  have hclc := duplicatePosition_clc (counted s)
  have htx : (if (counted s).clc.tx = .deferring then .idle else (counted s).clc.tx) = Tx.idle := by
    rcases counted_tx s with h | h <;> rw [h] <;> rfl
  rw [htx] at hclc
  rw [react_clc_of_fixed _ (by rw [hclc]; exact fun h => nomatch h) (by rw [hclc]; exact fun h => nomatch h), hclc]

/-- Once SILENCED, a station with a committed configuration stays SILENCED (R12). -/
def StaysSilenced (s : State) : Prop := CommitFitsLink s ∧ s.clc.linkState = .silenced

theorem Move.keeps_silenced {s t : State} (h : Move s t) (hs : StaysSilenced s) : StaysSilenced t := by
  have hfixed : LinkSettled s := by unfold LinkSettled State.linkAfter; rw [hs.2]; rfl
  exact ⟨h.keeps_commitFitsLink hs.1, by rw [h.clc_of_settled hfixed]; exact hs.2⟩

theorem LinkAct.keeps_silenced {s t : State} (h : LinkAct s t) (hs : StaysSilenced s) : StaysSilenced t := by
  refine ⟨h.keeps_commitFitsLink hs.1, ?_⟩
  cases h with
  | move hmove => exact (hmove.keeps_silenced hs).2
  | clc c s hlink => exact hlink.trans hs.2
  | leave l s hold hnew => rcases hold with h | h <;> rw [hs.2] at h <;> cases h
  | silence s hcommitted => rfl
  | duplicate s => rw [raiseFault_clc]; exact hs.2
  | table | holds | claim | free | published => exact hs.2

/-- The commit and the release come before LISTENING, so they find no SILENCED station. -/
theorem Act.keeps_silenced {allowed : Special → Prop} {s t : State} (h : Act allowed s t) (hs : StaysSilenced s) : StaysSilenced t := by
  refine ⟨h.keeps_commitFitsLink hs.1, ?_⟩
  obtain ⟨hfits, hlink⟩ := hs
  cases h with
  | move hmove => exact (hmove.keeps_silenced ⟨hfits, hlink⟩).2
  | link hact => exact (hact.keeps_silenced ⟨hfits, hlink⟩).2
  | commit c cause s hopen =>
    have hconfig := (hfits.uncommitted fun cause' h => nomatch hopen.symm.trans h).1
    rw [hlink] at hconfig; cases hconfig
  | release x s hreset =>
    have hconfig := (hfits.uncommitted fun cause' h => nomatch (hfits.1 hreset).symm.trans h).1
    rw [hlink] at hconfig; cases hconfig
  | raise k s hk => rw [raiseFault_clc]; exact hlink
  | clear k s => rw [clearFault_clc]; exact hlink
  | idle s => rw [enterIdle_clc]; exact hlink
  | lmn | mpt | pins | restored | faultsReset | crankFailEnds | erc | nsp | estop | freed => exact hlink

/-- Settles O17: a duplicate of the own position silences the station for good, an echo of its own record does not. -/
theorem duplicatePositionSilencesTheStation : Obligations.DuplicatePositionSilencesTheStation := by
  refine ⟨fun ws r c s hreset hf ha hc hp ht => ⟨_, exec_recordTaken_accepted hreset hf ha, ?_⟩,
    fun ws r c s hreset hf ha hc hp ht => ⟨_, exec_recordTaken_accepted hreset hf ha, ?_⟩, fun cmd s t hcmd hfits hlink hexec => ?_⟩
  · rw [actOnRecord_own hc hp, if_neg ht]
    obtain ⟨hkept, hcounters, hbusy, hreception, -⟩ := counted_counted s
    have hclc := react_duplicate_clc s
    have htable : (react (counted s) (duplicatePosition (counted s))).table = s.table := by
      rw [react_table, duplicatePosition_outer, counted_table]
    have hactive : (react (counted s) (duplicatePosition (counted s))).faultActive .duplicatePosition = true :=
      moves_keep_active rfl (moves_react (.refl _)) (duplicatePosition_active _)
    have hremaining (hcheck : noCheckOnPair s) : (counted s).clc.remainingCheck = s.clc.remainingCheck := by
      obtain ⟨x, hquiet⟩ := pairQuiet_of_noCheck hcheck
      rw [counted_clc, hquiet]
    generalize react (counted s) (duplicatePosition (counted s)) = t at hclc htable hactive ⊢
    refine ⟨by rw [hclc], notRealigned_of_kept ?_ ?_ ?_ ?_ htable ?_ ?_, by rw [hclc], ?_, hactive, fun hcheck => ?_⟩
    · rw [hclc]; exact hkept.windowIndex
    · rw [hclc]; exact hkept.windowTimer
    · rw [hclc]; exact hkept.cycleCount
    · rw [hclc]; exact hkept.repeatMark
    · rw [hclc]; exact hbusy
    · rw [hclc]; exact hreception
    · rw [hclc, hcounters]
    · rw [hclc]; exact hremaining hcheck
  · rw [actOnRecord_own hc hp, if_pos ht]
    obtain ⟨hkept, hcounters, hbusy, hreception, -⟩ := counted_counted s
    refine ⟨notRealigned_of_kept hkept.windowIndex hkept.windowTimer hkept.cycleCount hkept.repeatMark (counted_table s) hbusy hreception,
      hcounters, fun hcheck => ?_⟩
    obtain ⟨x, hquiet⟩ := pairQuiet_of_noCheck hcheck
    unfold counted; rw [hquiet]; exact ⟨rfl, rfl⟩
  · have hacts := acts_exec (allowed := fun _ => True) hcmd (fun _ _ => trivial) (fun _ => trivial) hexec
    exact (hacts.keeps (fun _ _ hact => hact.keeps_silenced) ⟨hfits, hlink⟩).2

end Sys2Proof.Machine
end

section
/-! Obligations O20 and O35: the claim list in its order, and the target notch under the cap. -/

namespace Sys2Proof.Machine

/-! ## The claim list (R47, R58) -/

/-- The claim order: the larger age is earlier, and of equal ages the lower position. -/
def ClaimBefore (a b : ClaimMember) : Prop := b.age < a.age ∨ (a.age = b.age ∧ a.position < b.position)

theorem earlier_iff {a b : ClaimMember} : a.earlier b = true ↔ ClaimBefore a b := by simp [ClaimMember.earlier, ClaimBefore]

theorem ClaimBefore.trans {a b c : ClaimMember} (hab : ClaimBefore a b) (hbc : ClaimBefore b c) : ClaimBefore a c := by
  unfold ClaimBefore at *; omega

/-- Members of different positions stand in the order one way or the other. -/
theorem claimBefore_of_not {a b : ClaimMember} (hne : a.position ≠ b.position) (h : ¬ ClaimBefore a b) : ClaimBefore b a := by
  unfold ClaimBefore at *; omega

theorem mem_insertClaim {x m : ClaimMember} {l : List ClaimMember} : x ∈ insertClaim m l ↔ x = m ∨ x ∈ l := by
  induction l with
  | nil => simp [insertClaim]
  | cons y l ih =>
    unfold insertClaim; split
    · simp
    · simp [ih, or_left_comm]

/-- A member of a new position put in its place keeps the order. -/
theorem pairwise_insertClaim {m : ClaimMember} {l : List ClaimMember} (hl : l.Pairwise ClaimBefore)
    (hm : ∀ x ∈ l, m.position ≠ x.position) : (insertClaim m l).Pairwise ClaimBefore := by
  induction l with
  | nil => exact List.pairwise_singleton _ _
  | cons y l ih =>
    obtain ⟨hy, htail⟩ := List.pairwise_cons.mp hl
    unfold insertClaim; split
    next hfirst =>
      have hmy : ClaimBefore m y := earlier_iff.mp hfirst
      refine List.pairwise_cons.mpr ⟨fun x hx => ?_, hl⟩
      rcases List.mem_cons.mp hx with rfl | hx
      · exact hmy
      · exact hmy.trans (hy x hx)
    next hlater =>
      have hym : ClaimBefore y m := claimBefore_of_not (hm y List.mem_cons_self) fun h => hlater (earlier_iff.mpr h)
      refine List.pairwise_cons.mpr ⟨fun x hx => ?_, ih htail fun x hx => hm x (List.mem_cons_of_mem _ hx)⟩
      rcases mem_insertClaim.mp hx with rfl | hx
      · exact hym
      · exact hy x hx

theorem mem_foldl_insertClaim {x : ClaimMember} (ms l : List ClaimMember) :
    x ∈ ms.foldl (fun l m => insertClaim m l) l ↔ x ∈ ms ∨ x ∈ l := by
  induction ms generalizing l with
  | nil => simp
  | cons m ms ih => rw [List.foldl_cons, ih, mem_insertClaim, List.mem_cons, or_left_comm, or_assoc]

theorem pairwise_foldl_insertClaim {ms l : List ClaimMember} (hms : ms.Pairwise (fun a b => a.position ≠ b.position))
    (hl : l.Pairwise ClaimBefore) (hnew : ∀ m ∈ ms, ∀ x ∈ l, m.position ≠ x.position) :
    (ms.foldl (fun l m => insertClaim m l) l).Pairwise ClaimBefore := by
  induction ms generalizing l with
  | nil => exact hl
  | cons m ms ih =>
    obtain ⟨hm, htail⟩ := List.pairwise_cons.mp hms
    refine ih htail (pairwise_insertClaim hl (hnew m List.mem_cons_self)) fun m' hm' x hx => ?_
    rcases mem_insertClaim.mp hx with rfl | hx
    · exact (hm m' hm').symm
    · exact hnew m' (List.mem_cons_of_mem _ hm') x hx

theorem mem_peerClaims {s : State} {m : ClaimMember} : m ∈ s.peerClaims ↔ s.ownPosition ≠ some m.position
    ∧ (s.entry m.position).claim = some m.age ∧ ((s.entry m.position).state = .live ∨ (s.entry m.position).state = .stale) := by
  unfold State.peerClaims
  simp only [List.mem_filterMap, mem_others]
  refine ⟨fun ⟨p, hp, h⟩ => ?_, fun ⟨hp, hclaim, hstate⟩ => ⟨m.position, hp, ?_⟩⟩
  · split at h
    next hstate =>
      obtain ⟨a, ha, rfl⟩ := Option.map_eq_some_iff.mp h
      exact ⟨hp, ha, Entry.liveOrStale_iff.mp hstate⟩
    · cases h
  · rw [if_pos (Entry.liveOrStale_iff.mpr hstate), hclaim]; rfl

theorem mem_ownClaim {s : State} {m : ClaimMember} :
    m ∈ s.ownClaim.toList ↔ s.ownPosition = some m.position ∧ s.cpa.claim = some m.age := by
  unfold State.ownClaim
  cases s.ownPosition with
  | none => simp
  | some p =>
    cases s.cpa.claim with
    | none => simp
    | some a =>
      obtain ⟨age, position⟩ := m
      simp [and_comm, eq_comm]

theorem peerClaims_positions (s : State) : s.peerClaims.Pairwise (fun a b => a.position ≠ b.position) := by
  refine List.Pairwise.filterMap _ (fun p q hpq a ha b hb => ?_) (others_nodup s)
  have hposition {x : ClaimMember} {r : Fin 8}
      (h : (if (s.entry r).liveOrStale then (s.entry r).claim.map (fun a => (⟨a, r⟩ : ClaimMember)) else none) = some x) :
      x.position = r := by
    split at h
    · obtain ⟨a, -, rfl⟩ := Option.map_eq_some_iff.mp h; rfl
    · cases h
  rw [hposition ha, hposition hb]; exact hpq

/-- Settles O20: the list is built by insertion of members of distinct positions. -/
theorem claimListIsOrdered : Obligations.ClaimListIsOrdered := by
  intro s
  have hpositions : (s.ownClaim.toList ++ s.peerClaims).Pairwise (fun a b => a.position ≠ b.position) := by
    refine List.pairwise_append.mpr ⟨?_, peerClaims_positions s, fun a ha b hb h => ?_⟩
    · cases s.ownClaim with
      | none => exact List.Pairwise.nil
      | some m => exact List.pairwise_singleton _ _
    · exact (mem_peerClaims.mp hb).1 (h ▸ (mem_ownClaim.mp ha).1)
  refine ⟨pairwise_foldl_insertClaim hpositions List.Pairwise.nil (fun _ _ x hx => nomatch hx), fun m => ?_⟩
  unfold State.claimList
  rw [mem_foldl_insertClaim, List.mem_append, mem_ownClaim, mem_peerClaims]
  simp

/-! ## The smallest of some numbers -/

theorem foldl_min_le (l : List Nat) (n : Nat) : l.foldl min n ≤ n ∧ ∀ d ∈ l, l.foldl min n ≤ d := by
  induction l generalizing n with
  | nil => simp
  | cons x l ih =>
    obtain ⟨hfirst, hrest⟩ := ih (min n x)
    rw [List.foldl_cons]
    refine ⟨by omega, fun d hd => ?_⟩
    rcases List.mem_cons.mp hd with rfl | hd
    · omega
    · exact hrest d hd

theorem foldl_min_mem (l : List Nat) (n : Nat) : l.foldl min n = n ∨ l.foldl min n ∈ l := by
  induction l generalizing n with
  | nil => exact Or.inl rfl
  | cons x l ih =>
    rw [List.foldl_cons]
    rcases ih (min n x) with h | h
    · rcases Nat.le_total n x with hle | hle
      · exact Or.inl (h.trans (Nat.min_eq_left hle))
      · exact Or.inr (by rw [h, Nat.min_eq_right hle]; exact List.mem_cons_self)
    · exact Or.inr (List.mem_cons_of_mem _ h)

theorem smallest_eq_some {l : List Nat} {n : Nat} : smallest l = some n ↔ n ∈ l ∧ ∀ d ∈ l, n ≤ d := by
  cases l with
  | nil => simp [smallest]
  | cons x l =>
    obtain ⟨hle, hall⟩ := foldl_min_le l x
    have hmem : l.foldl min x ∈ x :: l := by
      rcases foldl_min_mem l x with h | h
      · rw [h]; exact List.mem_cons_self
      · exact List.mem_cons_of_mem _ h
    have hleast : ∀ d ∈ x :: l, l.foldl min x ≤ d := fun d hd => by
      rcases List.mem_cons.mp hd with rfl | hd
      · exact hle
      · exact hall d hd
    unfold smallest
    rw [Option.some.injEq]
    refine ⟨fun h => h ▸ ⟨hmem, hleast⟩, fun ⟨hn, hmin⟩ => Nat.le_antisymm (hleast n hn) (hmin _ hmem)⟩

theorem smallest_eq_none {l : List Nat} : smallest l = none ↔ l = [] := by cases l <;> simp [smallest]

/-! ## The views of the table (R49 to R53) -/

theorem climbs_iff {e : Entry} : e.climbs = true ↔ climbing e := by simp [Entry.climbs, climbing, and_assoc]

theorem mem_climbingSet {s : State} {p : Fin 8} :
    p ∈ s.climbingSet ↔ s.ownPosition ≠ some p ∧ (s.entry p).state = .live ∧ climbing (s.entry p) := by
  simp [State.climbingSet, climbs_iff]

theorem allPositions_eq : allPositions = List.finRange 8 := by decide

/-- A count over the other positions, as the statements count it. -/
theorem length_others_filter (s : State) {f g : Fin 8 → Bool} (h : ∀ p, g p = (decide (s.ownPosition ≠ some p) && f p)) :
    (s.others.filter f).length = ((List.finRange 8).filter g).length := by
  unfold State.others
  rw [List.filter_filter, allPositions_eq]
  exact congrArg List.length (List.filter_congr fun p _ => (h p).symm ▸ (Bool.and_comm _ _))

theorem runs_iff {e : EngineState} : e.runs = true ↔ e = .idleWarm ∨ e = .running := by cases e <;> simp [EngineState.runs]

theorem others_sorted (s : State) : s.others.Pairwise (· < ·) := by
  have hall : allPositions.Pairwise (· < ·) := by decide
  exact hall.filter _

/-- The first of an ordered list is its least member. -/
theorem head?_eq_some_iff {l : List (Fin 8)} (h : l.Pairwise (· < ·)) {p : Fin 8} : l.head? = some p ↔ p ∈ l ∧ ∀ q ∈ l, p ≤ q := by
  cases l with
  | nil => simp
  | cons x l =>
    obtain ⟨hx, -⟩ := List.pairwise_cons.mp h
    rw [List.head?_cons, Option.some.injEq]
    refine ⟨fun hp => hp ▸ ⟨List.mem_cons_self, fun q hq => ?_⟩, fun ⟨hp, hmin⟩ => ?_⟩
    · rcases List.mem_cons.mp hq with rfl | hq
      · exact le_refl _
      · exact (hx q hq).le
    · rcases List.mem_cons.mp hp with rfl | hp
      · rfl
      · exact absurd (hx p hp) (not_lt.mpr (hmin x List.mem_cons_self))

theorem mem_cooling {s : State} {p : Fin 8} : p ∈ s.others.filter (fun p =>
    (s.entry p).liveOrStale && decide ((s.entry p).engine = .cooldown) && (s.entry p).flags.cooldownAuto) ↔ autoCooling s p := by
  simp [autoCooling, and_assoc]

theorem cooldownSeen_eq_some {s : State} {p : Fin 8} :
    s.cooldownSeen = some p ↔ autoCooling s p ∧ ∀ q, autoCooling s q → p ≤ q := by
  unfold State.cooldownSeen
  rw [head?_eq_some_iff ((others_sorted s).filter _)]
  simp only [mem_cooling]

theorem cooldownSeen_eq_none {s : State} : s.cooldownSeen = none ↔ ∀ p, ¬ autoCooling s p := by
  unfold State.cooldownSeen
  rw [List.head?_eq_none_iff, List.eq_nil_iff_forall_not_mem]
  simp only [mem_cooling]

theorem batteryAtLeast_iff {s : State} {n : Nat} : s.batteryAtLeast n = true ↔ ∃ v, s.lmn.sample = some v ∧ n ≤ v := by
  unfold State.batteryAtLeast
  cases s.lmn.sample <;> simp

theorem autostopConditions_iff {s : State} : s.autostopConditions = true ↔
    (∃ c, s.mpt.committed = some c ∧ c.autostop = true ∧ c.floor.val ≤ s.runningNow) ∧ s.ssq.stopInProgress = false
      ∧ s.cooldownSeen = none ∧ s.erc.sensor.state = .valid ∧ 60 ≤ s.erc.sensor.coolant
      ∧ (∃ v, s.lmn.sample = some v ∧ 264 ≤ v) ∧ s.clc.linkState ≠ .silenced := by
  rw [← batteryAtLeast_iff]
  unfold State.autostopConditions State.floor State.coolantAtLeast State.sensorValid autostopMinimum
  cases s.mpt.committed with
  | none => simp
  | some c =>
    simp only [Option.map_some, Option.getD_some, Bool.and_eq_true, Bool.not_eq_true', decide_eq_true_eq, Option.isNone_iff_eq_none,
      Option.some.injEq, exists_eq_left']
    refine ⟨fun ⟨⟨⟨⟨⟨⟨hauto, hstop⟩, hfloor⟩, hcool⟩, hvalid, htemp⟩, hbattery⟩, hlink⟩ => ?_, fun h => ?_⟩
    · exact ⟨⟨hauto, hfloor⟩, hstop, hcool, hvalid, htemp, hbattery, hlink⟩
    · obtain ⟨⟨hauto, hfloor⟩, hstop, hcool, hvalid, htemp, hbattery, hlink⟩ := h
      exact ⟨⟨⟨⟨⟨⟨hauto, hstop⟩, hfloor⟩, hcool⟩, hvalid, htemp⟩, hbattery⟩, hlink⟩

theorem tableViews (s : State) : TableViews s := by
  refine ⟨fun p => mem_climbingSet, ?_, fun n => ?_, ?_, ?_, ?_, cooldownSeen_eq_none, fun p => cooldownSeen_eq_some,
    autostopConditions_iff⟩
  · unfold State.lowestClimbing; rw [smallest_eq_none, List.map_eq_nil_iff]
  · unfold State.lowestClimbing; rw [smallest_eq_some]; simp only [List.mem_map, forall_exists_index, and_imp, forall_apply_eq_imp_iff₂]
  · simp [State.staleClimber, climbs_iff]
  · refine length_others_filter s fun p => Bool.eq_iff_iff.mpr ?_
    simp [runningPeer, runs_iff, and_assoc, and_comm]
  · refine length_others_filter s fun p => Bool.eq_iff_iff.mpr ?_
    simp [runningPeer, runs_iff, and_assoc, and_comm]

/-! ## The demand and the cap (R105 to R110) -/

theorem mem_peerDemands {s : State} {d : Nat} : d ∈ s.peerDemands ↔
    ∃ p, s.ownPosition ≠ some p ∧ (s.entry p).state = .live ∧ (s.entry p).demand = some d := by
  unfold State.peerDemands
  simp only [List.mem_filterMap, mem_others]
  refine exists_congr fun p => and_congr_right fun _ => ?_
  by_cases hlive : (s.entry p).state = .live
  · rw [if_pos (Entry.live_iff.mpr hlive)]; exact (and_iff_right hlive).symm
  · rw [if_neg (mt Entry.live_iff.mp hlive)]; simp [hlive]

theorem mem_all_derates (c : Derate) : c ∈ Derate.all := by cases c <;> decide

theorem mem_appliedLimits {s : State} {n : Nat} : n ∈ (Derate.all.filter (fun c => (s.nsp.derates.get c).applied)).map Derate.limit ↔
    ∃ c, (s.nsp.derates.get c).applied = true ∧ Derate.limit c = n := by
  simp [mem_all_derates]

theorem limit_lt (c : Derate) : Derate.limit c < 8 := by cases c <;> decide

theorem derateCap_le {s : State} {c : Derate} (h : (s.nsp.derates.get c).applied = true) : s.derateCap ≤ Derate.limit c :=
  (foldl_min_le _ _).2 _ (mem_appliedLimits.mpr ⟨c, h, rfl⟩)

theorem derateCap_cases (s : State) : s.derateCap = 8 ∨ ∃ c, (s.nsp.derates.get c).applied = true ∧ s.derateCap = Derate.limit c := by
  refine (foldl_min_mem _ _).imp_right fun h => ?_
  obtain ⟨c, hc, hlimit⟩ := mem_appliedLimits.mp h
  exact ⟨c, hc, hlimit.symm⟩

theorem effectiveDemand_of_reading {s : State} {r : Nat} (h : s.nsp.reading = some r) : s.effectiveDemand = s.peerDemands.foldl min r := by
  unfold State.effectiveDemand; rw [h]

theorem cap_of_held {s : State} (h : s.isolated = true ∨ s.ssq.engine ≠ .running ∨ s.ssq.stopInProgress = true ∨ s.deviceFailed .load = true) :
    s.cap = 0 := by
  unfold State.cap
  rw [if_pos (by simpa [or_assoc] using h)]

theorem cap_of_free {s : State} (he : s.ssq.engine = .running) (hi : s.isolated = false) (hs : s.ssq.stopInProgress = false)
    (hl : s.deviceFailed .load = false) : s.cap = if s.deviceFailed .sensors = true then min 4 s.derateCap else s.derateCap := by
  simp [State.cap, he, hi, hs, hl]

theorem cap_le (s : State) : s.cap ≤ s.derateCap ∧ (s.deviceFailed .sensors = true → s.cap ≤ 4) := by
  unfold State.cap; split
  · exact ⟨Nat.zero_le _, fun _ => Nat.zero_le _⟩
  · split
    · exact ⟨Nat.min_le_right _ _, fun _ => Nat.min_le_left _ _⟩
    next h => exact ⟨le_refl _, fun hs => absurd hs h⟩

/-- Settles O35: the views are filters of the other entries, the demand and the cap the smallest of lists. -/
theorem targetNotchIsDemandUnderTheCap : Obligations.TargetNotchIsDemandUnderTheCap := by
  intro s
  refine ⟨tableViews s, rfl, fun he => ?_, fun hi => cap_of_held (Or.inl hi), fun hs => cap_of_held (Or.inr (Or.inr (Or.inl hs))),
    fun hl => cap_of_held (Or.inr (Or.inr (Or.inr hl))), cap_of_free, (cap_le s).1, (cap_le s).2, fun c => derateCap_le, fun ⟨c, hc⟩ => ?_,
    fun hnone => ?_, ⟨rfl, rfl, rfl, rfl, rfl, rfl⟩, fun hr => ?_, fun r hr => ?_, fun d => mem_peerDemands⟩
  · have hcap : s.cap = 0 := cap_of_held (Or.inr (Or.inl he))
    exact ⟨hcap, by unfold State.targetNotch; rw [hcap, Nat.min_zero]⟩
  · refine (derateCap_cases s).resolve_left fun h8 => ?_
    have hle := derateCap_le hc
    have hlt := limit_lt c
    omega
  · refine (derateCap_cases s).resolve_right fun ⟨c, hc, _⟩ => ?_
    rw [hnone c] at hc; cases hc
  · unfold State.effectiveDemand; rw [hr]
  · rw [effectiveDemand_of_reading hr]
    obtain ⟨hle, hall⟩ := foldl_min_le s.peerDemands r
    exact ⟨foldl_min_mem _ _, hle, hall⟩

end Sys2Proof.Machine
end

section
/-! Obligation O44: the classification of replies. -/

namespace Sys2Proof.Machine

theorem oddParity_map_withParity (bs : List Byte) : (bs.map withParity).all oddParity = true := by
  rw [List.all_map, List.all_eq_true]; exact fun b _ => (withParity_reads b).1

theorem dataBits_map_withParity (bs : List Byte) : (bs.map withParity).map dataBits = bs := by
  rw [List.map_map]; exact (List.map_congr_left fun b _ => (withParity_reads b).2).trans (List.map_id bs)

theorem checkOctetOk_append (bs : List Byte) (x : Byte) : checkOctetOk (bs ++ [x]) = true ↔ x = xorAll bs := by
  rw [checkOctetOk_iff, List.getLast?_concat, List.dropLast_concat, Option.some.injEq]; rfl

theorem exceptionCode_eq : ∀ code : Byte, (if code = 0 then none else (exceptionCodes[code.toNat - 1]?).map Ending.exception)
    = (ExcCode.ofCode code.toNat).map Ending.exception := by decide

/-- The word of eight octets closed by their check octet. -/
theorem replyWord_closed (mark a tag code d0 d1 d2 : Byte) :
    replyWord ((closed [mark, a, tag, code, d0, d1, d2]).map withParity) = replyMeans mark code d0 d1 d2 := by
  have hcheck : checkOctetOk (closed [mark, a, tag, code, d0, d1, d2]) = true := (checkOctetOk_append _ _).mpr rfl
  unfold replyWord replyMeans
  rw [oddParity_map_withParity, dataBits_map_withParity, exceptionCode_eq]
  simp only [hcheck]; rfl

/-- What the tests do not pass is corrupt. -/
theorem classifyReply_of_none {tr : Transaction} {ws : List WireOctet} (h : replyWord ws = none) : classifyReply tr ws = some .corrupt := by
  unfold classifyReply; rw [h]

theorem replyWord_of_failed {ws : List WireOctet} (h : (ws.all oddParity && (ws.map dataBits).length == 8 && checkOctetOk (ws.map dataBits)) = false) :
    replyWord ws = none := by
  unfold replyWord; simp only [h, Bool.false_eq_true, if_false]

theorem classifyReply_closed (tr : Transaction) {mark a tag code d0 d1 d2 : Byte} {e : Ending} (h : replyMeans mark code d0 d1 d2 = some e) :
    classifyReply tr ((closed [mark, a, tag, code, d0, d1, d2]).map withParity) =
      if a = tr.request.order.device.address then if field tag 0 4 = tr.tag.toNat then some e else none else some .misrouted := by
  unfold classifyReply
  rw [replyWord_closed, h, dataBits_map_withParity]; rfl

theorem field_append (high g : BitVec 4) : field (high ++ g) 0 4 = g.toNat := by
  unfold field
  rw [BitVec.toNat_append, Nat.shiftLeft_eq, Nat.mul_comm, ← Nat.two_pow_add_eq_or_of_lt g.isLt]
  omega

/-- Settles O44: a reply that passes the tests is read by mark and code, then by address, then by tag. -/
theorem repliesAreClassified : Obligations.RepliesAreClassified := by
  refine ⟨fun tr mark code d0 d1 d2 high e h => ⟨?_, fun g hg => ?_, fun a g ha => ?_⟩,
    fun tr mark a tag code d0 d1 d2 h => classifyReply_of_none ((replyWord_closed _ _ _ _ _ _ _).trans h),
    fun tr ws h => classifyReply_of_none (replyWord_of_failed ?_), fun tr bs x h => classifyReply_of_none (replyWord_of_failed ?_),
    fun tr ws w hw h => classifyReply_of_none (replyWord_of_failed ?_), fun b => (oddParity_iff _).mp (withParity_reads b).1⟩
  · rw [classifyReply_closed tr h, if_pos rfl, field_append, if_pos rfl]
  · rw [classifyReply_closed tr h, if_pos rfl, field_append, if_neg fun hg' => hg (BitVec.eq_of_toNat_eq hg')]
  · rw [classifyReply_closed tr h, if_neg ha]
  · have hlength : ((ws.map dataBits).length == 8) = false := by rw [List.length_map]; simpa using h
    rw [hlength, Bool.and_false, Bool.false_and]
  · have hcheck : checkOctetOk (((bs ++ [x]).map withParity).map dataBits) = false := by
      rw [dataBits_map_withParity, ← Bool.not_eq_true, checkOctetOk_append]; exact h
    rw [hcheck, Bool.and_false]
  · have hparity : ws.all oddParity = false := by
      rw [← Bool.not_eq_true, List.all_eq_true]
      intro hall
      have hodd := (oddParity_iff w).mp (hall w hw)
      omega
    rw [hparity, Bool.false_and, Bool.false_and]

end Sys2Proof.Machine
end

section
/-! The status window (R177, section 11.5): the octets of each region, as the statements list them. -/

namespace Sys2Proof.Machine

/-! ## Codes -/

theorem engineNumber_eq (e : EngineState) : engineNumber e = e.code := by cases e <;> rfl

theorem engineNumber_map (e : Option EngineState) : e.map engineNumber = e.map EngineState.code := by
  cases e with
  | none => rfl
  | some e => exact congrArg some (engineNumber_eq e)

theorem faultNumber_some (k : FaultKind) : faultNumber (some k) = k.code := by
  cases k with
  | deviceFailed d => cases d <;> rfl
  | _ => rfl

theorem faultNumber_eq (k : Option FaultKind) : faultNumber k = faultCode k := by
  cases k with
  | none => rfl
  | some k => exact faultNumber_some k

theorem causeNumber_eq (c : Option Cause) : causeNumber c = causeCode c := by
  cases c with
  | none => rfl
  | some c => cases c <;> rfl

theorem linkNumber_eq (l : LinkState) : [LinkState.config, .listening, .checking, .joined, .alone, .silenced].idxOf l = l.windowCode := by
  cases l <;> rfl

theorem entryState_eq (e : EntryState) : [EntryState.absent, .live, .stale, .lost].idxOf e = e.code := by cases e <;> rfl

theorem relayMode_eq (m : RelayMode) : [RelayMode.off, .latest, .snapshot].idxOf m = m.code := by cases m <;> rfl

theorem exceptionNumber_eq (c : ExcCode) : exceptionCodes.idxOf c + 1 = c.code := by cases c <;> rfl

theorem orderNumbers_eq (o : Order) : orderNumbers o = (o.device.number, o.code) := by cases o <;> rfl

theorem clientNumber_eq (c : Client) : [Client.protect, .sequence, .notch, .poll].idxOf c + 1 = c.code := by cases c <;> rfl

theorem sequencer_eq (q : Sequencer) : [Sequencer.idle, .sending, .awaiting].idxOf q
    = match q with | .idle => 0 | .sending => 1 | .awaiting => 2 := by cases q <;> rfl

theorem recordState_eq (r : RecordState) : 2 * [RecordState.empty, .valid, .stale].idxOf r
    = match r with | .empty => 0 | .valid => 2 | .stale => 4 := by cases r <;> rfl

theorem slotShown_eq (v : Slot) : slotShown v = v.code := by cases v <;> rfl

theorem pendingShown_eq (v : Slot) : pendingShown v = pendingGroup v := by
  cases v with
  | pending r => unfold pendingShown pendingGroup; simp only [orderNumbers_eq]
  | _ => rfl

theorem levelShown_eq (s : State) (l : Line) : levelShown s l = levelCode (s.lmn.lines.get l).level := by
  unfold levelShown levelCode
  cases (s.lmn.lines.get l).level with
  | none => rfl
  | some b => cases b <;> rfl

theorem tenthsShown_tenths (ms : Nat) : tenthsShown ms (tenths ms) := by
  unfold tenthsShown tenths
  by_cases h : ms % 100 = 0
  · rw [if_pos h]; exact Or.inl rfl
  · rw [if_neg h]; split
    · exact Or.inr ⟨h, rfl⟩
    · exact Or.inl rfl

/-! ## Slices of the window -/

theorem offset_toNat {n : Nat} (h : n < 256) : (BitVec.ofNat 8 n).toNat = n := by rw [BitVec.toNat_ofNat]; omega

theorem lowRegion_length (s : State) : s.lowRegion.length = 0x40 := by
  simp [State.lowRegion, State.identityRegion, State.configRegion, State.engineRegion, State.notchRegion, State.inputRegion,
    State.holdRegion, wordOctets, allPositions]

theorem highRegion_length (s : State) : s.highRegion.length = 0x40 := by
  have hfirst : s.faultRegion.length = 10 := by
    unfold State.faultRegion
    cases s.fcl.firstFault <;> rfl
  simp [State.highRegion, channelRegion_length, counterRegion_length, hfirst]

/-- A slice of the low region is shown at its offset. -/
theorem shows_low {s : State} {a : Nat} {ns post : List Nat} (h : s.lowRegion.drop a = ns ++ post) : Shows s a ns := by
  intro i n hi
  have hget : s.lowRegion[a + i]? = some n := by
    rw [← List.getElem?_drop, h, List.getElem?_append_left (List.getElem?_eq_some_iff.mp hi).1, hi]
  obtain ⟨hlt, -⟩ := List.getElem?_eq_some_iff.mp hget
  rw [lowRegion_length] at hlt
  unfold State.windowOctet
  rw [offset_toNat (by omega)]
  simp only [if_pos hlt, List.getD_eq_getElem?_getD, hget]; rfl

/-- A slice of the high region is shown at its offset. -/
theorem shows_high {s : State} {a : Nat} {ns post : List Nat} (h : s.highRegion.drop a = ns ++ post) : Shows s (0xC0 + a) ns := by
  intro i n hi
  have hget : s.highRegion[a + i]? = some n := by
    rw [← List.getElem?_drop, h, List.getElem?_append_left (List.getElem?_eq_some_iff.mp hi).1, hi]
  obtain ⟨hlt, -⟩ := List.getElem?_eq_some_iff.mp hget
  rw [highRegion_length] at hlt
  have hlow : ¬ 0xC0 + a + i < 0x40 := by omega
  have htable : ¬ 0xC0 + a + i < 0xC0 := by omega
  have hindex : 0xC0 + a + i - 0xC0 = a + i := by omega
  unfold State.windowOctet
  rw [offset_toNat (by omega)]
  simp only [if_neg hlow, if_neg htable, hindex, List.getD_eq_getElem?_getD, hget]; rfl

/-- The next slice begins where one ends. -/
theorem drop_next {l ns post : List Nat} {a b : Nat} (h : l.drop a = ns ++ post) (hb : a + ns.length = b) : l.drop b = post := by
  rw [← hb, ← List.drop_drop, h, List.drop_left]

/-! ## The low region -/

theorem strapped_eq {x : Straps} {s : State} (h : s.mpt.straps = some x) : s.strapped = x := by unfold State.strapped; rw [h]; rfl

theorem identityRegion_eq {x : Straps} {s : State} (h : s.mpt.straps = some x) :
    s.identityRegion = [x.position.val + 8 * x.engineClass.val + 32 * x.floor.val] ++ configurationShown x s := by
  unfold State.identityRegion configurationShown
  rw [strapped_eq h]
  cases s.mpt.committed with
  | some c => simp only [relayMode_eq]; rfl
  | none =>
    have htag : (BitVec.ofNat 16 (0x3460 + x.position.val)).toNat = 0x3460 + x.position.val := by rw [BitVec.toNat_ofNat]; omega
    simp only [Option.getD_none, Straps.defaults, htag]; rfl

theorem configRegion_eq (s : State) : s.configRegion = s.mpt.buffer.toList.map (fun b => b.toNat) ++ (commitShown s
    ++ ([tenths (s.mpt.configTimer.getD 0)] ++ [s.clc.remainingCheck, s.clc.remainingInjected, s.clc.checkIndex, 0, 0])) := by
  have hcommit : commitShown s = [(match s.mpt.commitState with | .committed _ => 0x5A | _ => 0), s.commitOctet] := by
    unfold commitShown State.commitOctet
    cases s.mpt.commitState with
    | committed cause => cases cause <;> simp [bitAt, flagBit, Nat.add_assoc]
    | cleared => simp [bitAt, flagBit]
    | opened => simp [bitAt, flagBit]
  rw [hcommit]; rfl

theorem engineRegion_eq (s : State) :
    s.engineRegion = engineShown s ++ ([min 255 (tenths (s.nsp.dwell.getD 0))] ++ [s.cpa.claim.getD 0]) := by
  unfold State.engineRegion engineShown
  rw [engineNumber_eq, causeNumber_eq, linkNumber_eq]; rfl

theorem stepShown_eq (x : Option Step) : stepShown x = stepOctet x := by cases x <;> rfl

theorem notchRegion_eq (s : State) : [s.cpa.claim.getD 0] ++ s.notchRegion = notchShown s := by
  have hurgent : (!s.nsp.urgentList.isEmpty) = decide (s.nsp.urgentList ≠ []) := by
    cases s.nsp.urgentList <;> rfl
  unfold State.notchRegion notchShown
  rw [demandCodeOf_eq, stepShown_eq, hurgent]; rfl

theorem inputRegion_eq (s : State) : s.inputRegion = inputShown s := by
  have hnone : s.lmn.sample.isNone = decide (s.lmn.sample = none) := by cases s.lmn.sample <;> rfl
  unfold State.inputRegion inputShown
  simp only [levelShown_eq, hnone]; rfl

theorem lowRegion_eq (s : State) : s.lowRegion = s.identityRegion ++ (s.mpt.buffer.toList.map (fun b => b.toNat) ++ (commitShown s
    ++ ([tenths (s.mpt.configTimer.getD 0)] ++ ([s.clc.remainingCheck, s.clc.remainingInjected, s.clc.checkIndex, 0, 0]
    ++ (engineShown s ++ ([min 255 (tenths (s.nsp.dwell.getD 0))] ++ (notchShown s ++ (inputShown s
    ++ ([bitsOctet (fun i => (s.cpa.holds.get (Fin.ofNat 8 i)).isSome)]
    ++ (allPositions.map (fun p => tenthsAbove (s.cpa.holds.get p)) ++ [faultNumber s.fcl.notices.head?])))))))))) := by
  unfold State.lowRegion State.holdRegion
  rw [configRegion_eq, engineRegion_eq, inputRegion_eq, ← notchRegion_eq, faultNumber_eq]
  simp only [List.append_assoc]

theorem bitsOctet_getLsbD (f : Nat → Bool) (i : Fin 8) : (byteOf (bitsOctet f)).getLsbD i.val = f i.val := by
  have hbits : ∀ (a b c d e g h k : Bool) (i : Fin 8), (byteOf (flagBit a 1 + flagBit b 2 + flagBit c 4 + flagBit d 8 + flagBit e 16
      + flagBit g 32 + flagBit h 64 + flagBit k 128)).getLsbD i.val = [a, b, c, d, e, g, h, k].getD i.val false := by decide
  rw [bitsOctet, hbits]
  fin_cases i <;> rfl

/-! ## The table and the high region -/

theorem entryShown_eq (e : Entry) : entryShown e = e.octets := by
  have htag : decide (e.tag = none) = e.tag.isNone := by cases e.tag <;> rfl
  unfold entryShown Entry.octets
  rw [entryState_eq, engineNumber_eq, engineNumber_map, faultNumber_eq, htag, demandCodeOf_eq]; rfl

theorem healthShown_eq (h : Health) : healthShown h = h.octets := by
  have hcode : h.lastException.map (fun c => exceptionCodes.idxOf c + 1) = h.lastException.map ExcCode.code :=
    congrArg (fun f => h.lastException.map f) (funext exceptionNumber_eq)
  unfold healthShown Health.octets; rw [hcode]; rfl

theorem channelRegion_eq (s : State) : s.channelRegion = channelShown s := by
  unfold State.channelRegion channelShown
  simp only [healthShown_eq, sequencer_eq, recordState_eq, slotShown_eq, pendingShown_eq]
  cases s.erc.current with
  | none => rfl
  | some t => simp only [clientNumber_eq, orderNumbers_eq]; rfl

theorem counterRegion_eq (s : State) : s.counterRegion = countersShown s := rfl

theorem faultRegion_eq (s : State) : s.faultRegion = setMap s.fcl.active ++ (faultsShown s ++ setMap s.fcl.notices) := by
  unfold State.faultRegion faultsShown
  rw [causeNumber_eq]
  cases s.fcl.firstFault with
  | none => simp only [List.append_assoc]
  | some f => simp only [List.append_assoc, faultNumber_some, engineNumber_eq]

theorem highRegion_eq (s : State) : s.highRegion = channelShown s ++ (countersShown s ++ (setMap s.fcl.active
    ++ (faultsShown s ++ setMap s.fcl.notices))) := by
  unfold State.highRegion
  rw [channelRegion_eq, counterRegion_eq, faultRegion_eq, List.append_assoc]

/-- The octet at an offset that a slice shows. -/
theorem shows_octet {s : State} {a : Nat} {ns : List Nat} (h : Shows s a ns) {i n : Nat} (hi : ns[i]? = some n) :
    s.windowOctet (BitVec.ofNat 8 (a + i)) = byteOf n := h i n hi

/-- A bit of a set map stands for the kind of its code. -/
theorem setMap_bit {s : State} {a : Nat} {ks : List FaultKind} (h : Shows s a (setMap ks)) (j : Fin 3) (i : Fin 8) :
    (s.windowOctet (BitVec.ofNat 8 (a + j.val))).getLsbD i.val = true ↔ ∃ k, k ∈ ks ∧ faultNumber (some k) = 8 * j.val + i.val + 1 := by
  have hslice : (setMap ks)[j.val]? = some (bitsOctet (fun n => ks.any (fun k => k.code == 8 * j.val + n + 1))) := by
    fin_cases j <;> rfl
  rw [shows_octet h hslice, bitsOctet_getLsbD, List.any_eq_true]
  simp only [beq_iff_eq, faultNumber_some]

theorem windowOctet_entry (s : State) (k : Fin 8) {j : Nat} (hj : j < 16) :
    s.windowOctet (BitVec.ofNat 8 (0x40 + 16 * k.val + j)) = byteOf ((s.entry k).octets.getD j 0) := by
  have hlow : ¬ 0x40 + 16 * k.val + j < 0x40 := by omega
  have htable : 0x40 + 16 * k.val + j < 0xC0 := by omega
  have hentry : Fin.ofNat 8 ((0x40 + 16 * k.val + j) / 16 - 4) = k := by
    apply Fin.ext; show ((0x40 + 16 * k.val + j) / 16 - 4) % 8 = k.val; omega
  have hoctet : (0x40 + 16 * k.val + j) % 16 = j := by omega
  unfold State.windowOctet
  rw [offset_toNat (by omega)]; simp only [if_neg hlow, if_pos htable, hentry, hoctet]

theorem octets_length (e : Entry) : e.octets.length = 16 := by simp [Entry.octets, wordOctets]

theorem shows_entry (s : State) (k : Fin 8) : Shows s (0x40 + 16 * k.val) (entryShown (s.entry k)) := by
  intro i n hi
  rw [entryShown_eq] at hi
  have hlt : i < 16 := by rw [← octets_length (s.entry k)]; exact (List.getElem?_eq_some_iff.mp hi).1
  rw [windowOctet_entry s k hlt, List.getD_eq_getElem?_getD, hi]; rfl

theorem length_commitShown (s : State) : (commitShown s).length = 2 := by
  unfold commitShown; simp only []; split <;> rfl

/-- The window shows what section 11.5 gives each offset. -/
theorem windowShows (s : State) : WindowShows s := by
  have h00 : s.lowRegion.drop 0 = _ := lowRegion_eq s
  have h08 := drop_next h00 (b := 0x08) (by rw [identityRegion_length])
  have h18 := drop_next h08 (b := 0x18) (by simp)
  have h1A := drop_next h18 (b := 0x1A) (by rw [length_commitShown])
  have h1B := drop_next h1A (b := 0x1B) rfl
  have h20 := drop_next h1B (b := 0x20) rfl
  have h25 := drop_next h20 (b := 0x25) rfl
  have h26 := drop_next h25 (b := 0x26) rfl
  have h2D := drop_next h26 (b := 0x2D) rfl
  have h36 := drop_next h2D (b := 0x36) rfl
  have h37 := drop_next h36 (b := 0x37) rfl
  have h3F := drop_next h37 (b := 0x3F) rfl
  have hC0 : s.highRegion.drop 0 = _ := highRegion_eq s
  have hE0 := drop_next hC0 (b := 0x20) rfl
  have hF6 := drop_next hE0 (b := 0x36) rfl
  have hF9 := drop_next hF6 (b := 0x39) rfl
  have hfaults : (faultsShown s).length = 4 := by unfold faultsShown; cases s.fcl.firstFault <;> rfl
  have hFD := drop_next hF9 (b := 0x3D) (by rw [hfaults])
  refine ⟨fun x hx => ?_, shows_low h08, shows_low h18, ⟨_, tenthsShown_tenths _, shows_low h1A⟩, shows_low h1B, shows_low h20,
    ⟨_, tenthsShown_tenths _, shows_low h25⟩, shows_low h26, shows_low h2D, fun p => ⟨?_, ?_⟩, shows_low (post := []) (by rw [h3F]; rfl),
    shows_entry s, shows_high hC0, shows_high hE0, shows_high hF9, fun j i => ⟨?_, ?_⟩⟩
  · rw [← identityRegion_eq hx]; exact shows_low h00
  · rw [show (0x36 : Byte) = BitVec.ofNat 8 (0x36 + 0) from rfl, shows_octet (shows_low h36) rfl, bitsOctet_getLsbD]
    exact congrArg (fun q => (s.cpa.holds.get q).isSome) (Fin.ext (Nat.mod_eq_of_lt p.isLt))
  · intro i n hi
    obtain ⟨rfl, rfl⟩ : i = 0 ∧ n = tenthsAbove (s.cpa.holds.get p) := by
      cases i with
      | zero => exact ⟨rfl, (Option.some.inj hi).symm⟩
      | succ i => cases hi
    refine shows_low h37 p.val _ ?_
    fin_cases p <;> rfl
  · rw [show 0xF6 + j.val = 0xC0 + 0x36 + j.val by omega, setMap_bit (shows_high hF6)]
    simp only [State.faultActive, List.contains_iff_mem]
  · rw [show 0xFD + j.val = 0xC0 + 0x3D + j.val by omega]
    exact setMap_bit (shows_high (post := []) (by rw [hFD, List.append_nil])) j i

end Sys2Proof.Machine
end

section
/-! Obligations O49, O51 and O52: the commit, and the maintenance port. -/

namespace Sys2Proof.Machine

/-! ## The configuration formed at a commit (R169, R170) -/

theorem toList_vector16 (b : Vector Byte 16) : b.toList =
    [b[0], b[1], b[2], b[3], b[4], b[5], b[6], b[7], b[8], b[9], b[10], b[11], b[12], b[13], b[14], b[15]] := by
  refine List.ext_getElem (by simp) fun i hi _ => ?_
  have hlt : i < 16 := by simpa using hi
  interval_cases i <;> rfl

theorem marked_imp_iff {m : Bool} {c : Prop} [Decidable c] : (!m || decide c) = decide (m = true → c) := by
  cases m <;> simp

/-- The buffer test of the model is that of the statements. -/
theorem bufferPasses_eq (b : Vector Byte 16) : bufferPasses b = overridePasses b := by
  have hxor : xorAll (b.toList.take 15) = b[0] ^^^ b[1] ^^^ b[2] ^^^ b[3] ^^^ b[4] ^^^ b[5] ^^^ b[6] ^^^ b[7] ^^^ b[8] ^^^ b[9]
      ^^^ b[10] ^^^ b[11] ^^^ b[12] ^^^ b[13] ^^^ b[14] := by
    rw [toList_vector16]
    show (0 : Byte) ^^^ b[0] ^^^ b[1] ^^^ b[2] ^^^ b[3] ^^^ b[4] ^^^ b[5] ^^^ b[6] ^^^ b[7] ^^^ b[8] ^^^ b[9] ^^^ b[10] ^^^ b[11] ^^^ b[12]
      ^^^ b[13] ^^^ b[14] = _
    rw [show (0 : Byte) ^^^ b[0] = b[0] from BitVec.zero_xor]
  have hcheck (x : Byte) : (x == b[15]) = decide (b[15] = x) := by
    rw [Bool.eq_iff_iff, beq_iff_eq, decide_eq_true_eq]; exact eq_comm
  unfold bufferPasses overridePasses marked
  rw [hxor, hcheck, marked_imp_iff, marked_imp_iff, marked_imp_iff]

theorem applies_eq (m : Mpt) : m.applies = (m.overrideWritten && overridePasses m.buffer) := by unfold Mpt.applies; rw [bufferPasses_eq]

theorem relayOf_eq (source mode : Byte) : (relayOf source mode).mode = relayModeOf source mode
    ∧ (source.toNat < 8 → (relayOf source mode).source.val = source.toNat) := by
  unfold relayOf relayModeOf
  by_cases h : 8 ≤ source.toNat
  · rw [if_pos h, if_pos h]; exact ⟨rfl, fun hlt => absurd h (by omega)⟩
  · rw [if_neg h, if_neg h]; exact ⟨rfl, fun hlt => Nat.mod_eq_of_lt hlt⟩

theorem defaults_strapsAndDefaults (x : Straps) : StrapsAndDefaults x x.defaults := ⟨rfl, rfl, rfl, rfl, rfl, rfl, rfl, rfl, rfl⟩

/-- A marked field in its range is taken, and an unmarked one left to the straps. -/
theorem marked_val {n : Nat} [NeZero n] {m : Bool} {b : Byte} {y : Fin n} (h : m = true → b.toNat < n) :
    (if m then Fin.ofNat n b.toNat else y).val = if m then b.toNat else y.val := by
  cases m with
  | false => rfl
  | true => exact Nat.mod_eq_of_lt (h rfl)

theorem overridden_of_passes {x : Straps} {b : Vector Byte 16} (h : overridePasses b = true) : Overridden x b (x.overridden b) := by
  unfold overridePasses at h
  simp only [Bool.and_eq_true, decide_eq_true_eq] at h
  obtain ⟨⟨⟨-, hposition⟩, hclass⟩, hfloor⟩ := h
  have hA := relayOf_eq b[6] b[7]
  have hB := relayOf_eq b[8] b[9]
  exact ⟨marked_val fun hm => Nat.lt_succ_of_le (hposition hm), marked_val fun hm => Nat.lt_succ_of_le (hclass hm),
    marked_val fun hm => Nat.lt_succ_of_le (hfloor hm), rfl, hA.1, hA.2, hB.1, hB.2, rfl, rfl, rfl⟩

/-! ## The commit (R167, R170) -/

theorem commit_mpt (cause : CommitCause) (s : State) : (commit cause s).mpt = (commitPort cause s).mpt := rfl

theorem commit_clc (cause : CommitCause) (s : State) : (commit cause s).clc = (commitLink s.formed s).clc := rfl

theorem commit_entry_ne {cause : CommitCause} {s : State} {p : Fin 8} (h : p ≠ s.formed.position) :
    (commit cause s).entry p = s.entry p := entry_setEntry_ne h _ _

theorem commit_entry (cause : CommitCause) (s : State) :
    ∃ e g, (commit cause s).entry s.formed.position = Entry.ownAtCommit e s.formed g :=
  ⟨_, _, entry_setEntry _ _ (commitLink s.formed (commitPort cause s))⟩

/-- A commit, whatever its cause and the reaction that follows, is what the statements ask of it. -/
theorem commits_react {cause : CommitCause} {x : Straps} {s : State} (old : State) (h : s.mpt.straps = some x) :
    Commits cause x s (react old (commit cause s)) := by
  have hmpt : (react old (commit cause s)).mpt = (commitPort cause s).mpt := react_mpt old (commit cause s)
  have hclc : (react old (commit cause s)).clc = (commitLink s.formed s).clc :=
    react_clc_of_fixed old (s := commit cause s) (fun h => nomatch h) (fun h => nomatch h)
  have hentry (p : Fin 8) : (react old (commit cause s)).entry p = (commit cause s).entry p := react_entry old (commit cause s) p
  obtain ⟨e, g, hown⟩ := commit_entry cause s
  have hformed : s.formed = if s.mpt.applies then x.overridden s.mpt.buffer else x.defaults := by
    unfold State.formed; rw [strapped_eq h]
  have hother (p : Fin 8) (hp : p ≠ s.formed.position) : (react old (commit cause s)).entry p = s.entry p :=
    (hentry p).trans (commit_entry_ne hp)
  have hcommitted := hentry s.formed.position
  rw [hown] at hcommitted
  generalize react old (commit cause s) = t at hmpt hclc hcommitted hother ⊢
  refine ⟨s.formed, by rw [hmpt]; rfl, by rw [hmpt]; rfl, by rw [hmpt]; rfl, ?_, ?_, fun ha => ?_, fun ha => ?_, ?_⟩
  · rw [hmpt]; exact applies_eq s.mpt
  · rw [hmpt]; show (s.mpt.overrideWritten && !s.mpt.applies) = _
    rw [applies_eq]
    cases s.mpt.overrideWritten <;> rfl
  · rw [hformed, applies_eq, ha, if_pos rfl]
    exact overridden_of_passes (Bool.and_eq_true_iff.mp ha).2
  · rw [hformed, applies_eq, ha]
    exact defaults_strapsAndDefaults x
  · rw [hclc]
    exact ⟨rfl, rfl, rfl, rfl, rfl, rfl, by rw [hcommitted]; rfl, by rw [hcommitted]; rfl, by rw [hcommitted]; rfl,
      by rw [hcommitted]; rfl, hother⟩

theorem writeKind_eq_commit {s : State} (hopen : s.mpt.commitState = .opened) (hpointer : s.mpt.pointer = 0x18) :
    s.writeKind 0x5A = .commit := by
  unfold State.writeKind
  rw [if_pos hopen, hpointer]; rfl

theorem exec_configTimerExpiry {s : State} (ht : s.mpt.configTimer.isSome = true) (hopen : s.mpt.commitState = .opened) :
    exec .configTimerExpiry s = .next (react s (commit .expiry s)) := by
  have hexec : exec .configTimerExpiry s = execConfigTimerExpiry s := rfl
  rw [hexec]; unfold execConfigTimerExpiry; rw [if_pos ⟨ht, hopen⟩]

theorem exec_commitWrite {addr : BitVec 7} {s : State} (haddr : s.answers addr = true) (hopen : s.mpt.commitState = .opened)
    (hpointer : s.mpt.pointer = 0x18) :
    exec (.commitWrite addr) s = .next (react (setAck true s) (commit .write (bumpPointer (setAck true s)))) := by
  have hexec : exec (.commitWrite addr) s = .next (addressed addr (writeOctet 0x5A) s) := rfl
  have hkind : (setAck true s).writeKind 0x5A = .commit := writeKind_eq_commit hopen hpointer
  rw [hexec, addressed_of_answers haddr]
  unfold writeOctet; rw [hkind]

/-- Settles O49: both commands commit what the buffer then holds, and the reaction leaves it. -/
theorem commitFormsTheConfiguration : Obligations.CommitFormsTheConfiguration := by
  refine ⟨fun x s ht hopen hx => ⟨_, exec_configTimerExpiry ht hopen, commits_react s hx⟩,
    fun addr x s haddr hx hopen hpointer => ⟨_, exec_commitWrite haddr hopen hpointer, ?_, ?_⟩⟩
  · rw [react_mpt]; show s.mpt.pointer + 1 = 0x19
    rw [hpointer]; rfl
  · exact commits_react (s := bumpPointer (setAck true s)) (setAck true s) hx

/-! ## Writing at the port (R171, R172) -/

theorem addressed_of_other {s : State} {addr : BitVec 7} (h : s.answers addr = false) (act : State → State) :
    addressed addr act s = setAck false s := if_neg (by simp [h])

theorem answers_iff {addr : BitVec 7} {x : Straps} {s : State} (hr : s.inReset = false) (hx : s.mpt.straps = some x) :
    s.answers addr = true ↔ addr.toNat = 0x30 + x.position.val := by
  unfold State.answers; rw [hr, strapped_eq hx]; simp

theorem writeKind_refused {v : Byte} {s : State} (h : s.mpt.commitState ≠ .opened ∨ s.mpt.pointer.toNat < 0x08
    ∨ 0x18 < s.mpt.pointer.toNat ∨ (s.mpt.pointer = 0x18 ∧ v ≠ 0x5A)) : s.writeKind v = .refuse := by
  by_cases hopen : s.mpt.commitState = .opened
  · have hkeep : ¬ (0x08 ≤ s.mpt.pointer.toNat ∧ s.mpt.pointer.toNat ≤ 0x17) := by
      rcases h with h | h | h | ⟨h, -⟩
      · exact absurd hopen h
      · omega
      · omega
      · rw [h]; decide
    have hcommit : ¬ (s.mpt.pointer.toNat = 0x18 ∧ v = 0x5A) := by
      rcases h with h | h | h | ⟨-, h⟩
      · exact absurd hopen h
      · omega
      · omega
      · exact fun hv => h hv.2
    unfold State.writeKind; rw [if_pos hopen, if_neg hkeep, if_neg hcommit]
  · exact writeKind_eq_refuse hopen v

/-- Settles O51: the address test, the pointer and the refused octet, each as the model writes them. -/
theorem pointerAndRefusedOctets : Obligations.PointerAndRefusedOctets := by
  refine ⟨fun addr x s hr hx => answers_iff hr hx, fun addr s hr => ?_, fun addr v s haddr => ?_, fun addr v s haddr h => ?_,
    fun cmd addr v s haddr hcmd => ?_⟩
  · unfold State.answers; rw [hr]; rfl
  · have hexec : exec (.portPointerSet addr v) s = .next (addressed addr (setPointer v) s) := rfl
    rw [hexec, addressed_of_answers haddr]; rfl
  · have hexec : exec (.writeRefused addr v) s = .next (addressed addr (writeOctet v) s) := rfl
    have hkind : (setAck true s).writeKind v = .refuse := writeKind_refused h
    rw [hexec, addressed_of_answers haddr, writeOctet_of_refuse hkind]; rfl
  · have hother (act : State → State) : Host.Outcome.next (addressed addr act s)
        = (Host.Outcome.next { s with pins := { s.pins with portAck := false } } : Answer) := by
      rw [addressed_of_other haddr]; rfl
    rcases hcmd with rfl | rfl | rfl | rfl | rfl | rfl | rfl
    all_goals exact hother _

/-! ## Reading at the port (R171, R173, R174) -/

theorem exec_read {cmd : Instr} {addr : BitVec 7} {s : State} (haddr : s.answers addr = true)
    (hcmd : cmd = .coherentEntryRead addr ∨ cmd = .counterLatchRead addr ∨ cmd = .portOctetRead addr) :
    exec cmd s = .next (readOctet (setAck true s)) := by
  rw [← addressed_of_answers haddr readOctet]
  rcases hcmd with rfl | rfl | rfl <;> rfl

theorem entryOctets_eq (s : State) (k : Fin 8) : s.entryOctets k = (entryShown (s.entry k)).map (BitVec.ofNat 8) := by
  rw [entryShown_eq]; rfl

theorem windowOctet_pointer {s : State} {k : Fin 8} {j : Nat} (hj : j < 16) (hp : s.mpt.pointer.toNat = 0x40 + 16 * k.val + j) :
    s.windowOctet s.mpt.pointer = (s.entryOctets k).getD j 0 := by
  have hpointer : s.mpt.pointer = BitVec.ofNat 8 (0x40 + 16 * k.val + j) := by
    rw [← hp]; simp
  rw [hpointer, windowOctet_entry s k hj]
  unfold State.entryOctets
  rw [List.getD_eq_getElem?_getD, List.getD_eq_getElem?_getD, List.getElem?_map]
  cases (s.entry k).octets[j]? <;> rfl

/-- A read in the table region. -/
theorem readOctet_inside {s : State} {k : Fin 8} {j : Nat} (hj : j < 16) (hp : s.mpt.pointer.toNat = 0x40 + 16 * k.val + j) :
    readOctet s = serve (s.servedInside k j).1 (s.servedInside k j).2 none (bumpPointer s) := by
  have hinside : 0x40 ≤ s.mpt.pointer.toNat ∧ s.mpt.pointer.toNat < 0xC0 := by omega
  have hentry : Fin.ofNat 8 (s.mpt.pointer.toNat / 16 - 4) = k := by
    apply Fin.ext; show (s.mpt.pointer.toNat / 16 - 4) % 8 = k.val; omega
  have hoctet : s.mpt.pointer.toNat % 16 = j := by omega
  unfold readOctet; simp only [if_pos hinside, hentry, hoctet]

/-- A read outside it. -/
theorem readOctet_outside {s : State} (h : s.mpt.pointer.toNat < 0x40 ∨ 0xC0 ≤ s.mpt.pointer.toNat) :
    readOctet s = serve (s.servedOutside s.mpt.pointer) none (s.latchAfter s.mpt.pointer) (bumpPointer s) := by
  unfold readOctet; exact if_neg (by omega)

theorem lowOffset_outside {n : Nat} (h : n ∈ lowOffsets) : n < 0x40 ∨ 0xC0 ≤ n := by
  have hall : ∀ m ∈ lowOffsets, m < 0x40 ∨ 0xC0 ≤ m := by decide
  exact hall n h

theorem latchAfter_of_low {s : State} {a : Byte} (h : a.toNat ∈ lowOffsets) :
    s.latchAfter a = some ⟨a + 1, s.windowOctet (a + 1)⟩ := if_pos (List.contains_iff_mem.mpr h)

theorem latchAfter_of_other {s : State} {a : Byte} (h : a.toNat ∉ lowOffsets) : s.latchAfter a = none :=
  if_neg fun hc => h (List.contains_iff_mem.mp hc)

theorem servedOutside_of_empty {s : State} (a : Byte) (h : s.mpt.latch = none) : s.servedOutside a = s.windowOctet a := by
  unfold State.servedOutside; rw [h]

theorem servedOutside_of_latch {s : State} {a v : Byte} (h : s.mpt.latch = some ⟨a, v⟩) : s.servedOutside a = v := by
  unfold State.servedOutside; rw [h]; exact if_pos rfl

/-- With no copy of the entry it is served as it stands. -/
theorem servedInside_of_noCopy {s : State} {k : Fin 8} {j : Nat} (hj : j ≠ 0) (h : ∀ c, s.mpt.coherence = some c → c.entry ≠ k) :
    s.servedInside k j = ((s.entryOctets k).getD j 0, none) := by
  unfold State.servedInside; rw [if_neg hj]
  cases hc : s.mpt.coherence with
  | none => rfl
  | some c => exact if_neg (h c hc)

theorem servedInside_of_copy {s : State} {k : Fin 8} {j : Nat} {bs : List Byte} (hj : j ≠ 0) (h : s.mpt.coherence = some ⟨k, bs⟩) :
    s.servedInside k j = (bs.getD j 0, some ⟨k, bs⟩) := by
  unfold State.servedInside; rw [if_neg hj, h]; exact if_pos rfl

/-- Settles O52: the window as listed, and each read by where the pointer stands and what the two buffers hold. -/
theorem portReadsServeTheWindow : Obligations.PortReadsServeTheWindow := by
  refine ⟨windowShows, fun addr k s haddr hp => ?_, fun addr k j bs s haddr hj hj15 hp hcopy => ?_,
    fun addr k j s haddr hj hj15 hp hcopy => ?_, fun addr s haddr hlow hlatch => ?_, fun addr v s haddr hout hlow hlatch => ?_,
    fun addr s haddr hout hlow hlatch => ?_⟩
  · have hread := readOctet_inside (s := setAck true s) (k := k) (j := 0) (by omega) hp
    have hoctet := windowOctet_pointer (s := s) (k := k) (j := 0) (by omega) hp
    rw [exec_read haddr (Or.inl rfl), hread, hoctet, ← entryOctets_eq]; rfl
  · have hread := readOctet_inside (s := setAck true s) (k := k) (j := j) (by omega) hp
    rw [exec_read haddr (Or.inr (Or.inr rfl)), hread, servedInside_of_copy (by omega) (by exact hcopy)]
    show Host.Outcome.next { s with
      mpt := { s.mpt with pointer := s.mpt.pointer + 1, coherence := some ⟨k, bs⟩, latch := none }
      pins := { s.pins with portAck := true, portOut := some (bs.getD j 0) } } = _
    rw [← hcopy]
  · have hread := readOctet_inside (s := setAck true s) (k := k) (j := j) (by omega) hp
    have hoctet := windowOctet_pointer (s := s) (k := k) (j := j) (by omega) hp
    rw [exec_read haddr (Or.inr (Or.inr rfl)), hread, servedInside_of_noCopy (by omega) (by exact hcopy), hoctet]; rfl
  · have hread := readOctet_outside (s := setAck true s) (lowOffset_outside hlow)
    rw [exec_read haddr (Or.inr (Or.inl rfl)), hread, servedOutside_of_empty _ (by exact hlatch), latchAfter_of_low (by exact hlow)]; rfl
  · have hread := readOctet_outside (s := setAck true s) hout
    have hserved : (setAck true s).servedOutside (setAck true s).mpt.pointer = v := servedOutside_of_latch hlatch
    rw [exec_read haddr (Or.inr (Or.inr rfl)), hread, hserved, latchAfter_of_other (by exact hlow)]; rfl
  · have hread := readOctet_outside (s := setAck true s) hout
    rw [exec_read haddr (Or.inr (Or.inr rfl)), hread, servedOutside_of_empty _ (by exact hlatch), latchAfter_of_other (by exact hlow)]; rfl

end Sys2Proof.Machine
end

section
/-! The entry into an engine state, field by field, and what the deciding blocks cannot begin: rules for the events of the Line
Monitors. -/

namespace Sys2Proof.Machine

/-! ## Faults that a shared operation does not raise -/

/-- The deciding blocks raise no fault of another block. -/
theorem Move.keeps_inactive {k : FaultKind} (hk : k.ofSequencer = false) (hcrank : k ≠ .crankFail) {s t : State} (h : Move s t)
    (hs : s.faultActive k = false) : t.faultActive k = false := by
  cases h with
  | raise j s hj =>
    rw [faultActive_raiseFault_ne fun h => by rw [← h, hk] at hj; cases hj]; exact hs
  | crankFail c s => exact (faultActive_raiseFault_ne hcrank s).trans hs
  | clear j s => exact faultInactive_of_active_subset (clearFault_active_subset j s) hs
  | withdraw c s => rw [faultActive_of_fcl (withdraw_fcl c s)]; exact hs
  | post c r s he => rw [faultActive_of_fcl (post_fcl c r s)]; exact hs
  | ssq | nsp | link | yields | enter => exact hs

theorem moves_keep_inactive {k : FaultKind} (hk : k.ofSequencer = false) (hcrank : k ≠ .crankFail) {s t : State} (h : Moves s t)
    (hs : s.faultActive k = false) : t.faultActive k = false :=
  h.keeps (P := fun u => u.faultActive k = false) (fun _ _ hmove hu => hmove.keeps_inactive hk hcrank hu) hs

/-! ## What a raise leaves -/

@[simp] theorem raiseFault_ssq (k : FaultKind) (s : State) : (raiseFault k s).ssq = s.ssq := by rw [raiseFault_eq]

/-! ## The entry into an engine state (R73, R79) -/

/-- The Start Sequencer's group after an entry, before the autostop idle timer is started. -/
def Ssq.entered (n : EngineState) (q : Ssq) : Ssq :=
  { Ssq.startTimers n q.stopTimers with engine := n, fuelOrder := q.fuelOrder && n.keepsFuel, stopInProgress := false }

@[simp] theorem nspOnLeave_ssq (m n : EngineState) (s : State) : (nspOnLeave m n s).ssq = s.ssq := by
  have hdrop (u : State) : (dropStep u).ssq = u.ssq := by unfold dropStep withdraw; split <;> rfl
  have hend (u : State) : (endWatch u).ssq = u.ssq := clearFault_ssq _ _
  unfold nspOnLeave; repeat' split
  · exact hend _
  · exact (hend _).trans (hdrop s)
  · exact (hend _).trans (hdrop s)
  · rfl

@[simp] theorem clearRefusal_ssq (n : EngineState) (s : State) : (clearRefusal n s).ssq = s.ssq := by
  unfold clearRefusal; split
  · rfl
  · exact clearFault_ssq _ _

theorem idleUpkeep_ssq (s : State) : ∃ x y, (idleUpkeep s).ssq = { s.ssq with autostopIdle := x, idleElapsed := y } := by
  unfold idleUpkeep; repeat' split
  · exact ⟨_, s.ssq.idleElapsed, rfl⟩
  · exact ⟨s.ssq.autostopIdle, s.ssq.idleElapsed, rfl⟩
  · exact ⟨_, _, rfl⟩
  · exact ⟨s.ssq.autostopIdle, s.ssq.idleElapsed, rfl⟩

theorem startRunning_ssq (n : EngineState) (s : State) :
    ∃ x y, (startRunning n s).ssq = { s.ssq with autostopIdle := x, idleElapsed := y } := by
  unfold startRunning; split
  · exact idleUpkeep_ssq _
  · exact ⟨s.ssq.autostopIdle, s.ssq.idleElapsed, rfl⟩

theorem startTimers_fuel (n : EngineState) (q : Ssq) : (Ssq.startTimers n q.stopTimers).fuelOrder = q.fuelOrder := by cases n <;> rfl

/-- Of the Start Sequencer's group an entry sets what `entered` says, and the idle timer. -/
theorem enter_ssq (n : EngineState) (s : State) :
    ∃ x y, (enter n s).ssq = { s.ssq.entered n with autostopIdle := x, idleElapsed := y } := by
  unfold enter; simp only []
  obtain ⟨x, y, h⟩ := startRunning_ssq n (clearRefusal n
    { nspOnLeave s.ssq.engine n s with
      ssq := { Ssq.startTimers n (nspOnLeave s.ssq.engine n s).ssq.stopTimers with
        engine := n, fuelOrder := (Ssq.startTimers n (nspOnLeave s.ssq.engine n s).ssq.stopTimers).fuelOrder && n.keepsFuel
        stopInProgress := false }
      cpa := { (nspOnLeave s.ssq.engine n s).cpa with claim := claimOnEnter s.ssq.engine n (nspOnLeave s.ssq.engine n s).cpa.claim } })
  refine ⟨x, y, h.trans ?_⟩
  rw [clearRefusal_ssq]
  simp only [nspOnLeave_ssq, startTimers_fuel, Ssq.entered]

theorem startRunning_of_ne {n : EngineState} (hn : n ≠ .running) (s : State) : startRunning n s = s := if_neg hn

theorem enter_ssq_of_ne {n : EngineState} (hn : n ≠ .running) (s : State) : (enter n s).ssq = s.ssq.entered n := by
  unfold enter; simp only []
  rw [startRunning_of_ne hn, clearRefusal_ssq]
  simp only [nspOnLeave_ssq, startTimers_fuel, Ssq.entered]

section
variable (n : EngineState) (q : Ssq)

@[simp] theorem entered_stopReason : (q.entered n).stopReason = q.stopReason := by cases n <;> rfl

@[simp] theorem entered_lastCause : (q.entered n).lastCause = q.lastCause := by cases n <;> rfl

@[simp] theorem entered_seqList : (q.entered n).seqList = q.seqList := by cases n <;> rfl

@[simp] theorem entered_protList : (q.entered n).protList = q.protList := by cases n <;> rfl

@[simp] theorem entered_pumpHeld : (q.entered n).pumpHeld = q.pumpHeld := by cases n <;> rfl

@[simp] theorem entered_releasePending : (q.entered n).releasePending = q.releasePending := by cases n <;> rfl

end

section
variable (n : EngineState) (s : State)

@[simp] theorem enter_stopReason : (enter n s).ssq.stopReason = s.ssq.stopReason := by
  obtain ⟨x, y, h⟩ := enter_ssq n s
  rw [h]; exact entered_stopReason n s.ssq

@[simp] theorem enter_lastCause : (enter n s).ssq.lastCause = s.ssq.lastCause := by
  obtain ⟨x, y, h⟩ := enter_ssq n s
  rw [h]; exact entered_lastCause n s.ssq

@[simp] theorem enter_seqList : (enter n s).ssq.seqList = s.ssq.seqList := by
  obtain ⟨x, y, h⟩ := enter_ssq n s
  rw [h]; exact entered_seqList n s.ssq

@[simp] theorem enter_protList : (enter n s).ssq.protList = s.ssq.protList := by
  obtain ⟨x, y, h⟩ := enter_ssq n s
  rw [h]; exact entered_protList n s.ssq

@[simp] theorem enter_pumpHeld : (enter n s).ssq.pumpHeld = s.ssq.pumpHeld := by
  obtain ⟨x, y, h⟩ := enter_ssq n s
  rw [h]; exact entered_pumpHeld n s.ssq

@[simp] theorem enter_releasePending : (enter n s).ssq.releasePending = s.ssq.releasePending := by
  obtain ⟨x, y, h⟩ := enter_ssq n s
  rw [h]; exact entered_releasePending n s.ssq

theorem enter_fuelOrder : (enter n s).ssq.fuelOrder = (s.ssq.fuelOrder && n.keepsFuel) := by
  obtain ⟨x, y, h⟩ := enter_ssq n s
  rw [h]; rfl

theorem enter_stopInProgress : (enter n s).ssq.stopInProgress = false := by
  obtain ⟨x, y, h⟩ := enter_ssq n s
  rw [h]; rfl

theorem enter_claim : (enter n s).cpa.claim = claimOnEnter s.ssq.engine n s.cpa.claim := by rw [enter_cpa]

end

/-! ## What the deciding blocks do stage by stage -/

/-- What every stage of the deciding blocks keeps, they all keep. -/
theorem decideBlocks_keep {P : State → Prop} (hup : ∀ s, P s → P (upkept s)) (hidle : ∀ s, P s → P (idleUpkeep s))
    (hstop : ∀ s, P s → P (stopToCooldown s)) (htrigger : ∀ s, P s → P (triggerTest s)) (hclash : ∀ s, P s → P (clashTest s))
    (hgrant : ∀ s, P s → P (grantTest s)) (hcontention : ∀ s, P s → P (contention s)) (hauto : ∀ s, P s → P (autostopTest s))
    (old : State) {s : State} (hs : P s) : P (decideBlocks old s) := by
  have hite {b : Prop} [Decidable b] {f : State → State} (hf : ∀ u, P u → P (f u)) (u : State) (hu : P u) : P (if b then f u else u) := by
    split
    · exact hf u hu
    · exact hu
  rw [decideBlocks_eq]; simp only []
  exact hite hauto _ (hite hcontention _ (hite hgrant _ (hite hclash _ (hite htrigger _ (hstop _ (hidle _ (hup s hs)))))))

end Sys2Proof.Machine
end

section
/-! Obligations O25 and O48: the levels taken, and the battery samples. -/

namespace Sys2Proof.Machine

/-! ## The level taken (R154) -/

/-- The lines, the pins, the table and the maintenance port. -/
def State.linesView (s : State) := (s.lmn.lines, s.pins, s.table, s.mpt)

theorem linesView_of_outer {s t : State} (h : t.outer = s.outer) : t.linesView = s.linesView := by
  unfold State.linesView; rw [lmn_of_outer h, pins_of_outer h, table_of_outer h, mpt_of_outer h]

theorem linesView_estopAssertion (s : State) : (estopAssertion s).linesView = (setLevel .estop true s).linesView := by
  have hfirst : (refuseFirst s).linesView = s.linesView := by
    unfold refuseFirst; split
    · split
      · exact (linesView_of_outer (moves_outer (moves_inhibitPending _))).trans (b := (useFree s).linesView) rfl
      · rfl
    · rfl
  have hset : (setLevel .estop true (refuseFirst s)).linesView = (setLevel .estop true s).linesView := by
    simp only [State.linesView, Prod.mk.injEq] at hfirst ⊢
    obtain ⟨hlines, hpins, htable, hmpt⟩ := hfirst
    exact ⟨congrArg (·.set .estop ⟨some true, none⟩) hlines, hpins, htable, hmpt⟩
  have hestop : (ssqEstop (setLevel .estop true (refuseFirst s))).linesView = (setLevel .estop true (refuseFirst s)).linesView :=
    ssqEstop_kept (f := State.linesView) (unmoved_outer.comp fun o => (o.lmn.lines, o.pins, o.table, o.mpt)) _
  exact ((linesView_of_outer (moves_outer (moves_inhibitPending _))).trans hestop).trans hset

theorem linesView_takeEdge {l : Line} {v : Bool} {act : State → State} {s : State}
    (hact : (act (setLevel l v s)).linesView = (setLevel l v s).linesView) : (takeEdge l v act s).linesView = (setLevel l v s).linesView := by
  unfold takeEdge; simp only []; split
  · exact hact
  · rfl

theorem linesView_resetEdge (s : State) : (resetEdge s).linesView = s.linesView := by
  unfold resetEdge; split
  · exact (linesView_of_outer ((outer_ssqSilence _).trans (outer_faultReset (setSilence s)))).trans (b := (setSilence s).linesView) rfl
  · exact linesView_of_outer (outer_faultReset s)

theorem linesView_takeLevel (l : Line) (v : Bool) (s : State) : (takeLevel l v s).linesView = (setLevel l v s).linesView := by
  cases l with
  | start => exact linesView_takeEdge (linesView_of_outer (outer_startRequest _))
  | stop => exact linesView_takeEdge (linesView_of_outer (outer_stopRequest _))
  | freset => exact linesView_takeEdge (linesView_resetEdge _)
  | estop =>
    simp only [takeLevel]; split
    next h => subst h; exact linesView_estopAssertion s
    next h =>
      rw [show v = false by simpa using h]; split
      · rfl
      · rw [estopRelease_eq]; split
        · exact linesView_of_outer ((outer_triggerTest _).trans (outer_clearFault _ _))
        · exact linesView_of_outer (outer_clearFault _ _)
  | runIso =>
    simp only [takeLevel]; split
    · exact linesView_of_outer (outer_urgentTest _)
    · rfl

theorem exec_lineStabilityExpiry_of_eq {l : Line} {s : State} (htimer : (s.lmn.lines.get l).timer.isSome = true)
    (hlevel : (s.lmn.lines.get l).level = some (s.pins.lines.get l)) :
    exec (.lineStabilityExpiry l) s = .next (stopStability l s) := by
  have hexec : exec (.lineStabilityExpiry l) s = execLineStabilityExpiry l s := rfl
  rw [hexec]; unfold execLineStabilityExpiry
  rw [if_neg (by simpa using Option.isSome_iff_ne_none.mp htimer)]
  exact congrArg Host.Outcome.next (if_pos hlevel)

theorem stopStability_of_eq {l : Line} {s : State} {v : Bool} (hlevel : (s.lmn.lines.get l).level = some v) :
    stopStability l s = { s with lmn := { s.lmn with lines := s.lmn.lines.set l ⟨some v, none⟩ } } := by
  unfold stopStability; rw [← hlevel]

theorem PerLine.set_set {α : Type} (m : PerLine α) (l : Line) (v w : α) : (m.set l v).set l w = m.set l w := by cases l <;> rfl

/-- At the expiry the level on the line becomes the debounced one, whether it changes or not. -/
theorem exec_lineStabilityExpiry_lines {l : Line} {s : State} (htimer : (s.lmn.lines.get l).timer.isSome = true) :
    ∃ t, exec (.lineStabilityExpiry l) s = .next t ∧ t.lmn.lines = s.lmn.lines.set l ⟨some (s.pins.lines.get l), none⟩
      ∧ t.pins = s.pins ∧ t.table = s.table ∧ t.mpt = s.mpt := by
  by_cases hlevel : (s.lmn.lines.get l).level = some (s.pins.lines.get l)
  · refine ⟨_, exec_lineStabilityExpiry_of_eq htimer hlevel, ?_⟩
    rw [stopStability_of_eq hlevel]
    exact ⟨rfl, rfl, rfl, rfl⟩
  · refine ⟨_, exec_lineStabilityExpiry_of_ne htimer rfl hlevel, ?_⟩
    have hview := (linesView_of_outer (outer_react s _)).trans (linesView_takeLevel l (s.pins.lines.get l) (stopStability l s))
    simp only [State.linesView, Prod.mk.injEq] at hview
    obtain ⟨hlines, hpins, htable, hmpt⟩ := hview
    refine ⟨hlines.trans ?_, hpins, htable, hmpt⟩
    exact PerLine.set_set s.lmn.lines l _ _

/-- Settles O25: at the expiry the level is taken; with the same level no block is told. -/
theorem stableLevelIsTaken : Obligations.StableLevelIsTaken := by
  refine fun l s htimer => ⟨?_, fun hlevel => ?_⟩
  · obtain ⟨t, hexec, hlines, hpins, htable, hmpt⟩ := exec_lineStabilityExpiry_lines htimer
    refine ⟨t, hexec, ?_, fun k hk => ?_, hpins, htable, hmpt⟩
    · rw [hlines]; exact PerLine.get_set s.lmn.lines l _
    · rw [hlines]; exact PerLine.get_set_ne s.lmn.lines _ hk
  · rw [exec_lineStabilityExpiry_of_eq htimer hlevel, stopStability_of_eq hlevel]

/-! ## An engine that does not crank keeps its last cause -/

/-- The engine does not crank, and the last cause of a failed attempt is `c`. -/
def Uncranked (c : Option Cause) (s : State) : Prop := s.ssq.engine ≠ .cranking ∧ s.ssq.lastCause = c

section
variable {c : Option Cause} {s : State} (h : Uncranked c s)
include h

theorem Uncranked.of_ssq {t : State} (ht : t.ssq = s.ssq) : Uncranked c t := by unfold Uncranked; rw [ht]; exact h

theorem Uncranked.enter {n : EngineState} (hn : n ≠ .cranking) : Uncranked c (Machine.enter n s) :=
  ⟨by rw [engine_enter]; exact hn, by rw [enter_lastCause]; exact h.2⟩

theorem Uncranked.setReason (r : StopReason) : Uncranked c (Machine.setReason r s) := h

theorem Uncranked.addSeq (o : Order) : Uncranked c (Machine.addSeq o s) := by
  unfold Machine.addSeq; split
  · exact h
  · cases o <;> exact h

theorem Uncranked.addStopIfHeld : Uncranked c (Machine.addStopIfHeld s) := by
  unfold Machine.addStopIfHeld; split
  · exact h.addSeq .stop
  · exact h

theorem Uncranked.startRequest : Uncranked c (Machine.startRequest s) := by
  unfold Machine.startRequest; repeat' split
  · exact h.enter (by decide)
  · exact h.of_ssq (raiseFault_ssq _ _)
  · exact (h.enter (by decide)).setReason _
  · exact h

theorem Uncranked.triggerTest : Uncranked c (Machine.triggerTest s) := by
  unfold Machine.triggerTest; repeat' split
  · exact h.startRequest
  · exact (h.enter (by decide)).setReason _
  · exact h
  · exact h

theorem Uncranked.clashTest : Uncranked c (Machine.clashTest s) := by
  have hcount : Uncranked c (countYield s) := h
  unfold Machine.clashTest yieldPermit; simp only []
  split
  · split
    · exact (hcount.addSeq .stop).enter (by decide)
    · exact ((hcount.addSeq .disengage).enter (by decide)).addStopIfHeld
    · exact hcount
  · exact h

theorem Uncranked.grantTest : Uncranked c (Machine.grantTest s) := by
  unfold Machine.grantTest; split
  · exact (h.enter (by decide)).addSeq .run
  · exact h

theorem Uncranked.contention : Uncranked c (Machine.contention s) := by
  unfold Machine.contention; repeat' split
  · exact (h.enter (by decide)).setReason _
  · exact h
  · exact h

theorem Uncranked.autostopTest : Uncranked c (Machine.autostopTest s) := by
  unfold Machine.autostopTest; split
  · exact (h.enter (by decide)).setReason _
  · exact h

theorem Uncranked.idleUpkeep : Uncranked c (Machine.idleUpkeep s) := by
  obtain ⟨x, y, hq⟩ := idleUpkeep_ssq s
  unfold Uncranked; rw [hq]; exact h

theorem Uncranked.stopToCooldown : Uncranked c (Machine.stopToCooldown s) := by
  rcases stopToCooldown_cases s with hs | hs <;> rw [hs]
  · exact h
  · exact (h.enter (by decide)).setReason _

theorem Uncranked.react (old : State) : Uncranked c (Machine.react old s) := by
  have hdecided : Uncranked c (decideBlocks old s) :=
    decideBlocks_keep (P := Uncranked c) (fun u hu => hu.of_ssq (upkept_ssq u)) (fun _ hu => hu.idleUpkeep) (fun _ hu => hu.stopToCooldown)
      (fun _ hu => hu.triggerTest) (fun _ hu => hu.clashTest) (fun _ hu => hu.grantTest) (fun _ hu => hu.contention)
      (fun _ hu => hu.autostopTest) old h
  have hposted := posted_postOrders old (Or.inr hdecided.1)
  exact ⟨by unfold Machine.react; rw [hposted.engine]; exact hdecided.1, by unfold Machine.react; rw [hposted.ssq]; exact hdecided.2⟩

end

/-! ## The sag detector (R150 to R152) -/

/-- The sample taken as the latest one. -/
def latch (n : Nat) (s : State) : State := { s with lmn := { s.lmn with sample := some n, sampleTimer := some 10 } }

theorem moves_sampleEvent (n : Nat) (s : State) : Moves (detectSag n (latch n s)) (sampleEvent n s) :=
  (moves_autostopTest (moves_triggerTest (moves_grantTest (.refl _)))).trans (moves_react (.refl _))

theorem sampleEvent_lmn (n : Nat) (s : State) : (sampleEvent n s).lmn = (detectSag n (latch n s)).lmn :=
  lmn_of_outer (moves_outer (moves_sampleEvent n s))

theorem takeSag_lmn (s : State) : (takeSag s).lmn = { s.lmn with sagFlag := true, sagCount := 0 } := by
  unfold takeSag; exact lmn_of_outer ((outer_ssqSag _).trans (outer_raiseFault _ _))

theorem takeRecovery_lmn (s : State) : (takeRecovery s).lmn = { s.lmn with sagFlag := false, recoveryCount := 0 } := by
  unfold takeRecovery; exact lmn_of_outer (outer_clearFault _ _)

theorem takeSag_active (s : State) : (takeSag s).faultActive .batterySag = true :=
  moves_keep_active rfl (moves_ssqSag (.refl _)) (raiseFault_active _ _)

theorem takeRecovery_inactive (s : State) : (takeRecovery s).faultActive .batterySag = false := faultActive_clearFault_same rfl _

section
variable {n : Nat} {s : State}

theorem detectSag_low (hflag : s.lmn.sagFlag = false) (hn : n < 192) (hcount : s.lmn.sagCount ≠ 30) :
    detectSag n s = { s with lmn := { s.lmn with sagCount := s.lmn.sagCount + 1 } } := by
  simp [detectSag, hflag, sagLevel, hn, hcount]

theorem detectSag_sag (hflag : s.lmn.sagFlag = false) (hn : n < 192) (hcount : s.lmn.sagCount = 30) : detectSag n s = takeSag s := by
  simp [detectSag, hflag, sagLevel, hn, hcount]

theorem detectSag_high (hflag : s.lmn.sagFlag = false) (hn : 192 ≤ n) :
    detectSag n s = { s with lmn := { s.lmn with sagCount := 0 } } := by
  simp [detectSag, hflag, sagLevel, hn]

theorem detectSag_recovering (hflag : s.lmn.sagFlag = true) (hn : 192 ≤ n) (hcount : s.lmn.recoveryCount ≠ 30) :
    detectSag n s = { s with lmn := { s.lmn with recoveryCount := s.lmn.recoveryCount + 1 } } := by
  simp [detectSag, hflag, sagLevel, hn, hcount]

theorem detectSag_recovery (hflag : s.lmn.sagFlag = true) (hn : 192 ≤ n) (hcount : s.lmn.recoveryCount = 30) :
    detectSag n s = takeRecovery s := by
  simp [detectSag, hflag, sagLevel, hn, hcount]

theorem detectSag_sagging (hflag : s.lmn.sagFlag = true) (hn : n < 192) :
    detectSag n s = { s with lmn := { s.lmn with recoveryCount := 0 } } := by
  have hlow : ¬ 192 ≤ n := by omega
  simp [detectSag, hflag, sagLevel, hlow]

end

/-- The sag detector keeps the sample and its timer. -/
theorem detectSag_sample (n : Nat) (s : State) :
    (detectSag n s).lmn.sample = s.lmn.sample ∧ (detectSag n s).lmn.sampleTimer = s.lmn.sampleTimer := by
  unfold detectSag; repeat' split
  all_goals simp [takeSag_lmn, takeRecovery_lmn]

theorem sampleEvent_sample (n : Nat) (s : State) :
    (sampleEvent n s).lmn.sample = some n ∧ (sampleEvent n s).lmn.sampleTimer = some 10 := by
  rw [sampleEvent_lmn]; exact detectSag_sample n (latch n s)

theorem sampleEvent_of_sag {n : Nat} {s : State} (hflag : s.lmn.sagFlag = false) (hn : n < 192) (hcount : s.lmn.sagCount = 30) :
    (sampleEvent n s).lmn.sagFlag = true ∧ (sampleEvent n s).lmn.sagCount = 0 ∧ (sampleEvent n s).faultActive .batterySag = true := by
  have hsag : detectSag n (latch n s) = takeSag (latch n s) := detectSag_sag hflag hn hcount
  refine ⟨by rw [sampleEvent_lmn, hsag, takeSag_lmn], by rw [sampleEvent_lmn, hsag, takeSag_lmn],
    moves_keep_active rfl (moves_sampleEvent n s) ?_⟩
  rw [hsag]; exact takeSag_active _

theorem sampleEvent_of_recovery {n : Nat} {s : State} (hflag : s.lmn.sagFlag = true) (hn : 192 ≤ n) (hcount : s.lmn.recoveryCount = 30) :
    (sampleEvent n s).lmn.sagFlag = false ∧ (sampleEvent n s).lmn.recoveryCount = 0
      ∧ (sampleEvent n s).faultActive .batterySag = false := by
  have hrecovery : detectSag n (latch n s) = takeRecovery (latch n s) := detectSag_recovery hflag hn hcount
  refine ⟨by rw [sampleEvent_lmn, hrecovery, takeRecovery_lmn], by rw [sampleEvent_lmn, hrecovery, takeRecovery_lmn],
    moves_keep_inactive rfl (by decide) (moves_sampleEvent n s) ?_⟩
  rw [hrecovery]; exact takeRecovery_inactive _

theorem sampleOf_lt_iff (mv : Nat) : sampleOf mv < 192 ↔ mv < 48000 := by unfold sampleOf; omega

theorem sagDetected_sampleEvent (mv : Nat) (s : State) : SagDetected mv s (sampleEvent (sampleOf mv) s) := by
  have hlow (h : mv < 48000) : sampleOf mv < 192 := (sampleOf_lt_iff mv).mpr h
  have hhigh (h : 48000 ≤ mv) : 192 ≤ sampleOf mv := by have := sampleOf_lt_iff mv; omega
  refine ⟨fun hflag hmv hcount => ?_, fun hflag hmv hcount => ?_, fun hflag hmv => ?_, fun hflag hmv hcount => ?_,
    fun hflag hmv hcount => ?_, fun hflag hmv => ?_⟩
  · rw [sampleEvent_lmn, detectSag_low (s := latch _ s) hflag (hlow hmv) hcount]; exact ⟨rfl, hflag⟩
  · obtain ⟨hset, hzero, hactive⟩ := sampleEvent_of_sag hflag (hlow hmv) hcount
    exact ⟨hzero, hset, hactive⟩
  · rw [sampleEvent_lmn, detectSag_high (s := latch _ s) hflag (hhigh hmv)]; exact ⟨rfl, hflag⟩
  · rw [sampleEvent_lmn, detectSag_recovering (s := latch _ s) hflag (hhigh hmv) hcount]; exact ⟨rfl, hflag⟩
  · obtain ⟨hcleared, hzero, hactive⟩ := sampleEvent_of_recovery hflag (hhigh hmv) hcount
    exact ⟨hzero, hcleared, hactive⟩
  · rw [sampleEvent_lmn, detectSag_sagging (s := latch _ s) hflag (hlow hmv)]; exact ⟨rfl, hflag⟩

/-- A sag met by an engine that does not crank fails no attempt. -/
theorem sampleEvent_lastCause {n : Nat} {s : State} (hflag : s.lmn.sagFlag = false) (hn : n < 192) (hcount : s.lmn.sagCount = 30)
    (hcrank : s.ssq.engine ≠ .cranking) : (sampleEvent n s).ssq.lastCause = s.ssq.lastCause := by
  have hsag : detectSag n (latch n s) = takeSag (latch n s) := detectSag_sag hflag hn hcount
  have htaken : Uncranked s.ssq.lastCause (takeSag (latch n s)) := by
    have hraised (u : State) (hu : Uncranked s.ssq.lastCause u) : Uncranked s.ssq.lastCause (ssqSag (raiseFault .batterySag u)) := by
      have hr := hu.of_ssq (raiseFault_ssq .batterySag u)
      unfold ssqSag; rw [if_neg hr.1]; exact hr
    exact hraised _ ⟨hcrank, rfl⟩
  have hevent : Uncranked s.ssq.lastCause (sampleEvent n s) := by
    show Uncranked s.ssq.lastCause (react s (autostopTest (triggerTest (grantTest (detectSag n (latch n s))))))
    rw [hsag]
    exact htaken.grantTest.triggerTest.autostopTest.react s
  exact hevent.2

/-! ## The three commands -/

theorem exec_batterySample {mv : Nat} {s : State} (h : s.lmn.sampleTimer.isSome = true) :
    exec (.batterySample mv) s = .next (sampleEvent (sampleOf mv) s) := by
  have hexec : exec (.batterySample mv) s = execBatterySample mv s := rfl
  rw [hexec]; unfold execBatterySample
  rw [if_neg (by simpa using Option.isSome_iff_ne_none.mp h)]

theorem sagDue_iff {s : State} :
    s.sagDue = true ↔ s.lmn.sampleTimer.isSome = true ∧ s.lmn.sagFlag = false ∧ s.lmn.sagCount = 30 := by
  simp [State.sagDue, and_assoc]

theorem recoveryDue_iff {s : State} :
    s.recoveryDue = true ↔ s.lmn.sampleTimer.isSome = true ∧ s.lmn.sagFlag = true ∧ s.lmn.recoveryCount = 30 := by
  simp [State.recoveryDue, and_assoc]

theorem exec_sagEvent {s : State} (h : s.sagDue = true) :
    exec .sagEvent s = .next (sampleEvent (Config.sagSample s.freeCount).val (useFree s)) := by
  have hexec : exec .sagEvent s = execSagEvent s := rfl
  rw [hexec]; unfold execSagEvent; rw [if_pos h]

theorem exec_sagRecovery {s : State} (h : s.recoveryDue = true) :
    exec .sagRecovery s = .next (sampleEvent (192 + (Config.recoverySample s.freeCount).val) (useFree s)) := by
  have hexec : exec .sagRecovery s = execSagRecovery s := rfl
  rw [hexec]; unfold execSagRecovery; rw [if_pos h]; rfl

/-- Settles O48: each command is a sample event, whose detector acts by the flag, the sample and the count. -/
theorem batterySamplesAndSag : Obligations.BatterySamplesAndSag := by
  refine ⟨fun mv s h => ⟨_, exec_batterySample h, (sampleEvent_sample _ s).1, (sampleEvent_sample _ s).2, sagDetected_sampleEvent mv s⟩,
    fun s h hflag hcount hcrank => ?_, fun s h => ?_, fun s h hflag hcount => ?_, fun s h => ?_⟩
  · have hlow : (Config.sagSample s.freeCount).val < 192 := (Config.sagSample s.freeCount).isLt
    obtain ⟨hset, hzero, hactive⟩ := sampleEvent_of_sag (s := useFree s) hflag hlow hcount
    exact ⟨_, _, exec_sagEvent (sagDue_iff.mpr ⟨h, hflag, hcount⟩), hlow, (sampleEvent_sample _ _).1, (sampleEvent_sample _ _).2,
      hset, hzero, hactive, sampleEvent_lastCause (s := useFree s) hflag hlow hcount hcrank⟩
  · have hdue : ¬ s.sagDue = true := by
      rw [sagDue_iff]; rintro ⟨htimer, hflag, hcount⟩
      rcases h with h | h | h
      · rw [h] at htimer; cases htimer
      · rw [h] at hflag; cases hflag
      · exact h hcount
    exact congrArg Host.Outcome.next (if_neg hdue)
  · have hhigh : 192 ≤ 192 + (Config.recoverySample s.freeCount).val := Nat.le_add_right _ _
    have htop : 192 + (Config.recoverySample s.freeCount).val ≤ 511 := by
      have := (Config.recoverySample s.freeCount).isLt
      omega
    obtain ⟨hcleared, hzero, hactive⟩ := sampleEvent_of_recovery (s := useFree s) hflag hhigh hcount
    exact ⟨_, _, exec_sagRecovery (recoveryDue_iff.mpr ⟨h, hflag, hcount⟩), hhigh, htop, (sampleEvent_sample _ _).1,
      (sampleEvent_sample _ _).2, hcleared, hzero, hactive⟩
  · have hdue : ¬ s.recoveryDue = true := by
      rw [recoveryDue_iff]; rintro ⟨htimer, hflag, hcount⟩
      rcases h with h | h | h
      · rw [h] at htimer; cases htimer
      · rw [h] at hflag; cases hflag
      · exact h hcount
    exact congrArg Host.Outcome.next (if_neg hdue)

end Sys2Proof.Machine
end

section
/-! Obligation O26: the start request, with the reactions that keep the engine where a request has left it. -/

namespace Sys2Proof.Machine

/-! ## The faults an entry clears (R80) -/

/-- An entry to a state other than STOPPED clears START_REFUSED. -/
theorem enter_startRefused {n : EngineState} (hn : n ≠ .stopped) (s : State) : (enter n s).faultActive .startRefused = false := by
  unfold enter; simp only []
  rw [faultActive_of_fcl (startRunning_fcl n _), clearRefusal, if_neg hn]
  exact faultActive_clearFault_same rfl _

/-! ## The reaction in CLAIMING -/

@[simp] theorem upkept_lmn (s : State) : (upkept s).lmn = s.lmn := lmn_of_outer (outer_upkept s)

theorem upkept_estop (s : State) : (upkept s).estop = s.estop := estop_of_outer (outer_upkept s)

theorem grantTest_of_young {s : State} (h : ∀ a, s.cpa.claim = some a → a < 3) : grantTest s = s := by
  have hconditions : s.permitConditions = false := by
    unfold State.permitConditions
    cases hc : s.cpa.claim with
    | none => rfl
    | some a =>
      have hlt := h a hc
      simp [show ¬ 3 ≤ a by omega]
  simp [grantTest, hconditions]

/-- A claim younger than 3 waits: the reaction decides nothing. -/
theorem react_of_young (old : State) {s : State} (hengine : s.ssq.engine = .claiming) (h : ∀ a, s.cpa.claim = some a → a < 3) :
    Undecided s (react old s) := by
  have hkept : grantTest (upkept s) = upkept s := grantTest_of_young (by rw [upkept_cpa]; exact h)
  unfold react; rw [decideBlocks_of_claiming old hengine, ite_test hkept]
  exact (undecided_upkept s).trans (posted_postOrders old (Or.inr (by rw [upkept_ssq, hengine]; decide))).undecided

/-- CLAIMING entered anew stays, with its claim at age 0. -/
theorem react_enterClaiming (old : State) {s : State} (h : s.ssq.engine ≠ .prelube) :
    Undecided (enter .claiming s) (react old (enter .claiming s)) ∧ (enter .claiming s).cpa.claim = some 0 := by
  have hclaim : (enter .claiming s).cpa.claim = some 0 := by rw [enter_claim]; exact if_neg h
  refine ⟨react_of_young old (engine_enter _ _) fun a ha => ?_, hclaim⟩
  rw [hclaim] at ha
  cases ha; decide

/-! ## The reaction in RUNNING -/

/-- The autostop idle timer set. -/
def setIdle (x : Timer) (s : State) : State := { s with ssq := { s.ssq with autostopIdle := x } }

theorem idleUpkeep_of_fresh {s : State} (h : s.ssq.idleElapsed = false) : ∃ x, idleUpkeep s = setIdle x s := by
  refine ⟨(idleUpkeep s).ssq.autostopIdle, ?_⟩
  unfold idleUpkeep setIdle; repeat' split
  · rfl
  · rfl
  · rw [← h]
  · rfl

theorem Undecided.setIdle {s t : State} (h : Undecided s t) (x : Timer) : Undecided (Machine.setIdle x s) (Machine.setIdle x t) where
  ssq := by unfold Machine.setIdle; rw [h.ssq]
  cpa := h.cpa
  faults := h.faults
  records := h.records
  outer := h.outer
  waits := h.waits

/-- With no stop in progress and the idle time not elapsed the engine runs on: of the Start Sequencer the deciding blocks move the
idle timer alone. -/
theorem decideBlocks_of_running (old : State) {s : State} (hengine : s.ssq.engine = .running) (hstop : s.ssq.stopInProgress = false)
    (hidle : s.ssq.idleElapsed = false) : ∃ x, decideBlocks old s = setIdle x (upkept s) := by
  obtain ⟨x, hupkeep⟩ := idleUpkeep_of_fresh (s := upkept s) (by rw [upkept_ssq]; exact hidle)
  have hup : Undecided (setIdle x s) (setIdle x (upkept s)) := (undecided_upkept s).setIdle x
  have hrun : (setIdle x (upkept s)).ssq.engine = .running := hup.engine.trans hengine
  have hs : (setIdle x (upkept s)).ssq.stopInProgress = false := by rw [hup.ssq]; exact hstop
  have hi : (setIdle x (upkept s)).ssq.idleElapsed = false := by rw [hup.ssq]; exact hidle
  refine ⟨x, ?_⟩
  rw [decideBlocks_eq, hupkeep]
  generalize setIdle x (upkept s) = u at hrun hs hi
  simp only [stopToCooldown_of_clear hs]
  rw [ite_test (triggerTest_of_ne (s := u) (by rw [hrun]; decide) (by rw [hrun]; decide)),
    ite_test (clashTest_of_ne (s := u) (by rw [hrun]; decide) (by rw [hrun]; decide)),
    ite_test (grantTest_of_ne (s := u) (by rw [hrun]; decide)), ite_test (contention_of_ne (s := u) (by rw [hrun]; decide)),
    ite_test (autostopTest_of_idle hi)]

theorem react_of_running (old : State) {s : State} (hengine : s.ssq.engine = .running) (hstop : s.ssq.stopInProgress = false)
    (hidle : s.ssq.idleElapsed = false) : ∃ x, Undecided (setIdle x s) (react old s) := by
  obtain ⟨x, hdecided⟩ := decideBlocks_of_running old hengine hstop hidle
  have hup : Undecided (setIdle x s) (setIdle x (upkept s)) := (undecided_upkept s).setIdle x
  refine ⟨x, ?_⟩
  unfold react; rw [hdecided]
  exact hup.trans (posted_postOrders old (Or.inr (by rw [hup.engine]; show s.ssq.engine ≠ _; rw [hengine]; decide))).undecided

theorem enterRunning_idleElapsed (s : State) : (enter .running s).ssq.idleElapsed = false := by
  unfold enter; simp only []
  unfold startRunning; rw [if_pos rfl]
  generalize hu : clearRefusal _ _ = u
  have hfresh : u.ssq.idleElapsed = false := by rw [← hu, clearRefusal_ssq]; rfl
  obtain ⟨x, hupkeep⟩ := idleUpkeep_of_fresh (s := { u with nsp := { u.nsp with dwell := some 0 } }) hfresh
  rw [hupkeep]; exact hfresh

/-- RUNNING entered anew stays. -/
theorem react_enterRunning (old s : State) : ∃ x, Undecided (setIdle x (enter .running s)) (react old (enter .running s)) :=
  react_of_running old (engine_enter .running s) (enter_stopInProgress .running s) (enterRunning_idleElapsed s)

/-- RUNNING entered again from COOLDOWN stays. -/
theorem react_returnRunning (old s : State) : ∃ x, Undecided (setIdle x (setReason .manual (enter .running s)))
    (react old (setReason .manual (enter .running s))) :=
  react_of_running old (engine_enter .running s) (enter_stopInProgress .running s) (enterRunning_idleElapsed s)

/-! ## The request refused (R80) -/

/-- A start request would be refused in STOPPED. -/
def RefusesStart (s : State) : Prop := (s.batteryAtLeast startMinimum && decide (s.clc.linkState ≠ .silenced) && !s.estop) = false

theorem startRequest_of_refused {s : State} (he : s.ssq.engine = .stopped) (h : RefusesStart s) :
    startRequest s = raiseFault .startRefused s := by
  have hrefused : ¬ (s.batteryAtLeast startMinimum && decide (s.clc.linkState ≠ .silenced) && !s.estop) = true := by rw [h]; decide
  unfold startRequest; rw [he]; exact if_neg hrefused

theorem startRequest_of_ready {s : State} (he : s.ssq.engine = .stopped) (h : ¬ RefusesStart s) : startRequest s = enter .claiming s := by
  have hready : (s.batteryAtLeast startMinimum && decide (s.clc.linkState ≠ .silenced) && !s.estop) = true := by
    simpa [RefusesStart, and_assoc] using h
  unfold startRequest; rw [he]; exact if_pos hready

theorem refusesStart_iff {s : State} : RefusesStart s ↔
    s.lmn.sample = none ∨ (∃ v, s.lmn.sample = some v ∧ v < 232) ∨ s.clc.linkState = .silenced ∨ s.estop = true := by
  unfold RefusesStart State.batteryAtLeast startMinimum
  cases s.lmn.sample with
  | none => simp
  | some v =>
    by_cases hsilenced : s.clc.linkState = .silenced <;> cases s.estop <;> simp [hsilenced]

theorem RefusesStart.of_same {s t : State} (h : RefusesStart s) (hlmn : t.lmn = s.lmn)
    (hlink : t.clc.linkState = .silenced ↔ s.clc.linkState = .silenced) : RefusesStart t := by
  rw [refusesStart_iff] at h ⊢
  have hestop : t.estop = s.estop := by unfold State.estop; rw [hlmn]
  rw [hlmn, hlink, hestop]; exact h

theorem disagreeUpkeep_clc (s : State) : (disagreeUpkeep s).clc = s.clc := by
  unfold disagreeUpkeep; repeat' split
  · rfl
  · rfl
  · exact clearFault_clc _ _

/-- The upkeep neither silences the link nor ends a silence. -/
theorem upkept_silenced (s : State) : (upkept s).clc.linkState = .silenced ↔ s.clc.linkState = .silenced := by
  unfold upkept; rw [disagreeUpkeep_clc, linkUpdate_eq]
  show s.linkAfter = .silenced ↔ _
  unfold State.linkAfter
  split
  next h =>
    have hkept : s.clc.linkState ≠ .silenced := by rcases h with h | h <;> rw [h] <;> decide
    have hfollowed : s.joinedOrAlone ≠ .silenced := by rcases joinedOrAlone_follows s with hj | hj <;> rw [hj] <;> decide
    exact iff_of_false hfollowed hkept
  next => exact Iff.rfl

theorem decideBlocks_of_stopped (old : State) {s : State} (he : s.ssq.engine = .stopped) (h : RefusesStart s) :
    decideBlocks old s = upkept s ∨ decideBlocks old s = raiseFault .startRefused (upkept s) := by
  have hu : (upkept s).ssq.engine = .stopped := by rw [upkept_ssq, he]
  have hrefused : RefusesStart (upkept s) := h.of_same (upkept_lmn s) (upkept_silenced s)
  have htested : (if triggerTrigger old (upkept s) then triggerTest (upkept s) else upkept s) = upkept s
      ∨ (if triggerTrigger old (upkept s) then triggerTest (upkept s) else upkept s) = raiseFault .startRefused (upkept s) := by
    rcases ite_test_cases (triggerTrigger old (upkept s) = true) (upkept s) (triggerTest (upkept s)) with ht | ht <;> rw [ht]
    · exact Or.inl rfl
    · rw [triggerTest_of_stopped hu]
      rcases ite_test_cases ((decide ((upkept s).ssq.stopReason = .auto) && (upkept s).autorestartTrigger) = true) (upkept s)
        (startRequest (upkept s)) with h' | h' <;> rw [h']
      · exact Or.inl rfl
      · exact Or.inr (startRequest_of_refused hu hrefused)
  have hengine : ∀ v, v = upkept s ∨ v = raiseFault .startRefused (upkept s) → v.ssq.engine = .stopped := by
    rintro v (rfl | rfl)
    · exact hu
    · rw [raiseFault_ssq, hu]
  have hv := hengine _ htested
  rw [decideBlocks_eq]
  simp only [idleUpkeep_of_ne (s := upkept s) (by rw [hu]; decide), stopToCooldown_of_ne (s := upkept s) (by rw [hu]; decide)]
  generalize (if triggerTrigger old (upkept s) then triggerTest (upkept s) else upkept s) = v at htested hv ⊢
  rw [ite_test (clashTest_of_ne (s := v) (by rw [hv]; decide) (by rw [hv]; decide)),
    ite_test (grantTest_of_ne (s := v) (by rw [hv]; decide)), ite_test (contention_of_ne (s := v) (by rw [hv]; decide)),
    ite_test (autostopTest_of_ne (s := v) (by rw [hv]; decide))]
  exact htested

/-- Where a start request is refused the engine stays in STOPPED, with START_REFUSED if it was active. -/
theorem react_of_refused (old : State) {s : State} (he : s.ssq.engine = .stopped) (h : RefusesStart s) :
    (react old s).ssq.engine = .stopped ∧ (s.faultActive .startRefused = true → (react old s).faultActive .startRefused = true) := by
  have hup (hs : s.faultActive .startRefused = true) : (upkept s).faultActive .startRefused = true := by
    rw [upkept_faultActive (by decide)]; exact hs
  unfold react
  rcases decideBlocks_of_stopped old he h with hd | hd <;> rw [hd]
  · have hposted := posted_postOrders old (s := upkept s) (Or.inr (by rw [upkept_ssq, he]; decide))
    exact ⟨by rw [hposted.engine, upkept_ssq, he], fun hs => by rw [hposted.faultActive]; exact hup hs⟩
  · have hposted := posted_postOrders old (s := raiseFault .startRefused (upkept s))
      (Or.inr (by rw [raiseFault_ssq, upkept_ssq, he]; decide))
    refine ⟨by rw [hposted.engine, raiseFault_ssq, upkept_ssq, he], fun _ => ?_⟩
    rw [hposted.faultActive]; exact raiseFault_active _ _

/-! ## The command -/

/-- The line's level taken as asserted, with its stability timer stopped. -/
def asserted (l : Line) (s : State) : State := setLevel l true (stopStability l s)

theorem exec_startEdge {s : State} (htimer : (s.lmn.lines.get .start).timer.isSome = true)
    (hlevel : (s.lmn.lines.get .start).level = some false) (hpin : s.pins.lines.get .start = true) :
    exec (.lineStabilityExpiry .start) s = .next (react s (startRequest (asserted .start s))) := by
  have hexec := exec_lineStabilityExpiry_of_ne htimer hpin (by rw [hlevel]; decide)
  have htaken : takeLevel .start true (stopStability .start s) = startRequest (asserted .start s) := by
    have hrising : ((stopStability .start s).lmn.lines.get .start).level = some false := by rw [stopStability_level, hlevel]
    unfold takeLevel takeEdge; simp only [hrising]; rfl
  rw [hexec, htaken]

/-- Settles O26: the request by engine state, and the reaction that leaves the engine where it stands. -/
theorem startRequestClaimsOrIsRefused : Obligations.StartRequestClaimsOrIsRefused := by
  refine ⟨fun s htimer hlevel hpin => ⟨fun he => ⟨fun ⟨hsample, hlink, hestop⟩ => ?_, fun h => ?_⟩, fun he => ?_⟩,
    fun s hs hc => ?_⟩
  · have hready : ¬ RefusesStart (asserted .start s) := by
      rw [refusesStart_iff]
      rintro (h | ⟨w, h, hlow⟩ | h | h)
      · obtain ⟨v, hv, -⟩ := hsample
        exact nomatch hv.symm.trans h
      · obtain ⟨v, hv, hhigh⟩ := hsample
        have := Option.some.inj (hv.symm.trans h)
        omega
      · exact hlink h
      · exact nomatch hestop.symm.trans h
    have hstopped : (asserted .start s).ssq.engine = .stopped := he
    obtain ⟨hundecided, hclaim⟩ := react_enterClaiming s (s := asserted .start s) (by rw [hstopped]; decide)
    rw [exec_startEdge htimer hlevel hpin, startRequest_of_ready hstopped hready]
    exact ⟨_, rfl, hundecided.engine.trans (engine_enter _ _), by rw [hundecided.cpa, hclaim],
      by rw [hundecided.stopReason, enter_stopReason]; rfl,
      by rw [hundecided.faults _ (by decide)]; exact enter_startRefused (by decide) _⟩
  · have hrefused : RefusesStart (asserted .start s) := refusesStart_iff.mpr h
    have hstopped : (asserted .start s).ssq.engine = .stopped := he
    have hafter : RefusesStart (raiseFault .startRefused (asserted .start s)) :=
      hrefused.of_same (lmn_of_outer (outer_raiseFault _ _)) (by rw [raiseFault_clc])
    obtain ⟨hengine, hfault⟩ := react_of_refused s (s := raiseFault .startRefused (asserted .start s))
      (by rw [raiseFault_ssq, hstopped]) hafter
    rw [exec_startEdge htimer hlevel hpin, startRequest_of_refused hstopped hrefused]
    exact ⟨_, rfl, hengine, hfault (raiseFault_active _ _)⟩
  · have hcooldown : startRequest (asserted .start s) = setReason .manual (enter .running (asserted .start s)) := by
      have hengine : (asserted .start s).ssq.engine = .cooldown := he
      unfold startRequest; rw [hengine]
    obtain ⟨x, hundecided⟩ := react_returnRunning s (asserted .start s)
    obtain ⟨y, z, hq⟩ := enter_ssq .running (asserted .start s)
    rw [exec_startEdge htimer hlevel hpin, hcooldown]
    refine ⟨_, rfl, ?_, ?_, ?_, ?_, ?_⟩ <;> rw [hundecided.ssq]
    · exact engine_enter _ _
    · rfl
    · show (enter .running (asserted .start s)).ssq.cooldown = none
      rw [hq]; rfl
    · exact enter_stopInProgress _ _
    · show (enter .running (asserted .start s)).ssq.fuelOrder = s.ssq.fuelOrder
      rw [enter_fuelOrder]; exact Bool.and_true _
  · unfold startRequest; split
    next h => exact absurd h hs
    next h => exact absurd h hc
    next => rfl

end Sys2Proof.Machine
end

section
/-! The posting of orders, slot by slot: what the PROTECT slot takes, what each posting leaves of the other slots and of the Notch
Stepper, and how a protective order list and an urgent-unload list come through a reaction (R75, R77, R123). -/

namespace Sys2Proof.Machine

theorem Slot.isEmpty_iff {v : Slot} : v.isEmpty = true ↔ v = .empty := by cases v <;> simp [Slot.isEmpty]

/-! ## The PROTECT slot -/

section
variable {s : State} {o : Order} {rest : List Order}

theorem pumpProtect_of_full (h : s.erc.slots.protect ≠ .empty) : pumpProtect s = s := by
  unfold pumpProtect; rw [if_neg fun he => h (Slot.isEmpty_iff.mp he)]

theorem pumpProtect_of_prot (h : s.erc.slots.protect = .empty) (hl : s.ssq.protList = o :: rest) :
    ∃ x, pumpProtect s = post .protect ⟨o, x, .ssq⟩ (notePosted o { s with ssq := { s.ssq with protList := rest } })
      ∧ (o ≠ .setSpeed → x = 0) := by
  refine ⟨(notePosted o { s with ssq := { s.ssq with protList := rest } }).listArg o, ?_, fun ho => if_neg ho⟩
  unfold pumpProtect; rw [if_pos (Slot.isEmpty_iff.mpr h)]; simp only [hl]

theorem pumpProtect_of_urgent (h : s.erc.slots.protect = .empty) (hl : s.ssq.protList = []) (hu : s.nsp.urgentList = o :: rest) :
    pumpProtect s = post .protect ⟨o, s.listArg o, .nsp⟩ { s with nsp := { s.nsp with urgentList := rest } } := by
  unfold pumpProtect; rw [if_pos (Slot.isEmpty_iff.mpr h)]; simp only [hl, hu]

theorem pumpProtect_of_none (hl : s.ssq.protList = []) (hu : s.nsp.urgentList = []) : pumpProtect s = s := by
  unfold pumpProtect; simp only [hl, hu, ite_self]

end

@[simp] theorem notePosted_nsp (o : Order) (s : State) : (notePosted o s).nsp = s.nsp := by cases o <;> rfl

@[simp] theorem notePosted_protList (o : Order) (s : State) : (notePosted o s).ssq.protList = s.ssq.protList := by cases o <;> rfl

/-- The posting in the PROTECT slot leaves the other slots. -/
theorem pumpProtect_slots_ne {c : Client} (h : c ≠ .protect) (s : State) : (pumpProtect s).erc.slots.get c = s.erc.slots.get c := by
  unfold pumpProtect; repeat' split
  · rw [post_slots_ne h, notePosted_erc]
  · rw [post_slots_ne h]
  · rfl
  · rfl

/-- The posting in the PROTECT slot takes at most the first urgent-unload order from the Notch Stepper. -/
theorem pumpProtect_nsp (s : State) : ∃ l, (pumpProtect s).nsp = { s.nsp with urgentList := l } := by
  unfold pumpProtect; repeat' split
  · exact ⟨s.nsp.urgentList, by rw [post_nsp, notePosted_nsp]⟩
  · exact ⟨_, by rw [post_nsp]⟩
  · exact ⟨s.nsp.urgentList, rfl⟩
  · exact ⟨s.nsp.urgentList, rfl⟩

/-! ## The SEQUENCE slot -/

/-- Where no ENGAGE is refused in CRANKING, the front order of the sequence list is posted, or dropped under ESTOP. -/
theorem pumpSequence_shape {s : State} (h : s.estop = false ∨ s.ssq.engine ≠ .cranking) : pumpSequence s = s
    ∨ ∃ o rest, pumpSequence s = notePosted o { s with ssq := { s.ssq with seqList := rest } }
      ∨ ∃ r, pumpSequence s = post .sequence r (notePosted o { s with ssq := { s.ssq with seqList := rest } }) := by
  unfold pumpSequence; split
  next =>
    split
    next o rest hlist =>
      have hnoted := posted_notePosted o { s with ssq := { s.ssq with seqList := rest } }
      refine Or.inr ⟨o, rest, ?_⟩
      simp only []; split
      next he =>
        have hestop : s.estop = true := hnoted.estop.symm.trans he
        have hcrank : s.ssq.engine ≠ .cranking := h.resolve_left (by simp [hestop])
        exact Or.inl (seqEnding_inhibited he (Or.inr (by rw [hnoted.engine]; exact hcrank)))
      next => exact Or.inr ⟨_, rfl⟩
    next => exact Or.inl rfl
  next => exact Or.inl rfl

theorem pumpSequence_leaves {s : State} (h : s.estop = false ∨ s.ssq.engine ≠ .cranking) : (pumpSequence s).nsp = s.nsp
    ∧ (pumpSequence s).ssq.protList = s.ssq.protList ∧ ∀ c, c ≠ .sequence → (pumpSequence s).erc.slots.get c = s.erc.slots.get c := by
  rcases pumpSequence_shape h with hp | ⟨o, rest, hp | ⟨r, hp⟩⟩ <;> rw [hp]
  · exact ⟨rfl, rfl, fun _ _ => rfl⟩
  · exact ⟨notePosted_nsp _ _, notePosted_protList _ _, fun _ _ => by rw [notePosted_erc]⟩
  · exact ⟨(post_nsp _ _ _).trans (notePosted_nsp _ _), by rw [post_ssq, notePosted_protList],
      fun c hc => by rw [post_slots_ne hc, notePosted_erc]⟩

/-! ## The step test -/

theorem freeToStep_of_urgent {s : State} (h : s.nsp.urgentList ≠ []) : s.freeToStep = false := by
  unfold State.freeToStep
  cases hl : s.nsp.urgentList with
  | nil => exact absurd hl h
  | cons o rest => simp

/-- A busy Notch Stepper starts no step. -/
theorem stepTest_of_busy {s : State} (h : s.freeToStep = false) : stepTest s = s := by
  simp [stepTest, State.upStepDue, State.downStepDue, State.retryDue, h]

/-- The step test posts in the NOTCH slot alone, and leaves the Start Sequencer. -/
theorem stepTest_leaves (s : State) : (stepTest s).ssq = s.ssq
    ∧ ∀ c, c ≠ .notch → (stepTest s).erc.slots.get c = s.erc.slots.get c := by
  have hpost (r : Request) (u : State) : (post .notch r u).ssq = u.ssq
      ∧ ∀ c, c ≠ .notch → (post .notch r u).erc.slots.get c = u.erc.slots.get c :=
    ⟨post_ssq _ _ _, fun c hc => post_slots_ne hc r u⟩
  rcases stepTest_cases s with ⟨-, h⟩ | ⟨-, h⟩ | ⟨-, h⟩ | ⟨-, -, -, h⟩ <;> rw [h]
  · unfold startUp; simp only []; split
    · exact ⟨rfl, fun _ _ => rfl⟩
    · exact hpost _ _
  · unfold startDown; simp only []; split
    · exact ⟨rfl, fun _ _ => rfl⟩
    · exact hpost _ _
  · unfold startRetry; simp only []; split
    · exact ⟨rfl, fun _ _ => rfl⟩
    · exact hpost _ _
  · exact ⟨rfl, fun _ _ => rfl⟩

/-! ## All postings of a reaction -/

section
variable {s : State} (h : s.estop = false ∨ s.ssq.engine ≠ .cranking)
include h

theorem pumpProtect_ready : (pumpProtect s).estop = false ∨ (pumpProtect s).ssq.engine ≠ .cranking := by
  rw [(posted_pumpProtect s).estop, (posted_pumpProtect s).engine]; exact h

/-- What stands in the PROTECT slot and in the protective list after a reaction's postings. -/
theorem postOrders_protect (old : State) : (postOrders old s).erc.slots.protect = (pumpProtect s).erc.slots.protect
    ∧ (postOrders old s).ssq.protList = (pumpProtect s).ssq.protList := by
  obtain ⟨-, hlist, hslots⟩ := pumpSequence_leaves (pumpProtect_ready h)
  have hslot : (pumpSequence (pumpProtect s)).erc.slots.protect = (pumpProtect s).erc.slots.protect := hslots .protect (by decide)
  unfold postOrders; simp only []; split
  · obtain ⟨hssq, htest⟩ := stepTest_leaves (pumpSequence (pumpProtect s))
    exact ⟨(htest .protect (by decide)).trans hslot, by rw [hssq]; exact hlist⟩
  · exact ⟨hslot, hlist⟩

/-- With urgent-unload orders left to post no step starts. -/
theorem postOrders_of_urgent (old : State) (hu : (pumpProtect s).nsp.urgentList ≠ []) :
    (postOrders old s).nsp = (pumpProtect s).nsp ∧ (postOrders old s).erc.slots.notch = s.erc.slots.notch := by
  obtain ⟨hnsp, -, hslots⟩ := pumpSequence_leaves (pumpProtect_ready h)
  have hbusy : stepTest (pumpSequence (pumpProtect s)) = pumpSequence (pumpProtect s) :=
    stepTest_of_busy (freeToStep_of_urgent (by rw [hnsp]; exact hu))
  have hnotch : (pumpSequence (pumpProtect s)).erc.slots.notch = s.erc.slots.notch :=
    (hslots .notch (by decide)).trans (pumpProtect_slots_ne (c := .notch) (by decide) s)
  unfold postOrders; simp only [hbusy, ite_self]
  exact ⟨hnsp, hnotch⟩

end

/-! ## Protective orders on their way (R77) -/

/-- A protective list that has been built stands in the PROTECT slot and behind it after the postings, as the statements say. -/
theorem protectiveOrdersWait_of_postOrders {a s : State} {l : List Order} (old : State) (h : s.estop = false ∨ s.ssq.engine ≠ .cranking)
    (hslot : s.erc.slots.protect = a.erc.slots.protect) (hlist : s.ssq.protList = l) (hurgent : s.nsp.urgentList = [])
    (hl : ∀ o ∈ l, o ≠ .setSpeed) : ProtectiveOrdersWait l a (postOrders old s) := by
  obtain ⟨hprotect, hprot⟩ := postOrders_protect h old
  unfold ProtectiveOrdersWait
  rw [hprotect, hprot, ← hslot]
  by_cases hempty : s.erc.slots.protect = .empty
  · rw [if_pos hempty]
    cases l with
    | nil => rw [pumpProtect_of_none hlist hurgent, hempty]; exact ⟨rfl, hlist⟩
    | cons o rest =>
      obtain ⟨x, hpump, hx⟩ := pumpProtect_of_prot hempty hlist
      have hrequest : (pumpProtect s).erc.slots.protect.request = some ⟨o, x, .ssq⟩ := by rw [hpump]; exact post_request .protect _ _
      rw [hrequest, hpump, post_ssq, notePosted_protList, hx (hl o List.mem_cons_self)]
      exact ⟨rfl, rfl⟩
  · rw [if_neg hempty, pumpProtect_of_full hempty]
    exact ⟨rfl, hlist⟩

/-! ## What an entry does to the Notch Stepper and the channel (R73, R90, R124) -/

theorem endWatch_erc (s : State) : (endWatch s).erc = s.erc := clearFault_erc _ _

theorem endWatch_nsp (s : State) : (endWatch s).nsp = { s.nsp with watch := none } := clearFault_nsp _ _

@[simp] theorem clearRefusal_nsp (n : EngineState) (s : State) : (clearRefusal n s).nsp = s.nsp := by
  unfold clearRefusal; split
  · rfl
  · exact clearFault_nsp _ _

@[simp] theorem clearRefusal_erc (n : EngineState) (s : State) : (clearRefusal n s).erc = s.erc := by
  unfold clearRefusal; split
  · rfl
  · exact clearFault_erc _ _

@[simp] theorem idleUpkeep_nsp (s : State) : (Machine.idleUpkeep s).nsp = s.nsp := by
  unfold Machine.idleUpkeep; repeat' split
  all_goals rfl

@[simp] theorem idleUpkeep_erc (s : State) : (Machine.idleUpkeep s).erc = s.erc := by
  unfold Machine.idleUpkeep; repeat' split
  all_goals rfl

theorem enter_nsp_of_ne {n : EngineState} (hn : n ≠ .running) (s : State) : (enter n s).nsp = (nspOnLeave s.ssq.engine n s).nsp := by
  unfold enter; simp only []
  rw [startRunning_of_ne hn, clearRefusal_nsp]

theorem startRunning_erc (n : EngineState) (s : State) : (startRunning n s).erc = s.erc := by
  unfold startRunning; split
  · rw [idleUpkeep_erc]
  · rfl

theorem enter_erc (n : EngineState) (s : State) : (enter n s).erc = (nspOnLeave s.ssq.engine n s).erc := by
  unfold enter; simp only []
  rw [startRunning_erc, clearRefusal_erc]

theorem enterRunning_nsp (s : State) : (enter .running s).nsp = { (nspOnLeave s.ssq.engine .running s).nsp with dwell := some 0 } := by
  unfold enter; simp only []
  unfold startRunning; rw [if_pos rfl, idleUpkeep_nsp, clearRefusal_nsp]

theorem nspOnLeave_of_still {m n : EngineState} (hm : m ≠ .running) (h : m ≠ .cooldown ∨ n = .running) (s : State) :
    nspOnLeave m n s = s := by
  unfold nspOnLeave
  rw [if_neg hm, if_neg fun hc => h.elim (fun h => h hc.1) (fun h => hc.2 h)]

theorem enterCooldown_of_running {s : State} (hr : s.ssq.engine = .running) :
    (enter .cooldown s).nsp = { s.nsp with abandonHold := none, dwell := none, watch := none } ∧ (enter .cooldown s).erc = s.erc := by
  rw [enter_nsp_of_ne (by decide), enter_erc, hr]
  unfold nspOnLeave; rw [if_pos rfl, if_pos rfl]
  exact ⟨endWatch_nsp { s with nsp := { s.nsp with abandonHold := none, dwell := none } }, endWatch_erc _⟩

/-! ## The urgent unload through a reaction (R122, R123) -/

/-- The urgent unload taken: the notch given up, nothing of a step left, and both orders listed. -/
structure Unloading (s : State) : Prop where
  completed : s.nsp.completed = 0
  step : s.nsp.step = none
  notch : s.erc.slots.notch.isPending = false
  hold : s.nsp.abandonHold = none
  owed : s.nsp.governorOwed = false
  watch : s.nsp.watch = none
  urgent : s.nsp.urgentList = [.unload, .setSpeed]
  engine : s.ssq.engine = .running ∨ s.ssq.engine = .cooldown

theorem withdraw_not_pending (c : Client) (s : State) : ((withdraw c s).erc.slots.get c).isPending = false := by
  unfold withdraw; split
  · show ((s.erc.slots.set c .empty).get c).isPending = false
    rw [PerClient.get_set]; rfl
  next h => simpa using h

@[simp] theorem withdraw_nsp (c : Client) (s : State) : (withdraw c s).nsp = s.nsp := by unfold withdraw; split <;> rfl

theorem unloading_urgentUnload {s : State} (h : s.ssq.engine = .running) : Unloading (urgentUnload s) where
  completed := rfl
  step := by unfold urgentUnload dropStep; simp only []
  notch := withdraw_not_pending .notch s
  hold := rfl
  owed := rfl
  watch := rfl
  urgent := rfl
  engine := Or.inl (by unfold urgentUnload dropStep; simpa using h)

section
variable {s : State} (h : Unloading s)
include h

/-- What leaves the Notch Stepper and the NOTCH slot, but for the clocks, leaves the unload as it stands. -/
theorem Unloading.of_same {t : State} (hengine : t.ssq.engine = .running ∨ t.ssq.engine = .cooldown) (herc : t.erc = s.erc)
    (hnsp : ∃ x y, t.nsp = { s.nsp with disagreeTimer := x, dwell := y }) : Unloading t := by
  obtain ⟨x, y, hnsp⟩ := hnsp
  refine ⟨?_, ?_, by rw [herc]; exact h.notch, ?_, ?_, ?_, ?_, hengine⟩ <;> rw [hnsp]
  exacts [h.completed, h.step, h.hold, h.owed, h.watch, h.urgent]

theorem Unloading.upkept : Unloading (Machine.upkept s) := by
  obtain ⟨x, hx⟩ := upkept_nsp s
  exact h.of_same (by rw [upkept_ssq]; exact h.engine) (upkept_erc s) ⟨x, s.nsp.dwell, hx⟩

theorem Unloading.idleUpkeep : Unloading (Machine.idleUpkeep s) := by
  unfold Machine.idleUpkeep; repeat' split
  all_goals exact h.of_same h.engine rfl ⟨s.nsp.disagreeTimer, s.nsp.dwell, rfl⟩

theorem Unloading.enterCooldown (hr : s.ssq.engine = .running) (r : StopReason) : Unloading (setReason r (enter .cooldown s)) := by
  obtain ⟨hnsp, herc⟩ := enterCooldown_of_running hr
  refine h.of_same (Or.inr (engine_enter _ _)) herc ⟨s.nsp.disagreeTimer, none, ?_⟩
  show (enter .cooldown s).nsp = _
  rw [hnsp, ← h.hold, ← h.watch]

theorem Unloading.enterRunning (hc : s.ssq.engine = .cooldown) (r : StopReason) : Unloading (setReason r (enter .running s)) := by
  have hkept : nspOnLeave s.ssq.engine .running s = s := nspOnLeave_of_still (by rw [hc]; decide) (Or.inr rfl) s
  refine h.of_same (Or.inl (engine_enter _ _)) ((enter_erc _ _).trans (by rw [hkept])) ⟨s.nsp.disagreeTimer, some 0, ?_⟩
  show (enter .running s).nsp = _
  rw [enterRunning_nsp, hkept]

theorem Unloading.stopToCooldown : Unloading (Machine.stopToCooldown s) := by
  by_cases hr : s.ssq.engine = .running
  · rcases stopToCooldown_cases s with hs | hs <;> rw [hs]
    · exact h
    · exact h.enterCooldown hr _
  · rw [stopToCooldown_of_ne hr]; exact h

theorem Unloading.autostopTest : Unloading (Machine.autostopTest s) := by
  by_cases hr : s.ssq.engine = .running
  · unfold Machine.autostopTest; split
    · exact h.enterCooldown hr _
    · exact h
  · rw [autostopTest_of_ne hr]; exact h

theorem Unloading.triggerTest : Unloading (Machine.triggerTest s) := by
  unfold Machine.triggerTest; split
  · split
    next he => rcases h.engine with hr | hr <;> rw [hr] at he <;> cases he
    next he => exact h.enterRunning he _
    next => exact h
  · exact h

theorem Unloading.contention : Unloading (Machine.contention s) := by
  unfold Machine.contention; split
  · split
    next hc =>
      simp only [Bool.and_eq_true, decide_eq_true_eq] at hc
      obtain ⟨⟨he, -⟩, -⟩ := hc
      exact h.enterRunning he _
    next => exact h
  · exact h

theorem Unloading.decideBlocks (old : State) : Unloading (Machine.decideBlocks old s) := by
  have hne {n : EngineState} {u : State} (hu : Unloading u) (hr : n ≠ .running) (hc : n ≠ .cooldown) : u.ssq.engine ≠ n := by
    rcases hu.engine with he | he <;> rw [he]
    · exact hr.symm
    · exact hc.symm
  refine decideBlocks_keep (P := Unloading) (fun _ hu => hu.upkept) (fun _ hu => hu.idleUpkeep) (fun _ hu => hu.stopToCooldown)
    (fun _ hu => hu.triggerTest) (fun u hu => ?_) (fun u hu => ?_) (fun _ hu => hu.contention) (fun _ hu => hu.autostopTest) old h
  · rw [clashTest_of_ne (hne hu (by decide) (by decide)) (hne hu (by decide) (by decide))]; exact hu
  · rw [grantTest_of_ne (hne hu (by decide) (by decide))]; exact hu

theorem Unloading.not_cranking : s.estop = false ∨ s.ssq.engine ≠ .cranking := by
  rcases h.engine with he | he <;> exact Or.inr (by rw [he]; decide)

/-- The first order of the unload is posted, or waits behind what the PROTECT slot holds or the protective list brings. -/
theorem Unloading.pumpProtect : (Machine.pumpProtect s).nsp = s.nsp
    ∨ ((Machine.pumpProtect s).nsp = { s.nsp with urgentList := [.setSpeed] }
      ∧ (Machine.pumpProtect s).erc.slots.protect.request.map Request.order = some .unload) := by
  by_cases hempty : s.erc.slots.protect = .empty
  · cases hl : s.ssq.protList with
    | nil =>
      rw [pumpProtect_of_urgent hempty hl h.urgent]
      exact Or.inr ⟨post_nsp _ _ _, congrArg (Option.map Request.order) (post_request .protect _ _)⟩
    | cons o rest =>
      obtain ⟨x, hpump, -⟩ := pumpProtect_of_prot hempty hl
      rw [hpump]
      exact Or.inl ((post_nsp _ _ _).trans (notePosted_nsp _ _))
  · rw [pumpProtect_of_full hempty]; exact Or.inl rfl

end

/-- An urgent unload after the reaction is as the statements say, where its cause holds the cap at 0. -/
theorem urgentUnload_react {a s : State} (old : State) (h : Unloading s) (hcap : (react old s).cap = 0)
    (hdwell : a.ssq.stopInProgress = false → a.ssq.idleElapsed = false →
      s.ssq.engine = .running ∧ s.ssq.stopInProgress = false ∧ s.ssq.idleElapsed = false ∧ s.nsp.dwell = some 0) :
    UrgentUnload a (react old s) := by
  have hdecided := h.decideBlocks old
  have hready := hdecided.not_cranking
  have hrest : (pumpProtect (decideBlocks old s)).nsp.urgentList ≠ [] := by
    rcases hdecided.pumpProtect with hp | ⟨hp, -⟩ <;> rw [hp]
    · rw [hdecided.urgent]; exact List.cons_ne_nil _ _
    · exact List.cons_ne_nil _ _
  obtain ⟨hnsp, hnotch⟩ := postOrders_of_urgent hready old hrest
  obtain ⟨hprotect, -⟩ := postOrders_protect hready old
  have hclock (hs : a.ssq.stopInProgress = false) (hi : a.ssq.idleElapsed = false) : (decideBlocks old s).nsp.dwell = some 0 := by
    obtain ⟨hr, hstop, hidle, hd⟩ := hdwell hs hi
    obtain ⟨x, hx⟩ := upkept_nsp s
    obtain ⟨y, hy⟩ := decideBlocks_of_running old hr hstop hidle
    rw [hy]
    show (upkept s).nsp.dwell = some 0
    rw [hx]; exact hd
  have hreact : react old s = postOrders old (decideBlocks old s) := rfl
  rw [hreact] at hcap ⊢
  generalize decideBlocks old s = d at hcap hdecided hready hrest hnsp hnotch hprotect hclock ⊢
  have hlist : (postOrders old d).nsp.urgentList = [.unload, .setSpeed] ∨ ((postOrders old d).nsp.urgentList = [.setSpeed]
      ∧ (postOrders old d).erc.slots.protect.request.map Request.order = some .unload) := by
    rw [hnsp, hprotect]
    rcases hdecided.pumpProtect with hp | ⟨hp, horder⟩
    · rw [hp]; exact Or.inl hdecided.urgent
    · exact Or.inr ⟨by rw [hp], horder⟩
  obtain ⟨l, hl⟩ := pumpProtect_nsp d
  rw [hl] at hnsp
  generalize postOrders old d = t at hcap hnsp hnotch hlist ⊢
  refine ⟨?_, ?_, ?_, ?_, ?_, ?_, hcap, hlist, fun hs hi => ?_⟩
  · rw [hnsp]; exact hdecided.completed
  · rw [hnsp]; exact hdecided.step
  · rw [hnotch]; exact hdecided.notch
  · rw [hnsp]; exact hdecided.hold
  · rw [hnsp]; exact hdecided.owed
  · rw [hnsp]; exact hdecided.watch
  · rw [hnsp]; exact hclock hs hi

end Sys2Proof.Machine
end

section
/-! Obligations O31, O32 and O38: the isolation, the demand code, and the step tests that find nothing due. -/

namespace Sys2Proof.Machine

/-! ## Step tests (R112, R116) -/

theorem exec_abandonHoldExpiry {s : State} (h : s.nsp.abandonHold.isSome = true) :
    exec .abandonHoldExpiry s = .next (stepTest { s with nsp := { s.nsp with abandonHold := none } }) := by
  have hexec : exec .abandonHoldExpiry s = execAbandonHoldExpiry s := rfl
  rw [hexec]; unfold execAbandonHoldExpiry
  rw [if_neg (by simpa using Option.isSome_iff_ne_none.mp h)]

theorem exec_dwellClockReached {m : DwellMark} {ms : Nat} {s : State} (hmark : s.dwellMark m = some ms)
    (h : s.nsp.dwell.isSome = true) : exec (.dwellClockReached m) s = .next (stepTest (reachDwell ms s)) := by
  have hexec : exec (.dwellClockReached m) s = execDwellClockReached m s := rfl
  rw [hexec]; unfold execDwellClockReached
  simp only [hmark]
  rw [if_neg (by simpa using Option.isSome_iff_ne_none.mp h)]

theorem startDown_of_free {s : State} (hestop : s.estop = false) :
    startDown s = postLoad (s.nsp.completed - 1) (setStep (some ⟨.down, s.nsp.completed, s.nsp.completed - 1, .first, false⟩) s) := by
  have hset : ¬ (setStep (some ⟨.down, s.nsp.completed, s.nsp.completed - 1, .first, false⟩) s).estop = true := by
    rw [setStep_estop, hestop]; decide
  exact if_neg hset

theorem startUp_of_free {s : State} (hestop : s.estop = false) :
    startUp s = postSpeed (s.nsp.completed + 1) (setStep (some ⟨.up, s.nsp.completed, s.nsp.completed + 1, .first, false⟩) s) := by
  have hset : ¬ (setStep (some ⟨.up, s.nsp.completed, s.nsp.completed + 1, .first, false⟩) s).estop = true := by
    rw [setStep_estop, hestop]; decide
  exact if_neg hset

theorem reachDwell_of_dwell {d ms : Nat} {s : State} (h : s.nsp.dwell = some d) :
    reachDwell ms s = { s with nsp := { s.nsp with dwell := some (max ms d) } } := by
  unfold reachDwell; rw [h]; rfl

/-- Settles O38: at its target with nothing owed the Notch Stepper starts no step; above it with the dwell over, a down-step. -/
theorem stepTestsFindNothingDue : Obligations.StepTestsFindNothingDue := by
  refine ⟨fun s hhold htarget howed => ?_, fun d s hdwell htarget howed => ?_, fun d s hhold hdwell hestop hfree htarget hd => ?_⟩
  · rw [exec_abandonHoldExpiry hhold, stepTest_of_settled (s := { s with nsp := { s.nsp with abandonHold := none } }) htarget howed]
  · have hmark : s.dwellMark .down = some 1000 := rfl
    rw [exec_dwellClockReached hmark (by rw [hdwell]; rfl), reachDwell_of_dwell hdwell,
      stepTest_of_settled (s := { s with nsp := { s.nsp with dwell := some (max 1000 d) } }) htarget howed]
  · have hdue : State.downStepDue { s with nsp := { s.nsp with abandonHold := none } } = true :=
      downStepDue_iff.mpr ⟨htarget, hfree, dwellReached_iff.mpr ⟨d, hdwell, hd⟩⟩
    have hkept : State.estop { s with nsp := { s.nsp with abandonHold := none } } = false := hestop
    rw [exec_abandonHoldExpiry hhold, stepTest_of_downStepDue hdue]
    refine ⟨_, rfl, ?_, ?_⟩
    · rw [startDown_of_free hkept, postLoad_nsp]; rfl
    · rw [startDown_step, hkept]; rfl

/-! ## The completed notch through a reaction -/

/-- The Notch Stepper carries a notch and has no urgent-unload order. -/
def Carries (c : Nat) (s : State) : Prop := s.nsp.completed = c ∧ s.nsp.urgentList = []

section
variable {c : Nat} {s : State} (h : Carries c s)
include h

theorem Carries.of_nsp {t : State} (ht : t.nsp.completed = s.nsp.completed ∧ t.nsp.urgentList = s.nsp.urgentList) : Carries c t := by
  unfold Carries; rw [ht.1, ht.2]; exact h

theorem Carries.enterStill {n : EngineState} (hr : s.ssq.engine ≠ .running) : Carries c (enter n s) := by
  have hdrop (u : State) : (dropStep u).nsp = { u.nsp with step := none } := by
    show { (withdraw .notch u).nsp with step := none } = _
    rw [withdraw_nsp]
  have hleave : Carries c (nspOnLeave s.ssq.engine n s) := by
    unfold nspOnLeave; rw [if_neg hr]; split
    · refine h.of_nsp ?_
      simp only [endWatch_nsp, hdrop, and_self]
    · exact h
  by_cases hn : n = .running
  · subst hn; refine hleave.of_nsp ?_
    rw [enterRunning_nsp]; exact ⟨rfl, rfl⟩
  · refine hleave.of_nsp ?_
    rw [enter_nsp_of_ne hn]; exact ⟨rfl, rfl⟩

theorem Carries.enterCooldown (hr : s.ssq.engine = .running) : Carries c (enter .cooldown s) := by
  refine h.of_nsp ?_
  rw [(enterCooldown_of_running hr).1]; exact ⟨rfl, rfl⟩

omit h in
@[simp] theorem addSeq_nsp (o : Order) (s : State) : (addSeq o s).nsp = s.nsp := by
  unfold addSeq; split
  · rfl
  · cases o <;> rfl

omit h in
@[simp] theorem addStopIfHeld_nsp (s : State) : (addStopIfHeld s).nsp = s.nsp := by
  unfold addStopIfHeld; split
  · exact addSeq_nsp _ _
  · rfl

theorem Carries.addSeq (o : Order) : Carries c (Machine.addSeq o s) := h.of_nsp (by rw [addSeq_nsp]; exact ⟨rfl, rfl⟩)

theorem Carries.addStopIfHeld : Carries c (Machine.addStopIfHeld s) := h.of_nsp (by rw [addStopIfHeld_nsp]; exact ⟨rfl, rfl⟩)

theorem Carries.enterCrankRest (hr : s.ssq.engine ≠ .running) : Carries c (Machine.enterCrankRest s) := (h.enterStill hr).addStopIfHeld

theorem Carries.raise (k : FaultKind) : Carries c (raiseFault k s) := h.of_nsp (by rw [raiseFault_nsp]; exact ⟨rfl, rfl⟩)

theorem Carries.startRequest : Carries c (Machine.startRequest s) := by
  unfold Machine.startRequest; repeat' split
  next he _ => exact h.enterStill (by rw [he]; decide)
  next => exact h.raise _
  next he => exact h.enterStill (by rw [he]; decide)
  next => exact h

theorem Carries.triggerTest : Carries c (Machine.triggerTest s) := by
  unfold Machine.triggerTest; repeat' split
  next => exact h.startRequest
  next he => exact h.enterStill (by rw [he]; decide)
  next => exact h
  next => exact h

theorem Carries.stopToCooldown : Carries c (Machine.stopToCooldown s) := by
  by_cases hr : s.ssq.engine = .running
  · rcases stopToCooldown_cases s with hs | hs <;> rw [hs]
    · exact h
    · exact h.enterCooldown hr
  · rw [stopToCooldown_of_ne hr]; exact h

theorem Carries.autostopTest : Carries c (Machine.autostopTest s) := by
  by_cases hr : s.ssq.engine = .running
  · unfold Machine.autostopTest; split
    · exact h.enterCooldown hr
    · exact h
  · rw [autostopTest_of_ne hr]; exact h

theorem Carries.clashTest : Carries c (Machine.clashTest s) := by
  have hcount : Carries c (countYield s) := h
  have hr (o : Order) (he : s.ssq.engine ≠ .running) : (Machine.addSeq o (countYield s)).ssq.engine ≠ .running := by
    rw [engine_addSeq]; exact he
  unfold Machine.clashTest; split
  · by_cases hp : s.ssq.engine = .prelube
    · rw [yieldPermit_of_prelube hp]
      exact (hcount.addSeq .stop).enterStill (hr _ (by rw [hp]; decide))
    · by_cases hk : s.ssq.engine = .cranking
      · rw [yieldPermit_of_cranking hk]
        exact (hcount.addSeq .disengage).enterCrankRest (hr _ (by rw [hk]; decide))
      · have hkept : yieldPermit s = countYield s := by
          unfold yieldPermit; simp only []; rfl
        rw [hkept]; exact hcount
  · exact h

theorem Carries.grantTest : Carries c (Machine.grantTest s) := by
  unfold Machine.grantTest; split
  next hc =>
    simp only [Bool.and_eq_true, decide_eq_true_eq] at hc
    exact (h.enterStill (by rw [hc.1]; decide)).addSeq .run
  next => exact h

theorem Carries.contention : Carries c (Machine.contention s) := by
  unfold Machine.contention; split
  · split
    next hc =>
      simp only [Bool.and_eq_true, decide_eq_true_eq] at hc
      obtain ⟨⟨he, -⟩, -⟩ := hc
      exact h.enterStill (by rw [he]; decide)
    next => exact h
  · exact h

theorem Carries.upkept : Carries c (Machine.upkept s) := by
  obtain ⟨x, hx⟩ := upkept_nsp s
  exact h.of_nsp (by rw [hx]; exact ⟨rfl, rfl⟩)

theorem Carries.decideBlocks (old : State) : Carries c (Machine.decideBlocks old s) :=
  decideBlocks_keep (P := Carries c) (fun _ hu => hu.upkept) (fun _ hu => hu.of_nsp (by rw [idleUpkeep_nsp]; exact ⟨rfl, rfl⟩))
    (fun _ hu => hu.stopToCooldown) (fun _ hu => hu.triggerTest) (fun _ hu => hu.clashTest) (fun _ hu => hu.grantTest)
    (fun _ hu => hu.contention) (fun _ hu => hu.autostopTest) old h

theorem Carries.attemptCounted (x : Cause) : Carries c (Machine.attemptCounted x s) := by
  unfold Machine.attemptCounted countAttempt
  have hadded : Carries c (Machine.addStopIfHeld (if s.ssq.engine = .cranking then Machine.addSeq .disengage s else s)) := by
    split
    · exact (h.addSeq _).addStopIfHeld
    · exact h.addStopIfHeld
  exact hadded.of_nsp (by rw [raiseCrankFail_nsp]; exact ⟨rfl, rfl⟩)

omit h in
theorem attemptCounted_engine (x : Cause) (s : State) : (Machine.attemptCounted x s).ssq.engine = s.ssq.engine := by
  unfold Machine.attemptCounted
  rw [engine_raiseCrankFail]
  show (Machine.addStopIfHeld _).ssq.engine = _
  rw [engine_addStopIfHeld]
  exact ite_engine (engine_addSeq _ _)

theorem Carries.failedAttempt (hr : s.ssq.engine ≠ .running) (x : Cause) : Carries c (Machine.failedAttempt x s) := by
  have hcounted := h.attemptCounted x
  have hne : (Machine.attemptCounted x s).ssq.engine ≠ .running := by rw [attemptCounted_engine]; exact hr
  rw [failedAttempt_eq]; split
  · exact (hcounted.raise _).enterStill (by rw [raiseFault_ssq]; exact hne)
  · exact hcounted.enterCrankRest hne

theorem Carries.pumpProtect : Carries c (Machine.pumpProtect s) := by
  unfold Machine.pumpProtect; repeat' split
  · exact h.of_nsp (by rw [post_nsp, notePosted_nsp]; exact ⟨rfl, rfl⟩)
  next hu => rw [h.2] at hu; cases hu
  · exact h
  · exact h

theorem Carries.pumpSequence : Carries c (Machine.pumpSequence s) := by
  by_cases hready : s.estop = false ∨ s.ssq.engine ≠ .cranking
  · exact h.of_nsp (by rw [(pumpSequence_leaves hready).1]; exact ⟨rfl, rfl⟩)
  · obtain ⟨hestop, hcrank⟩ := not_or.mp hready
    have hcrank : s.ssq.engine = .cranking := not_not.mp hcrank
    unfold Machine.pumpSequence; split
    next =>
      split
      next o rest hlist =>
        have hnoted : Carries c (notePosted o { s with ssq := { s.ssq with seqList := rest } }) :=
          h.of_nsp (by rw [notePosted_nsp]; exact ⟨rfl, rfl⟩)
        have hkept := posted_notePosted o { s with ssq := { s.ssq with seqList := rest } }
        have he : (notePosted o { s with ssq := { s.ssq with seqList := rest } }).estop = true :=
          hkept.estop.trans (Bool.not_eq_false _ ▸ hestop)
        simp only [he, if_true]
        by_cases ho : o = .engage
        · subst ho
          simp only [seqEnding]
          rw [if_pos (hkept.engine.trans hcrank)]
          exact hnoted.failedAttempt (by rw [hkept.engine]; show s.ssq.engine ≠ _; rw [hcrank]; decide) _
        · rw [seqEnding_inhibited he (Or.inl ho)]; exact hnoted
      next => exact h
    next => exact h

theorem Carries.stepTest : Carries c (Machine.stepTest s) := by
  have hpost (r : Request) (u : State) (hu : Carries c u) : Carries c (post .notch r u) :=
    hu.of_nsp (by rw [post_nsp]; exact ⟨rfl, rfl⟩)
  rcases stepTest_cases s with ⟨-, hs⟩ | ⟨-, hs⟩ | ⟨-, hs⟩ | ⟨-, -, -, hs⟩ <;> rw [hs]
  · unfold startUp; simp only []; split
    · exact h
    · exact hpost _ _ h
  · unfold startDown; simp only []; split
    · exact h
    · exact hpost _ _ h
  · unfold startRetry; simp only []; split
    · exact h
    · exact hpost _ _ h
  · exact h

/-- No reaction moves the completed notch, and none lists an urgent-unload order. -/
theorem Carries.react (old : State) : Carries c (Machine.react old s) := by
  have hpumped := (h.decideBlocks old).pumpProtect.pumpSequence
  unfold Machine.react postOrders; simp only []; split
  · exact hpumped.stepTest
  · exact hpumped

end

/-! ## The isolation (R122, R157) -/

theorem cap_of_isolated {s : State} (h : s.isolated = true) : s.cap = 0 := by simp [State.cap, h]

theorem isolated_of_outer {s t : State} (h : t.outer = s.outer) : t.isolated = s.isolated := by
  unfold State.isolated; rw [lmn_of_outer h]

theorem exec_isolation {s : State} (htimer : (s.lmn.lines.get .runIso).timer.isSome = true)
    (hlevel : (s.lmn.lines.get .runIso).level = some false) (hpin : s.pins.lines.get .runIso = true) :
    exec (.lineStabilityExpiry .runIso) s = .next (react s (urgentTest (asserted .runIso s))) := by
  have hexec := exec_lineStabilityExpiry_of_ne htimer hpin (by rw [hlevel]; decide)
  have hchange : (stopStability .runIso s).isolated = false := by
    have hlevel' : s.lmn.lines.runIso.level = some false := hlevel
    show (s.lmn.lines.runIso.level).getD true = false
    rw [hlevel']; rfl
  have htaken : takeLevel .runIso true (stopStability .runIso s) = urgentTest (asserted .runIso s) := by
    unfold takeLevel; simp only [hchange]; rfl
  rw [hexec, htaken]

/-- Settles O31: the isolation is an urgent cause for a RUNNING engine that carries a notch or steps, and holds the cap at 0. -/
theorem isolationUnloadsAtOnce : Obligations.IsolationUnloadsAtOnce := by
  have hisolated (s u : State) (hu : u.outer = (asserted .runIso s).outer) : (react s u).cap = 0 := by
    refine cap_of_isolated ((isolated_of_outer ((outer_react s u).trans hu)).trans ?_)
    rfl
  refine ⟨fun s htimer hlevel hpin hr hdue => ?_, fun s htimer hlevel hpin hnot hlist => ?_⟩
  · have htaken : urgentTest (asserted .runIso s) = urgentUnload (asserted .runIso s) := if_pos ⟨hr, hdue⟩
    rw [exec_isolation htimer hlevel hpin, htaken]
    refine ⟨_, rfl, urgentUnload_react s (unloading_urgentUnload hr) (hisolated s _ (outer_urgentUnload _)) fun hs hi => ?_⟩
    have hssq : (urgentUnload (asserted .runIso s)).ssq = s.ssq := withdraw_ssq .notch (asserted .runIso s)
    rw [hssq]; exact ⟨hr, hs, hi, rfl⟩
  · have htaken : urgentTest (asserted .runIso s) = asserted .runIso s := by
      refine if_neg ?_
      rintro ⟨hr, hdue⟩
      rcases hnot with h | ⟨hc, hs⟩
      · exact h hr
      · rcases hdue with h | h
        · have hzero : (asserted .runIso s).nsp.completed = 0 := hc
          omega
        · exact h hs
    have hcarries : Carries s.nsp.completed (asserted .runIso s) := ⟨rfl, hlist⟩
    rw [exec_isolation htimer hlevel hpin, htaken]
    exact ⟨_, rfl, (hcarries.react s).1, (hcarries.react s).2, hisolated s _ rfl⟩

/-! ## The demand code (R103, R104, R106) -/

theorem exec_demandStabilityExpiry {s : State} (h : s.nsp.demandTimer.isSome = true) :
    exec .demandStabilityExpiry s = .next (react s (takeDemand s)) := by
  have hexec : exec .demandStabilityExpiry s = execDemandStabilityExpiry s := rfl
  rw [hexec]; unfold execDemandStabilityExpiry
  rw [if_neg (by simpa using Option.isSome_iff_ne_none.mp h)]

/-- The notch that a code names is its place in the list of the statements. -/
theorem notchOfLines_eq (code : BitVec 4) :
    (∀ n, demandCodes[n]? = some code → notchOfLines code = some n) ∧ (code ∉ demandCodes → notchOfLines code = none) := by
  have hsmall : ∀ n, n < demandCodes.length → ∀ x : BitVec 4, demandCodes[n]? = some x → notchOfLines x = some n := by decide
  refine ⟨fun n hn => ?_, ?_⟩
  · exact hsmall n (List.getElem?_eq_some_iff.mp hn).1 code hn
  · revert code; decide

/-- A reading taken: the code's notch, or none for an invalid one, with its fault (R103). -/
theorem takeDemand_reading (s : State) : (takeDemand s).nsp = { s.nsp with reading := notchOfLines s.pins.demandCode, demandTimer := none }
    ∧ (takeDemand s).faultActive .demandInvalid = !(notchOfLines s.pins.demandCode).isSome := by
  unfold takeDemand; simp only []; split
  next h => rw [h]; exact ⟨clearFault_nsp _ _, faultActive_clearFault_same rfl _⟩
  next h => rw [Bool.not_eq_true _ |>.mp h]; exact ⟨raiseFault_nsp _ _, raiseFault_active _ _⟩

theorem takeDemand_react (old s : State) : (react old (takeDemand s)).nsp.reading = notchOfLines s.pins.demandCode
    ∧ (react old (takeDemand s)).nsp.demandTimer = none
    ∧ (react old (takeDemand s)).faultActive .demandInvalid = !(notchOfLines s.pins.demandCode).isSome := by
  obtain ⟨hnsp, hfault⟩ := takeDemand_reading s
  have hdemands : (react old (takeDemand s)).demands = (takeDemand s).demands := unmoved_demands.react old _
  simp only [State.demands, Prod.mk.injEq] at hdemands
  obtain ⟨hreading, htimer, -⟩ := hdemands
  have hmoves : Moves (takeDemand s) (react old (takeDemand s)) := moves_react (.refl _)
  refine ⟨by rw [hreading, hnsp], by rw [htimer, hnsp], ?_⟩
  rw [← hfault]
  cases h : (takeDemand s).faultActive .demandInvalid with
  | true => exact moves_keep_active rfl hmoves h
  | false => exact moves_keep_inactive rfl (by decide) hmoves h

/-- Settles O32: the reading is taken from the pins, and the reaction leaves it. -/
theorem demandCodeIsTaken : Obligations.DemandCodeIsTaken := by
  intro s h
  have hexec := exec_demandStabilityExpiry h
  have hframe := exec_demand_frame hexec
  simp only [State.demandFrame, Prod.mk.injEq] at hframe
  obtain ⟨houter, -, -⟩ := hframe
  obtain ⟨hreading, htimer, hfault⟩ := takeDemand_react s s
  refine ⟨fun n hn => ⟨_, hexec, ?_, htimer, ?_, keepsOutside_of_outer houter⟩,
    fun hn => ⟨_, hexec, ?_, htimer, ?_, ?_, ?_, keepsOutside_of_outer houter⟩⟩
  · rw [hreading]; exact (notchOfLines_eq _).1 n hn
  · rw [hfault, (notchOfLines_eq _).1 n hn]; rfl
  all_goals rw [(notchOfLines_eq _).2 hn] at hreading hfault
  · exact hreading
  · exact hfault
  · unfold State.effectiveDemand; rw [hreading]
  · unfold State.targetNotch State.effectiveDemand; rw [hreading]; exact Nat.zero_min _

end Sys2Proof.Machine
end

section
/-! The ending of a transaction, step by step: the command that brings it, the health record, the sensor record and the derates; then
O34. -/

namespace Sys2Proof.Machine

/-! ## The commands that end a transaction (R133, R135) -/

/-- The reply line's record of its quiet set. -/
def setReplyLine (l : ReplyLine) (s : State) : State := { s with erc := { s.erc with replyLine := l } }

/-- An ending as far as its client: health, sensor record, client (R137). -/
def ended (tr : Transaction) (e : Ending) (s : State) : State := clientEnding tr e (sensorStep tr e (healthStep tr e s))

theorem transactionEnd_of_current {tr : Transaction} {s : State} (h : s.erc.current = some tr) (e : Ending) :
    transactionEnd e s = enterIdle (react s (ended tr e s)) := by
  unfold transactionEnd; rw [h]; rfl

/-- Both commands end the current transaction, after no more than a note on the reply line. -/
theorem exec_ending {cmd : Instr} {tr : Transaction} {e : Ending} {s : State} (h : EndsWith cmd tr e s) :
    ∃ l, exec cmd s = .next (enterIdle (react (setReplyLine l s) (ended tr e (setReplyLine l s)))) := by
  obtain ⟨hawait, hcurrent, hcmd⟩ := h
  rcases hcmd with ⟨rfl, rfl⟩ | ⟨ws, rfl, hreset, hclass⟩
  · have hexec : exec .replyTimeout s = execReplyTimeout s := rfl
    rw [hexec]; unfold execReplyTimeout; rw [if_pos hawait]
    exact ⟨s.erc.replyLine.pass (20 - s.erc.sinceSent),
      congrArg _ (transactionEnd_of_current (s := setReplyLine (s.erc.replyLine.pass (20 - s.erc.sinceSent)) s) hcurrent .noReply)⟩
  · have hframed : s.replyFramed ws.length = true := by simp [State.replyFramed, State.inFirstRequest, hawait]
    have htaken : takeReply ws (replyQuiet s) = transactionEnd e (replyQuiet s) := by
      unfold takeReply
      rw [if_pos (show (replyQuiet s).erc.sequencer = .awaiting from hawait),
        show (replyQuiet s).erc.current = some tr from hcurrent]
      simp only [hclass]
    have hexec : exec (.replyTaken ws) s = execReplyTaken ws s := rfl
    rw [hexec]; unfold execReplyTaken
    rw [hreset, hframed]
    exact ⟨.clear, congrArg _ (htaken.trans (transactionEnd_of_current (s := replyQuiet s) hcurrent e))⟩

/-! ## The health record (R140 to R142) -/

theorem Health.after_eq (h : Health) (e : Ending) : h.after e = healthAfter h e := by
  have hconsecutive := satAdd_eq 3 h.consecutive 1
  have htotal := satAdd_eq 65535 h.total 1
  cases e with
  | noReply | corrupt | misrouted =>
    unfold Health.after healthAfter; simp only []
    rw [hconsecutive, htotal]
  | _ => rfl

/-- The count of consecutive failures after an ending that is one. -/
theorem after_consecutive {h : Health} {e : Ending} (he : e.transport = true) (hi : e ≠ .inhibited) :
    (h.after e).consecutive = min 3 (h.consecutive + 1) := by
  rw [← satAdd_eq]
  cases e with
  | inhibited => exact absurd rfl hi
  | accept => cases he
  | exception => cases he
  | _ => rfl

theorem after_not_failed {h : Health} {e : Ending} (he : e.transport = false) : (h.after e).failed = false := by
  cases e with
  | accept | exception => rfl
  | _ => cases he

/-- A device FAILED after an ending and not before has failed the third time. -/
theorem begins_iff (h : Health) (e : Ending) :
    ((h.after e).failed && !h.failed) = true ↔ e.transport = true ∧ e ≠ .inhibited ∧ h.consecutive = 2 := by
  by_cases he : e.transport = true
  · by_cases hi : e = .inhibited
    · subst hi
      exact iff_of_false (by rw [show h.after .inhibited = h from rfl, Bool.and_not_self]; decide) fun hc => hc.2.1 rfl
    · have hcount : (3 ≤ min 3 (h.consecutive + 1) ∧ h.consecutive < 3) ↔ h.consecutive = 2 := by omega
      simp only [Health.failed, after_consecutive he hi, Bool.and_eq_true, decide_eq_true_eq, Bool.not_eq_true',
        decide_eq_false_iff_not, Nat.not_le, hcount, he, ne_eq, hi, not_false_eq_true, true_and]
  · rw [after_not_failed (Bool.not_eq_true _ |>.mp he)]
    exact iff_of_false (by rw [Bool.false_and]; decide) fun hc => he hc.1

/-- No FAILED begins: the record is set, and DEVICE_FAILED is cleared at most. -/
theorem changeHealth_of_calm {d : Device} {x : Health} {s : State} (h : (x.failed && !(s.erc.health.get d).failed) = false) :
    changeHealth d x s = setHealth d x s ∨ changeHealth d x s = clearFault (.deviceFailed d) (setHealth d x s) := by
  unfold changeHealth; simp only [h]
  rcases ite_test_cases (((s.erc.health.get d).failed && !x.failed) = true) (setHealth d x s)
    (clearFault (.deviceFailed d) (setHealth d x s)) with hc | hc
  · exact Or.inl hc
  · exact Or.inr hc

theorem changeHealth_of_begins {d : Device} {x : Health} {s : State} (h : (x.failed && !(s.erc.health.get d).failed) = true) :
    changeHealth d x s = becomeFailed d (setHealth d x s) := by
  unfold changeHealth; simp only [h, if_true]

/-- The health records alone, of the channel's devices. -/
theorem unmoved_health : Unmoved fun s => s.erc.health := unmoved_devices.comp fun x => x.2.1

theorem becomeFailed_health (d : Device) (s : State) : (becomeFailed d s).erc.health = s.erc.health := by
  have hstale : (if d = .sensors ∧ s.erc.sensor.state = .valid then setRecordState .stale s else s).erc.health = s.erc.health := by
    split <;> rfl
  have hnsp (u : State) : (nspDeviceFailed d u).erc.health = u.erc.health := by
    cases d with
    | load => exact unmoved_health.moves (moves_urgentTest (.refl u))
    | _ => rfl
  unfold becomeFailed
  exact (unmoved_health.raise _ _).trans ((hnsp _).trans ((unmoved_health.moves (moves_ssqDeviceFailed (.refl _))).trans hstale))

theorem changeHealth_health (d : Device) (x : Health) (s : State) : (changeHealth d x s).erc.health = s.erc.health.set d x := by
  by_cases h : (x.failed && !(s.erc.health.get d).failed) = true
  · rw [changeHealth_of_begins h, becomeFailed_health]; rfl
  · rcases changeHealth_of_calm (Bool.not_eq_true _ |>.mp h) with hc | hc <;> rw [hc]
    · rfl
    · rw [clearFault_erc]; rfl

theorem sensorsReturn_of_same {old s : State} (h : s.deviceFailed .sensors = old.deviceFailed .sensors) : sensorsReturn old s = s := by
  unfold sensorsReturn; rw [h]; simp

/-- The ending of another device's transaction concerns that device alone. -/
theorem healthStep_of_other {tr : Transaction} {e : Ending} {s : State} (hd : tr.request.order.device ≠ .sensors) :
    healthStep tr e s = changeHealth tr.request.order.device ((s.erc.health.get tr.request.order.device).after e) s := by
  have hkept : (changeHealth tr.request.order.device ((s.erc.health.get tr.request.order.device).after e) s).deviceFailed .sensors
      = s.deviceFailed .sensors := by
    unfold State.deviceFailed
    rw [changeHealth_health, PerDevice.get_set_ne _ _ (Ne.symm hd)]
  unfold healthStep; simp only [hd, false_and, if_false]
  rw [sensorsReturn_of_same hkept, ite_self]

theorem autostopTest_health (s : State) : (autostopTest s).erc.health = s.erc.health :=
  unmoved_health.moves (moves_autostopTest (.refl s))

theorem sensorsReturn_health (old s : State) : (sensorsReturn old s).erc.health = s.erc.health := by
  unfold sensorsReturn; split <;> rfl

theorem healthStep_health (tr : Transaction) (e : Ending) (s : State) : (healthStep tr e s).erc.health
    = s.erc.health.set tr.request.order.device ((s.erc.health.get tr.request.order.device).after e) := by
  have htested (c : Prop) [Decidable c] (u : State) : (if c then autostopTest u else u).erc.health = u.erc.health := by
    split
    · exact autostopTest_health u
    · rfl
  unfold healthStep; simp only []; split
  · rw [htested, changeHealth_health]
  · rw [sensorsReturn_health, htested, changeHealth_health]

/-! ## The sensor record and the derates (R108, R144) -/

theorem present_eq (c : Derate) (d0 d1 : Byte) : Derate.present c (temperatureOf d0) (temperatureOf d1) = presentAt c d0 d1 := by
  have hshift (b : Byte) (n : Nat) : ((n : Int) ≤ temperatureOf b) ↔ n + 50 ≤ b.toNat := by unfold temperatureOf; omega
  cases c
  · exact decide_eq_decide.mpr (hshift d0 98)
  · exact decide_eq_decide.mpr (hshift d0 104)
  · exact decide_eq_decide.mpr (hshift d0 110)
  · exact decide_eq_decide.mpr (hshift d1 55)
  · exact decide_eq_decide.mpr (hshift d1 65)
  · exact decide_eq_decide.mpr (hshift d1 75)

theorem update_eq (x : DerateCond) (present : Bool) : x.update present = derateAfter x present := by
  obtain ⟨applied, apply, release⟩ := x
  cases applied <;> cases present
  · rfl
  · cases apply <;> rfl
  · cases release <;> rfl
  · rfl

theorem updateDerates_get (c : Derate) (s : State) : (updateDerates s).nsp.derates.get c
    = (s.nsp.derates.get c).update (Derate.present c s.erc.sensor.coolant s.erc.sensor.intake) := by cases c <;> rfl

theorem unmoved_sensor : Unmoved fun s => s.erc.sensor := unmoved_devices.comp fun x => x.2.2.1

theorem unmoved_derates : Unmoved fun s => s.nsp.derates := unmoved_demands.comp fun x => x.2.2

/-- The sensor record filled. -/
def setSensor (r : SensorRecord) (s : State) : State := { s with erc := { s.erc with sensor := r } }

theorem sensorUpdate_derates (c : Derate) (d0 d1 d2 : Byte) (s : State) :
    (sensorUpdate d0 d1 d2 s).nsp.derates.get c = derateAfter (s.nsp.derates.get c) (presentAt c d0 d1) := by
  have hmoves (u : State) : Moves u (ssqSensorUpdate u) := moves_ssqSensorUpdate (.refl u)
  have hupdate : sensorUpdate d0 d1 d2 s
      = updateDerates (ssqSensorUpdate (setSensor ⟨temperatureOf d0, temperatureOf d1, d2.getLsbD 0, 0, .valid⟩ s)) := rfl
  have hsensor := unmoved_sensor.moves (hmoves (setSensor ⟨temperatureOf d0, temperatureOf d1, d2.getLsbD 0, 0, .valid⟩ s))
  have hderates := unmoved_derates.moves (hmoves (setSensor ⟨temperatureOf d0, temperatureOf d1, d2.getLsbD 0, 0, .valid⟩ s))
  rw [hupdate, updateDerates_get, hsensor, hderates, update_eq]
  exact congrArg (derateAfter _) (present_eq c d0 d1)

theorem clientEnding_derates (tr : Transaction) (e : Ending) (s : State) : (clientEnding tr e s).nsp.derates = s.nsp.derates :=
  clientEnding_kept (f := fun s : State => s.nsp.derates) unmoved_derates (fun _ _ _ => rfl) tr e s

theorem enterIdle_derates (s : State) : (enterIdle s).nsp.derates = s.nsp.derates :=
  enterIdle_kept (f := fun s : State => s.nsp.derates) (fun _ _ _ => rfl) s

theorem healthStep_derates_of_accept {tr : Transaction} {d0 d1 d2 : Byte} (s : State) :
    (healthStep tr (.accept d0 d1 d2) s).nsp.derates = s.nsp.derates := by
  have hbegins : (((s.erc.health.get tr.request.order.device).after (.accept d0 d1 d2)).failed
      && !(s.erc.health.get tr.request.order.device).failed) = false := rfl
  have hchanged : (changeHealth tr.request.order.device ((s.erc.health.get tr.request.order.device).after (.accept d0 d1 d2)) s).nsp.derates
      = s.nsp.derates := by
    rcases changeHealth_of_calm hbegins with h | h <;> rw [h]
    · rfl
    · rw [clearFault_nsp]; rfl
  unfold healthStep; simp only [Ending.accepted, if_true]
  split
  · exact (unmoved_derates.moves (moves_autostopTest (.refl _))).trans hchanged
  · exact hchanged

/-- An accepted READ updates every derate condition. -/
theorem ended_read_derates {tr : Transaction} {d0 d1 d2 : Byte} {s : State} (hread : tr.request.order = .read) (c : Derate) :
    (ended tr (.accept d0 d1 d2) s).nsp.derates.get c = derateAfter (s.nsp.derates.get c) (presentAt c d0 d1) := by
  unfold ended
  rw [clientEnding_derates]
  show (if tr.request.order = .read then sensorUpdate d0 d1 d2 (healthStep tr (.accept d0 d1 d2) s)
    else healthStep tr (.accept d0 d1 d2) s).nsp.derates.get c = _
  rw [if_pos hread, sensorUpdate_derates, healthStep_derates_of_accept]

/-! ## Derates applied and released (R108, R109) -/

theorem derateUrgent_derates (old s : State) : (derateUrgent old s).nsp.derates = s.nsp.derates := by
  unfold derateUrgent; split
  · exact unmoved_derates.moves (moves_urgentTest (.refl s))
  · rfl

/-- The condition set, with COOLANT_HOT where it is the highest. -/
def derateSet (c : Derate) (s : State) : State :=
  if c = .coolantVeryHigh then raiseFault .coolantHot (setDerate c ⟨true, none, none⟩ s) else setDerate c ⟨true, none, none⟩ s

theorem applyDerate_eq (c : Derate) (s : State) : applyDerate c s = derateUrgent s (derateSet c s) := rfl

theorem derateSet_nsp (c : Derate) (s : State) :
    (derateSet c s).nsp = { s.nsp with derates := s.nsp.derates.set c ⟨true, none, none⟩ } := by
  unfold derateSet; split
  · rw [raiseFault_nsp]; rfl
  · rfl

theorem derateSet_ssq (c : Derate) (s : State) : (derateSet c s).ssq = s.ssq := by
  unfold derateSet; split
  · rw [raiseFault_ssq]; rfl
  · rfl

theorem applyDerate_derates (c : Derate) (s : State) : (applyDerate c s).nsp.derates = s.nsp.derates.set c ⟨true, none, none⟩ := by
  rw [applyDerate_eq, derateUrgent_derates, derateSet_nsp]

theorem releaseDerate_derates (c : Derate) (s : State) : (releaseDerate c s).nsp.derates = s.nsp.derates.set c ⟨false, none, none⟩ := by
  unfold releaseDerate; simp only []; split
  · rw [clearFault_nsp]; rfl
  · rfl

theorem applyDerate_coolantHot (s : State) : (applyDerate .coolantVeryHigh s).faultActive .coolantHot = true := by
  have hset : (derateSet .coolantVeryHigh s).faultActive .coolantHot = true := raiseFault_active .coolantHot _
  rw [applyDerate_eq]; unfold derateUrgent; split
  · exact moves_keep_active rfl (moves_urgentTest (.refl _)) hset
  · exact hset

/-- The highest coolant condition applied takes the derate cap to 0. -/
theorem derateCap_of_veryHigh {s : State} (h : (s.nsp.derates.get .coolantVeryHigh).applied = true) : s.derateCap = 0 :=
  Nat.le_zero.mp (derateCap_le h)

/-- No other condition does. -/
theorem derateCap_pos {s : State} (h : (s.nsp.derates.get .coolantVeryHigh).applied = false) : s.derateCap ≠ 0 := by
  rcases derateCap_cases s with h8 | ⟨c, hc, hcap⟩
  · rw [h8]; decide
  · rw [hcap]
    cases c <;> first | decide | exact absurd (hc.symm.trans h) (by decide)

theorem cap_of_derateCap {s : State} (h : s.derateCap = 0) : s.cap = 0 := Nat.le_zero.mp (h ▸ (cap_le s).1)

theorem react_derates (old s : State) : (react old s).nsp.derates = s.nsp.derates := unmoved_derates.react old s

theorem react_applied (old : State) {c : Derate} {s : State} :
    (react old (applyDerate c s)).nsp.derates.get c = ⟨true, none, none⟩ := by
  rw [react_derates, applyDerate_derates, PerDerate.get_set]

theorem react_applied_cap (old s : State) : (react old (applyDerate .coolantVeryHigh s)).derateCap = 0 :=
  derateCap_of_veryHigh (by rw [react_applied])

theorem exec_derateApply {c : Derate} {s : State} (h : (s.nsp.derates.get c).applyTimer.isSome = true) :
    exec (.derateApplyTimerExpiry c) s = .next (react s (applyDerate c s)) := by
  have hexec : exec (.derateApplyTimerExpiry c) s = execDerateApplyTimerExpiry c s := rfl
  rw [hexec]; unfold execDerateApplyTimerExpiry
  rw [if_neg (by simpa using Option.isSome_iff_ne_none.mp h)]

theorem exec_derateRelease {c : Derate} {s : State} (h : (s.nsp.derates.get c).releaseTimer.isSome = true) :
    exec (.derateReleaseTimerExpiry c) s = .next (react s (releaseDerate c s)) := by
  have hexec : exec (.derateReleaseTimerExpiry c) s = execDerateReleaseTimerExpiry c s := rfl
  rw [hexec]; unfold execDerateReleaseTimerExpiry
  rw [if_neg (by simpa using Option.isSome_iff_ne_none.mp h)]

theorem applyDerate_veryHigh {s : State} (h : (s.nsp.derates.get .coolantVeryHigh).applied = false) :
    applyDerate .coolantVeryHigh s = urgentTest (derateSet .coolantVeryHigh s) := by
  have hzero : (derateSet .coolantVeryHigh s).derateCap = 0 :=
    derateCap_of_veryHigh (by rw [derateSet_nsp, PerDerate.get_set])
  rw [applyDerate_eq]
  exact if_pos ⟨hzero, derateCap_pos h⟩

theorem urgentTest_of_due {s : State} (hr : s.ssq.engine = .running) (h : 0 < s.nsp.completed ∨ s.nsp.step ≠ none) :
    urgentTest s = urgentUnload s := if_pos ⟨hr, h⟩

theorem urgentTest_of_not {s : State} (h : s.ssq.engine ≠ .running ∨ (s.nsp.completed = 0 ∧ s.nsp.step = none)) : urgentTest s = s := by
  refine if_neg ?_
  rintro ⟨hr, hdue⟩
  rcases h with h | ⟨hc, hs⟩
  · exact h hr
  · rcases hdue with h | h
    · omega
    · exact h hs

theorem urgentUnload_ssq (s : State) : (urgentUnload s).ssq = s.ssq := withdraw_ssq .notch s

/-- Settles O34: each expiry sets its condition, the highest one is an urgent cause, and an accepted READ updates all six. -/
theorem derateConditionsApplyAndRelease : Obligations.DerateConditionsApplyAndRelease := by
  refine ⟨fun c s h => ?_, fun s h happlied => ⟨fun hr hdue => ?_, fun hnot hlist => ?_⟩, fun c s h => ?_, ?_⟩
  · have hexec := exec_derateApply h
    have hframe := exec_derate_frame (d := c) (Or.inl hexec)
    simp only [State.derateFrame, Prod.mk.injEq] at hframe
    obtain ⟨houter, -, -⟩ := hframe
    refine ⟨_, hexec, react_applied s, fun d hd => ?_, fun hc => ?_, keepsOutside_of_outer houter⟩
    · rw [react_derates, applyDerate_derates, PerDerate.get_set_ne _ _ hd]
    · subst hc
      have hcap := react_applied_cap s s
      refine ⟨moves_keep_active rfl (moves_react (.refl _)) (applyDerate_coolantHot s), hcap, ?_⟩
      unfold State.targetNotch; rw [cap_of_derateCap hcap]; exact Nat.min_zero _
  · have hengine : (derateSet .coolantVeryHigh s).ssq.engine = .running := by rw [derateSet_ssq, hr]
    have hcarried : 0 < (derateSet .coolantVeryHigh s).nsp.completed ∨ (derateSet .coolantVeryHigh s).nsp.step ≠ none := by
      rw [derateSet_nsp]; exact hdue
    have hcap := cap_of_derateCap (react_applied_cap s s)
    rw [applyDerate_veryHigh happlied, urgentTest_of_due hengine hcarried] at hcap
    rw [exec_derateApply h, applyDerate_veryHigh happlied, urgentTest_of_due hengine hcarried]
    refine ⟨_, rfl, urgentUnload_react s (unloading_urgentUnload hengine) hcap fun hs hi => ?_⟩
    rw [urgentUnload_ssq, derateSet_ssq]; exact ⟨hr, hs, hi, rfl⟩
  · have hkept : urgentTest (derateSet .coolantVeryHigh s) = derateSet .coolantVeryHigh s :=
      urgentTest_of_not (by rw [derateSet_ssq, derateSet_nsp]; exact hnot)
    have hcarries : Carries s.nsp.completed (derateSet .coolantVeryHigh s) := by
      unfold Carries; rw [derateSet_nsp]; exact ⟨rfl, hlist⟩
    rw [exec_derateApply h, applyDerate_veryHigh happlied, hkept]
    exact ⟨_, rfl, hcarries.react s⟩
  · have hexec := exec_derateRelease h
    have hframe := exec_derate_frame (d := c) (Or.inr hexec)
    simp only [State.derateFrame, Prod.mk.injEq] at hframe
    obtain ⟨houter, -, -⟩ := hframe
    refine ⟨_, hexec, ?_, fun d hd => ?_, fun hc => ?_, keepsOutside_of_outer houter⟩
    · rw [react_derates, releaseDerate_derates, PerDerate.get_set]
    · rw [react_derates, releaseDerate_derates, PerDerate.get_set_ne _ _ hd]
    · subst hc
      refine moves_keep_inactive rfl (by decide) (moves_react (.refl _)) ?_
      unfold releaseDerate; simp only [if_true]
      exact faultActive_clearFault_same rfl _
  · intro ws d0 d1 d2 tr s hreset hawait hcurrent hread hclass
    obtain ⟨l, hexec⟩ := exec_ending (cmd := .replyTaken ws) ⟨hawait, hcurrent, Or.inr ⟨ws, rfl, hreset, hclass⟩⟩
    refine ⟨_, hexec, fun c => ?_⟩
    rw [enterIdle_derates, react_derates]
    exact ended_read_derates (s := setReplyLine l s) hread c

end Sys2Proof.Machine
end

section
/-! Rules for the orders and the endings of the Start Sequencer: what an order added leaves, what stays on its way through an entry and
a grant, the state that the client of an ending finds, and the reactions that leave PRELUBE and CRANKING (R75, R76, R137). -/

namespace Sys2Proof.Machine

/-! ## An order added (R75) -/

theorem addSeq_eq (o : Order) (s : State) :
    ∃ l r, addSeq o s = { s with ssq := { s.ssq with seqList := l, releasePending := r } } := by
  unfold addSeq; split
  · exact ⟨s.ssq.seqList, s.ssq.releasePending, rfl⟩
  · cases o <;> exact ⟨_, _, rfl⟩

theorem addStopIfHeld_eq (s : State) :
    ∃ l r, addStopIfHeld s = { s with ssq := { s.ssq with seqList := l, releasePending := r } } := by
  unfold addStopIfHeld; split
  · exact addSeq_eq .stop s
  · exact ⟨s.ssq.seqList, s.ssq.releasePending, rfl⟩

theorem waits_addSeq {o : Order} {s : State} (hestop : s.estop = false) : Waits o (addSeq o s) := by
  refine waits_of_mem ?_
  unfold addSeq; rw [if_neg (by rw [hestop]; decide)]
  cases o <;> simp only [] <;> split
  case stop.isTrue h => exact List.contains_iff_mem.mp h
  case disengage.isTrue h => exact List.contains_iff_mem.mp h
  all_goals first
    | exact List.mem_append_right _ List.mem_cons_self
    | exact List.mem_cons_self
    | exact List.contains_iff_mem.mp (by assumption)

/-- An order that another does not strike from the list stays on its way. -/
theorem Waits.addSeq {o k : Order} {s : State} (h : Waits o s) (hd : k = .disengage → o ≠ .engage)
    (hs : k = .stop → o ≠ .run ∧ o ≠ .status) : Waits o (addSeq k s) := by
  obtain ⟨l, r, heq⟩ := addSeq_eq k s
  rcases h with h | h
  · refine waits_of_mem ?_
    unfold Machine.addSeq; split
    · exact h
    · have hconcat (x : Order) : o ∈ (if s.ssq.seqList.contains x then s.ssq.seqList else s.ssq.seqList ++ [x]) := by
        split
        · exact h
        · exact List.mem_append_left _ h
      cases k with
      | disengage =>
        have hkept : o ∈ s.ssq.seqList.filter (fun x => decide (x ≠ .engage)) := List.mem_filter.mpr ⟨h, by simpa using hd rfl⟩
        simp only []; split
        · exact hkept
        · exact List.mem_cons_of_mem _ hkept
      | stop =>
        have hkept : o ∈ s.ssq.seqList.filter (fun x => decide (x ≠ .run) && decide (x ≠ .status)) :=
          List.mem_filter.mpr ⟨h, by simpa using hs rfl⟩
        simp only []; split
        · exact hkept
        · exact List.mem_append_left _ hkept
      | _ => exact hconcat _
  · refine Or.inr ?_
    rw [heq]; exact h

theorem waits_addStopIfHeld {s : State} (hestop : s.estop = false) (h : s.ssq.pumpHeld = true) : Waits .stop (addStopIfHeld s) := by
  unfold addStopIfHeld; rw [if_pos h]; exact waits_addSeq hestop

theorem Waits.addStopIfHeld {o : Order} {s : State} (h : Waits o s) (ho : o ≠ .run ∧ o ≠ .status) : Waits o (addStopIfHeld s) := by
  unfold Machine.addStopIfHeld; split
  · exact Waits.addSeq h (fun hk => nomatch hk) (fun _ => ho)
  · exact h

/-! ## An order on its way through an entry -/

theorem dropStep_slots_ne {c : Client} (hc : c ≠ .notch) (s : State) : (dropStep s).erc.slots.get c = s.erc.slots.get c := by
  show (withdraw .notch s).erc.slots.get c = _
  unfold withdraw; split
  · exact PerClient.get_set_ne s.erc.slots .empty hc
  · rfl

theorem nspOnLeave_slots_ne {c : Client} (hc : c ≠ .notch) (m n : EngineState) (s : State) :
    (nspOnLeave m n s).erc.slots.get c = s.erc.slots.get c := by
  unfold nspOnLeave; repeat' split
  · rw [endWatch_erc]
  · rw [endWatch_erc]; exact dropStep_slots_ne hc s
  · rw [endWatch_erc]; exact dropStep_slots_ne hc s
  · rfl

theorem enter_slots_ne {c : Client} (hc : c ≠ .notch) (n : EngineState) (s : State) :
    (enter n s).erc.slots.get c = s.erc.slots.get c := by
  rw [enter_erc]; exact nspOnLeave_slots_ne hc _ _ _

theorem Waits.enter {o : Order} {s : State} (h : Waits o s) (n : EngineState) : Waits o (enter n s) :=
  Waits.of_same h (enter_seqList n s) (enter_slots_ne (c := .sequence) (by decide) n s)

theorem Waits.of_ssq {o : Order} {s t : State} (h : Waits o s) (hssq : t.ssq = s.ssq) (herc : t.erc = s.erc) : Waits o t :=
  Waits.of_same h (by rw [hssq]) (by rw [herc])

/-! ## The grant at the end of a transaction (R132, R133) -/

theorem grantSlot_eq (c : Client) (s : State) : ∃ e, grantSlot c s = { s with erc := e } := by
  unfold grantSlot; split
  · exact ⟨_, rfl⟩
  · exact ⟨s.erc, rfl⟩

theorem enterIdle_eq (s : State) : ∃ e, enterIdle s = { s with erc := e } := by
  unfold enterIdle; simp only []; split
  · obtain ⟨e, he⟩ := grantSlot_eq (s := { s with erc := { s.erc with sequencer := .idle, tag := s.erc.tag + 1, replyTimer := none } }) _
    exact ⟨e, he⟩
  · exact ⟨_, rfl⟩

theorem enterIdle_ssq (s : State) : (enterIdle s).ssq = s.ssq := by obtain ⟨e, he⟩ := enterIdle_eq s; rw [he]

theorem enterIdle_cpa (s : State) : (enterIdle s).cpa = s.cpa := by obtain ⟨e, he⟩ := enterIdle_eq s; rw [he]

theorem enterIdle_nsp (s : State) : (enterIdle s).nsp = s.nsp := by obtain ⟨e, he⟩ := enterIdle_eq s; rw [he]

/-- A grant leaves every slot its request. -/
theorem grantSlot_request_get (c c' : Client) (s : State) :
    ((grantSlot c s).erc.slots.get c').request = (s.erc.slots.get c').request := by
  by_cases h : c' = c
  · rw [h]; exact grantSlot_request c s
  · rw [grantSlot_slots_ne h]

theorem enterIdle_request (c : Client) (s : State) : ((enterIdle s).erc.slots.get c).request = (s.erc.slots.get c).request := by
  unfold enterIdle; simp only []; split
  · rw [grantSlot_request_get]
  · rfl

theorem waits_enterIdle {o : Order} {s : State} (h : Waits o s) : Waits o (enterIdle s) := by
  rcases h with h | h
  · exact Or.inl (by rw [enterIdle_ssq]; exact h)
  · exact Or.inr (by rw [show (enterIdle s).erc.slots.sequence.request = s.erc.slots.sequence.request from enterIdle_request .sequence s]; exact h)

/-! ## What the client of an ending finds (R137) -/

/-- The state before an ending is handed to its client: the client's slot emptied, one health record set, and of the faults
DEVICE_FAILED of that device cleared at most. -/
structure Freed (c : Client) (d : Device) (s u : State) : Prop where
  ssq : u.ssq = s.ssq
  cpa : u.cpa = s.cpa
  nsp : u.nsp = s.nsp
  clc : u.clc = s.clc
  outer : u.outer = s.outer
  slots : u.erc.slots = s.erc.slots.set c .empty
  health : ∃ x, u.erc.health = s.erc.health.set d x
  faults : ∀ k, k ≠ .deviceFailed d → u.faultActive k = s.faultActive k
  records : u.fcl = { s.fcl with active := u.fcl.active }

theorem freed_setHealth (c : Client) (d : Device) (x : Health) (l : ReplyLine) (s : State) :
    Freed c d s (setSlot c .empty (setHealth d x (setReplyLine l s))) :=
  ⟨rfl, rfl, rfl, rfl, rfl, rfl, ⟨x, rfl⟩, fun _ _ => rfl, rfl⟩

theorem freed_clearFault (c : Client) (d : Device) (x : Health) (l : ReplyLine) (s : State) :
    Freed c d s (setSlot c .empty (clearFault (.deviceFailed d) (setHealth d x (setReplyLine l s)))) where
  ssq := clearFault_ssq _ _
  cpa := clearFault_cpa _ _
  nsp := clearFault_nsp _ _
  clc := clearFault_clc _ _
  outer := outer_clearFault _ _
  slots := by show (clearFault _ _).erc.slots.set c .empty = _; rw [clearFault_erc]; rfl
  health := ⟨x, by show (clearFault _ _).erc.health = _; rw [clearFault_erc]; rfl⟩
  faults _ hk := clearFault_active_ne hk _
  records := by
    have hself : (FaultKind.deviceFailed d).selfClearing = true := rfl
    have hfcl : (clearFault (.deviceFailed d) (setHealth d x (setReplyLine l s))).fcl
        = { s.fcl with active := dropKind (.deviceFailed d) s.fcl.active } := by
      unfold clearFault; rw [if_pos hself]; rfl
    have hslot (u : State) : (setSlot c .empty u).fcl = u.fcl := rfl
    rw [hslot, hfcl]

/-- A health record set without a FAILED begun is no more than that. -/
theorem freed_changeHealth {c : Client} {d : Device} {x : Health} {l : ReplyLine} {s : State}
    (h : (x.failed && !(s.erc.health.get d).failed) = false) :
    Freed c d s (setSlot c .empty (changeHealth d x (setReplyLine l s))) := by
  rcases changeHealth_of_calm (s := setReplyLine l s) h with hc | hc <;> rw [hc]
  · exact freed_setHealth c d x l s
  · exact freed_clearFault c d x l s

theorem replyWord_ne_inhibited (ws : List WireOctet) : replyWord ws ≠ some .inhibited := by
  unfold replyWord; simp only []; repeat' split
  · simp
  · simp
  · cases ExcCode.ofCode _ <;> simp
  · simp
  · simp

theorem EndsWith.ne_inhibited {cmd : Instr} {tr : Transaction} {e : Ending} {s : State} (h : EndsWith cmd tr e s) : e ≠ .inhibited := by
  obtain ⟨-, -, hcmd⟩ := h
  rcases hcmd with ⟨-, rfl⟩ | ⟨ws, -, -, hclass⟩
  · decide
  · unfold classifyReply at hclass
    simp only [] at hclass
    split at hclass
    next => cases hclass; decide
    next e' he =>
      split at hclass
      · split at hclass
        · cases hclass; rintro rfl; exact replyWord_ne_inhibited ws he
        · cases hclass
      · cases hclass; decide

theorem calm_of_noFailure {tr : Transaction} {e : Ending} {s : State} (h : NoFailure tr e s) :
    (((s.erc.health.get tr.request.order.device).after e).failed && !(s.erc.health.get tr.request.order.device).failed) = false := by
  refine Bool.eq_false_iff.mpr fun hb => ?_
  obtain ⟨he, -, hcount⟩ := (begins_iff _ _).mp hb
  exact h he hcount

/-- Where no device fails for the third time, the client of an ending of another device than SENSORS finds its slot emptied, and
nothing of the deciding blocks changed. -/
theorem freed_of_noFailure {tr : Transaction} {e : Ending} {s : State} (h : NoFailure tr e s)
    (hd : tr.request.order.device ≠ .sensors) (l : ReplyLine) :
    Freed tr.client tr.request.order.device s (setSlot tr.client .empty (healthStep tr e (setReplyLine l s))) := by
  rw [healthStep_of_other hd]
  exact freed_changeHealth (calm_of_noFailure h)

theorem Order.device_eq_sensors {o : Order} : o.device = .sensors ↔ o = .read := by cases o <;> decide

theorem sensorStep_of_other {tr : Transaction} (h : tr.request.order ≠ .read) (e : Ending) (s : State) : sensorStep tr e s = s := by
  unfold sensorStep; split
  · exact if_neg h
  · rfl

/-- An ending of another order than READ goes from the health record to the client. -/
theorem ended_of_other {tr : Transaction} (h : tr.request.order ≠ .read) (e : Ending) (s : State) :
    ended tr e s = clientActs tr e (setSlot tr.client .empty (healthStep tr e s)) := by
  unfold ended; rw [sensorStep_of_other h, clientEnding_eq]

theorem clientActs_sequence {tr : Transaction} (h : tr.client = .sequence) (e : Ending) (s : State) :
    clientActs tr e s = seqEnding tr.request.order e s := by
  unfold clientActs; rw [h]

theorem Freed.estop {c : Client} {d : Device} {s u : State} (h : Freed c d s u) : u.estop = s.estop := estop_of_outer h.outer

/-! ## Reactions in PRELUBE and CRANKING -/

/-- With the table and the engine as they were no clash is tested (R66). -/
theorem clashTrigger_of_same {old s : State} (htable : s.table = old.table) (hengine : s.ssq.engine = old.ssq.engine) :
    clashTrigger old s = false := by
  have hentry (p : Fin 8) : s.entry p = old.entry p := by unfold State.entry; rw [htable]
  unfold clashTrigger
  simp [hentry, hengine]

/-- In PRELUBE and CRANKING the deciding blocks decide nothing where no clash is tested, or none found. -/
theorem decideBlocks_of_unyielding {old s : State} (h : s.ssq.engine = .prelube ∨ s.ssq.engine = .cranking)
    (hclash : clashTrigger old (upkept s) = false ∨ clashTest (upkept s) = upkept s) : decideBlocks old s = upkept s := by
  have hne {n : EngineState} (hp : n ≠ .prelube) (hc : n ≠ .cranking) : (upkept s).ssq.engine ≠ n := by
    rw [upkept_ssq]
    rcases h with h | h <;> rw [h]
    · exact hp.symm
    · exact hc.symm
  have hfirst := firstTests_eq (old := old) (s := upkept s) (hne (by decide) (by decide)) (hne (by decide) (by decide))
    (hne (by decide) (by decide))
  have hlast := lastTests_eq (old := old) (s := upkept s) (hne (by decide) (by decide)) (hne (by decide) (by decide))
  have htested : (if clashTrigger old (upkept s) then clashTest (upkept s) else upkept s) = upkept s := by
    rcases hclash with hc | hc
    · rw [hc]; rfl
    · exact ite_test hc
  rw [decideBlocks_eq]
  simp only [] at hfirst hlast ⊢
  rw [hfirst, htested, ite_test (grantTest_of_ne (hne (by decide) (by decide)))]
  exact hlast

theorem react_of_unyielding {old s : State} (h : s.ssq.engine = .prelube ∨ (s.ssq.engine = .cranking ∧ s.estop = false))
    (hclash : clashTrigger old (upkept s) = false ∨ clashTest (upkept s) = upkept s) : Undecided s (react old s) := by
  have hready : (upkept s).estop = false ∨ (upkept s).ssq.engine ≠ .cranking := by
    rcases h with he | ⟨-, hestop⟩
    · exact Or.inr (by rw [upkept_ssq, he]; decide)
    · exact Or.inl ((upkept_estop s).trans hestop)
  unfold react; rw [decideBlocks_of_unyielding (h.imp_right And.left) hclash]
  exact (undecided_upkept s).trans (posted_postOrders old hready).undecided

/-- What leaves the table and the engine decides nothing in PRELUBE and CRANKING. -/
theorem react_of_still {old s : State} (h : s.ssq.engine = .prelube ∨ (s.ssq.engine = .cranking ∧ s.estop = false))
    (htable : s.table = old.table) (hengine : s.ssq.engine = old.ssq.engine) : Undecided s (react old s) :=
  react_of_unyielding h (Or.inl (clashTrigger_of_same ((table_of_outer (outer_upkept s)).trans htable) (by rw [upkept_ssq, hengine])))

/-! ## The expiry of a phase timer (R73) -/

theorem phaseExpiry_of_running {x : Timer} {own : EngineState} {act : State → State} {s : State} (hx : x.isSome = true)
    (he : s.ssq.engine = own) : phaseExpiry x own act s = react s (act s) := by
  unfold phaseExpiry; rw [hx, he]; simp

/-! ## An entry read through a decided reaction -/

/-- An entry to a state where the engine rests, with its reason set, as the statements read it. -/
theorem enter_attempts {n : EngineState} (hn : n ≠ .idleWarm) (hs : n ≠ .stopped) (s : State) :
    (enter n s).ssq.attempts = s.ssq.attempts := by
  obtain ⟨x, y, h⟩ := enter_ssq n s
  rw [h]
  cases n <;> first | rfl | exact absurd rfl hn | exact absurd rfl hs

theorem enter_fcl_records (n : EngineState) (s : State) : ∃ l, (enter n s).fcl = { s.fcl with active := l } := by
  have hcleared (k : FaultKind) (u : State) : ∃ l, (clearFault k u).fcl = { u.fcl with active := l } := by
    unfold clearFault; split
    · exact ⟨_, rfl⟩
    · exact ⟨u.fcl.active, rfl⟩
  have hwatch (u : State) : ∃ l, (endWatch u).fcl = { u.fcl with active := l } := hcleared _ _
  have hleave : ∃ l, (nspOnLeave s.ssq.engine n s).fcl = { s.fcl with active := l } := by
    unfold nspOnLeave; repeat' split
    · exact hwatch _
    · obtain ⟨l, hl⟩ := hwatch { dropStep s with nsp := { (dropStep s).nsp with
        completed := 0, abandonHold := none, dwell := none, governorOwed := false } }
      exact ⟨l, hl.trans (by rw [show State.fcl _ = s.fcl from dropStep_fcl s])⟩
    · obtain ⟨l, hl⟩ := hwatch { dropStep s with nsp := { (dropStep s).nsp with dwell := none, governorOwed := false } }
      exact ⟨l, hl.trans (by rw [show State.fcl _ = s.fcl from dropStep_fcl s])⟩
    · exact ⟨s.fcl.active, rfl⟩
  obtain ⟨l, hl⟩ := hleave
  unfold enter; simp only []
  rw [startRunning_fcl]
  unfold clearRefusal; split
  · exact ⟨l, hl⟩
  · obtain ⟨l', hl'⟩ := hcleared .startRefused _
    refine ⟨l', hl'.trans ?_⟩
    show { (nspOnLeave s.ssq.engine n s).fcl with active := l' } = _
    rw [hl]

/-- An entry clears START_REFUSED and SPEED_DEVIATION at most. -/
theorem enter_faults {k : FaultKind} (hr : k ≠ .startRefused) (hd : k ≠ .speedDeviation) (n : EngineState) (s : State) :
    (enter n s).faultActive k = s.faultActive k := by
  have hwatch (u : State) : (endWatch u).faultActive k = u.faultActive k := clearFault_active_ne hd _
  have hleave : (nspOnLeave s.ssq.engine n s).faultActive k = s.faultActive k := by
    unfold nspOnLeave; repeat' split
    · exact hwatch _
    · exact (hwatch _).trans (faultActive_of_fcl (dropStep_fcl s) k)
    · exact (hwatch _).trans (faultActive_of_fcl (dropStep_fcl s) k)
    · rfl
  unfold enter; simp only []
  rw [faultActive_of_fcl (startRunning_fcl n _)]
  unfold clearRefusal; split
  · exact hleave
  · rw [clearFault_active_ne hr]; exact hleave

end Sys2Proof.Machine
end

section
/-! The entries into the states in which the engine stands, and the protective shutdown: what they keep, where they end, and how the
protective orders come through the reaction (R77, R93, R97 to R100). -/

namespace Sys2Proof.Machine

/-! ## What an entry keeps -/

/-- What entries into engine states keep: the orders and their lists, the reason and the last cause, the slots but NOTCH, the link,
and the faults but the two that entries clear. -/
structure Kept (s u : State) : Prop where
  stopReason : u.ssq.stopReason = s.ssq.stopReason
  lastCause : u.ssq.lastCause = s.ssq.lastCause
  seqList : u.ssq.seqList = s.ssq.seqList
  protList : u.ssq.protList = s.ssq.protList
  pumpHeld : u.ssq.pumpHeld = s.ssq.pumpHeld
  releasePending : u.ssq.releasePending = s.ssq.releasePending
  urgentList : u.nsp.urgentList = s.nsp.urgentList
  slots : ∀ c, c ≠ .notch → u.erc.slots.get c = s.erc.slots.get c
  faults : ∀ k, k ≠ .startRefused → k ≠ .speedDeviation → u.faultActive k = s.faultActive k
  records : u.fcl = { s.fcl with active := u.fcl.active }
  clc : u.clc = s.clc
  outer : u.outer = s.outer

theorem Kept.refl (s : State) : Kept s s :=
  ⟨rfl, rfl, rfl, rfl, rfl, rfl, rfl, fun _ _ => rfl, fun _ _ _ => rfl, rfl, rfl, rfl⟩

theorem Kept.trans {a b c : State} (h : Kept a b) (g : Kept b c) : Kept a c where
  stopReason := g.stopReason.trans h.stopReason
  lastCause := g.lastCause.trans h.lastCause
  seqList := g.seqList.trans h.seqList
  protList := g.protList.trans h.protList
  pumpHeld := g.pumpHeld.trans h.pumpHeld
  releasePending := g.releasePending.trans h.releasePending
  urgentList := g.urgentList.trans h.urgentList
  slots x hx := (g.slots x hx).trans (h.slots x hx)
  faults k hr hd := (g.faults k hr hd).trans (h.faults k hr hd)
  records := by rw [g.records, h.records]
  clc := g.clc.trans h.clc
  outer := g.outer.trans h.outer

theorem nspOnLeave_urgentList (m n : EngineState) (s : State) : (nspOnLeave m n s).nsp.urgentList = s.nsp.urgentList := by
  have hdrop (u : State) : (dropStep u).nsp.urgentList = u.nsp.urgentList := by
    show (withdraw .notch u).nsp.urgentList = _
    rw [withdraw_nsp]
  unfold nspOnLeave; repeat' split
  · rw [endWatch_nsp]
  · rw [endWatch_nsp]; exact hdrop s
  · rw [endWatch_nsp]; exact hdrop s
  · rfl

theorem enter_urgentList (n : EngineState) (s : State) : (enter n s).nsp.urgentList = s.nsp.urgentList := by
  by_cases hn : n = .running
  · subst hn; rw [enterRunning_nsp]; exact nspOnLeave_urgentList _ _ s
  · rw [enter_nsp_of_ne hn]; exact nspOnLeave_urgentList _ _ s

@[simp] theorem dropStep_clc (s : State) : (dropStep s).clc = s.clc := withdraw_clc .notch s

theorem nspOnLeave_clc (m n : EngineState) (s : State) : (nspOnLeave m n s).clc = s.clc := by
  have hwatch (u : State) : (endWatch u).clc = u.clc := clearFault_clc _ _
  unfold nspOnLeave; repeat' split
  · exact hwatch _
  · exact (hwatch _).trans (dropStep_clc s)
  · exact (hwatch _).trans (dropStep_clc s)
  · rfl

theorem enter_clc (n : EngineState) (s : State) : (enter n s).clc = s.clc := by
  have hidle (u : State) : (idleUpkeep u).clc = u.clc := by
    unfold idleUpkeep; repeat' split
    all_goals rfl
  have hrefusal (u : State) : (clearRefusal n u).clc = u.clc := by
    unfold clearRefusal; split
    · rfl
    · exact clearFault_clc _ _
  unfold enter startRunning; simp only []; split
  · exact (hidle _).trans ((hrefusal _).trans (nspOnLeave_clc _ _ s))
  · exact (hrefusal _).trans (nspOnLeave_clc _ _ s)

theorem kept_enter (n : EngineState) (s : State) : Kept s (enter n s) where
  stopReason := enter_stopReason n s
  lastCause := enter_lastCause n s
  seqList := enter_seqList n s
  protList := enter_protList n s
  pumpHeld := enter_pumpHeld n s
  releasePending := enter_releasePending n s
  urgentList := enter_urgentList n s
  slots _ hc := enter_slots_ne hc n s
  faults _ hr hd := enter_faults hr hd n s
  records := by obtain ⟨l, hl⟩ := enter_fcl_records n s; rw [hl]
  clc := enter_clc n s
  outer := outer_enter n s

theorem Kept.waits {s u : State} (h : Kept s u) {o : Order} (hw : Waits o s) : Waits o u :=
  Waits.of_same hw h.seqList (h.slots .sequence (by decide))

theorem Kept.estop {s u : State} (h : Kept s u) : u.estop = s.estop := estop_of_outer h.outer

theorem Kept.lmn {s u : State} (h : Kept s u) : u.lmn = s.lmn := lmn_of_outer h.outer

/-- Which lockout is active decides where a shutdown ends; entries and the upkeep do not touch it. -/
theorem lockoutActive_of_faults {s u : State} (h : ∀ k, k.lockout = true → u.faultActive k = s.faultActive k) :
    u.lockoutActive = s.lockoutActive := by
  have hany (v : State) : v.lockoutActive = true ↔ ∃ k, k.lockout = true ∧ v.faultActive k = true := by
    unfold State.lockoutActive State.faultActive
    rw [List.any_eq_true]
    exact exists_congr fun k => by rw [List.contains_iff_mem]; exact and_comm
  rw [Bool.eq_iff_iff, hany, hany]
  exact exists_congr fun k => and_congr_right fun hk => by rw [h k hk]

theorem Kept.lockoutActive {s u : State} (h : Kept s u) : u.lockoutActive = s.lockoutActive :=
  lockoutActive_of_faults fun k hk => h.faults k (by rintro rfl; cases hk) (by rintro rfl; cases hk)

/-! ## The shutdown and its end (R93) -/

/-- A shutdown entered: where it ends depends on the silence and the lockout. -/
structure ShutsDown (s u : State) : Prop extends Kept s u where
  engine : u.ssq.engine = shutdownOf s
  fuelOrder : u.ssq.fuelOrder = false
  claim : u.cpa.claim = none

theorem enter_standing {n : EngineState} (hn : n = .shutdown ∨ n = .lockedOut ∨ n = .stopped) (s : State) :
    (enter n s).ssq.fuelOrder = false ∧ (enter n s).cpa.claim = none := by
  rw [enter_fuelOrder, enter_claim]
  rcases hn with rfl | rfl | rfl <;> exact ⟨Bool.and_false _, rfl⟩

theorem shutsDown_enter {s u : State} {n : EngineState} (h : Kept s u) (hn : n = .shutdown ∨ n = .lockedOut ∨ n = .stopped)
    (hof : n = shutdownOf s) : ShutsDown s (enter n u) where
  toKept := h.trans (kept_enter n u)
  engine := (engine_enter n u).trans hof
  fuelOrder := (enter_standing hn u).1
  claim := (enter_standing hn u).2

theorem enterStopped_of_manual {s : State} (h : s.ssq.stopReason ≠ .auto) : enterStopped s = enter .stopped s :=
  triggerTest_of_manual (by rw [enter_stopReason]; exact h)

theorem shutdownOf_eq (s : State) : shutdownOf s
    = if s.lmn.silence = true then (if s.lockoutActive then .lockedOut else .stopped) else .shutdown := by
  unfold shutdownOf; cases s.lmn.silence <;> rfl

/-- SHUTDOWN entered, and left at once under silence. -/
theorem enterShutdown_shutsDown {s : State} (h : s.ssq.stopReason ≠ .auto ∨ s.lmn.silence = false) : ShutsDown s (enterShutdown s) := by
  have hentered := kept_enter .shutdown s
  have hof := shutdownOf_eq s
  unfold enterShutdown; simp only []
  rw [hentered.lmn]
  by_cases hsilence : s.lmn.silence = true
  · have hr : (enter .shutdown s).ssq.stopReason ≠ .auto := by
      rw [enter_stopReason]
      exact h.resolve_right (by rw [hsilence]; decide)
    rw [if_pos hsilence] at hof ⊢
    unfold shutdownEnd
    rw [hentered.lockoutActive]
    by_cases hlock : s.lockoutActive = true
    · rw [if_pos hlock] at hof ⊢
      exact shutsDown_enter hentered (Or.inr (Or.inl rfl)) hof.symm
    · rw [if_neg hlock] at hof ⊢
      rw [enterStopped_of_manual hr]
      exact shutsDown_enter hentered (Or.inr (Or.inr rfl)) hof.symm
  · rw [if_neg hsilence] at hof ⊢
    exact shutsDown_enter (.refl s) (Or.inl rfl) hof.symm

theorem shutdownOf_cases (s : State) : shutdownOf s = .shutdown ∨ shutdownOf s = .lockedOut ∨ shutdownOf s = .stopped := by
  unfold shutdownOf; repeat' split
  · exact Or.inl rfl
  · exact Or.inr (Or.inl rfl)
  · exact Or.inr (Or.inr rfl)

theorem calm_of_standing {s : State} (h : s.ssq.engine = .shutdown ∨ s.ssq.engine = .lockedOut ∨ s.ssq.engine = .stopped)
    (hr : s.ssq.stopReason ≠ .auto) : Calm s := by
  rcases h with h | h | h
  · exact .of_engine (Or.inl h)
  · exact .of_engine (Or.inr (Or.inl h))
  · exact .of_stopped h hr

theorem ShutsDown.calm {s u : State} (h : ShutsDown s u) (hr : s.ssq.stopReason ≠ .auto) : Calm u :=
  calm_of_standing (by rw [h.engine]; exact shutdownOf_cases s) (by rw [h.stopReason]; exact hr)

/-! ## The protective sequence (R77) -/

theorem protectiveList_eq (s : State) : s.protectiveList false = protectiveOrders s := by
  unfold State.protectiveList protectiveOrders; simp

theorem protectiveOrders_ne_setSpeed {s : State} {o : Order} (h : o ∈ protectiveOrders s) : o ≠ .setSpeed := by
  rintro rfl
  unfold protectiveOrders at h
  simp only [List.mem_append, List.mem_ite_nil_right, List.mem_cons, List.not_mem_nil, reduceCtorEq, and_false, or_self] at h

theorem protectiveOrders_of_ssq {s u : State} (h : u.ssq.engine = s.ssq.engine) (hr : u.ssq.releasePending = s.ssq.releasePending)
    (hp : u.ssq.pumpHeld = s.ssq.pumpHeld) : protectiveOrders u = protectiveOrders s := by
  unfold protectiveOrders; rw [h, hr, hp]

/-- The protective sequence started: the lists as R77 builds them, and a pending SEQUENCE request withdrawn. -/
structure Guarded (l : List Order) (s u : State) : Prop where
  ssq : u.ssq = { s.ssq with seqList := [], protList := l, releasePending := s.ssq.releasePending || l.contains .disengage }
  urgentList : u.nsp.urgentList = []
  slots : ∀ c, c ≠ .sequence → u.erc.slots.get c = s.erc.slots.get c
  sequence : u.erc.slots.sequence.isPending = false
  cpa : u.cpa = s.cpa
  fcl : u.fcl = s.fcl
  clc : u.clc = s.clc
  outer : u.outer = s.outer

theorem withdraw_slots_ne {c c' : Client} (h : c' ≠ c) (s : State) : (withdraw c s).erc.slots.get c' = s.erc.slots.get c' := by
  unfold withdraw; split
  · exact PerClient.get_set_ne s.erc.slots .empty h
  · rfl

theorem guarded_protectiveSequence (stuck : Bool) (s : State) : Guarded (s.protectiveList stuck) s (protectiveSequence stuck s) where
  ssq := by unfold protectiveSequence; simp only []; rw [withdraw_ssq]
  urgentList := rfl
  slots _ hc := withdraw_slots_ne hc s
  sequence := withdraw_not_pending .sequence s
  cpa := withdraw_cpa .sequence s
  fcl := withdraw_fcl .sequence s
  clc := withdraw_clc .sequence s
  outer := outer_protectiveSequence stuck s

/-! ## The protective shutdown (R97 to R100) -/

/-- A protective shutdown: the shutdown, with the protective list built and everything else of the orders dropped. -/
structure Protected (s u : State) : Prop where
  engine : u.ssq.engine = shutdownOf s
  stopReason : u.ssq.stopReason = .manual
  fuelOrder : u.ssq.fuelOrder = false
  claim : u.cpa.claim = none
  seqList : u.ssq.seqList = []
  protList : u.ssq.protList = protectiveOrders s
  releasePending : u.ssq.releasePending = (s.ssq.releasePending || (protectiveOrders s).contains .disengage)
  lastCause : u.ssq.lastCause = s.ssq.lastCause
  urgentList : u.nsp.urgentList = []
  protect : u.erc.slots.protect = s.erc.slots.protect
  sequence : u.erc.slots.sequence.isPending = false
  faults : ∀ k, k ≠ .startRefused → k ≠ .speedDeviation → u.faultActive k = s.faultActive k
  records : u.fcl = { s.fcl with active := u.fcl.active }
  clc : u.clc = s.clc
  outer : u.outer = s.outer

theorem shutdownOf_of_same {s u : State} (hlmn : u.lmn = s.lmn) (hlock : u.lockoutActive = s.lockoutActive) :
    shutdownOf u = shutdownOf s := by unfold shutdownOf; rw [hlmn, hlock]

theorem protected_protectiveShutdown (s : State) : Protected s (protectiveShutdown s) := by
  have hguarded := guarded_protectiveSequence false (clearFuel s)
  have hlist : (clearFuel s).protectiveList false = protectiveOrders s := protectiveList_eq (clearFuel s)
  rw [hlist] at hguarded
  have hdown : ShutsDown (setReason .manual (protectiveSequence false (clearFuel s))) (protectiveShutdown s) :=
    enterShutdown_shutsDown (Or.inl (fun h => nomatch h))
  have hof : shutdownOf (setReason .manual (protectiveSequence false (clearFuel s))) = shutdownOf s :=
    shutdownOf_of_same (lmn_of_outer hguarded.outer) (lockoutActive_of_faults fun k _ => faultActive_of_fcl hguarded.fcl k)
  have hssq : (setReason .manual (protectiveSequence false (clearFuel s))).ssq = { s.ssq with
      fuelOrder := false, stopReason := .manual, seqList := [], protList := protectiveOrders s
      releasePending := s.ssq.releasePending || (protectiveOrders s).contains .disengage } := by
    show { (protectiveSequence false (clearFuel s)).ssq with stopReason := .manual } = _
    rw [hguarded.ssq]; rfl
  refine ⟨hdown.engine.trans hof, hdown.stopReason.trans rfl, hdown.fuelOrder, hdown.claim, ?_, ?_, ?_, ?_,
    hdown.urgentList.trans hguarded.urgentList, ?_, ?_, fun k hr hd => ?_, ?_, ?_, ?_⟩
  · rw [hdown.seqList, hssq]
  · rw [hdown.protList, hssq]
  · rw [hdown.releasePending, hssq]
  · rw [hdown.lastCause, hssq]
  · exact (hdown.slots .protect (by decide)).trans (hguarded.slots .protect (by decide))
  · rw [show (protectiveShutdown s).erc.slots.sequence = (protectiveSequence false (clearFuel s)).erc.slots.sequence from
      hdown.slots .sequence (by decide)]
    exact hguarded.sequence
  · exact (hdown.faults k hr hd).trans (faultActive_of_fcl hguarded.fcl k)
  · have hfcl : (setReason .manual (protectiveSequence false (clearFuel s))).fcl = s.fcl := hguarded.fcl
    rw [hdown.records, hfcl]
  · exact hdown.clc.trans hguarded.clc
  · exact hdown.outer.trans hguarded.outer

/-- A protective list that stands before a calm reaction is on its way after it. -/
theorem ordersWait_of_list {l : List Order} (hl : ∀ o ∈ l, o ≠ .setSpeed) {s u : State} (old : State) (hcalm : Calm u)
    (hslot : u.erc.slots.protect = s.erc.slots.protect) (hlist : u.ssq.protList = l) (hurgent : u.nsp.urgentList = []) :
    ProtectiveOrdersWait l s (react old u) := by
  obtain ⟨x, hx⟩ := upkept_nsp u
  have hslot' : (upkept u).erc.slots.protect = s.erc.slots.protect := by rw [upkept_erc]; exact hslot
  have hlist' : (upkept u).ssq.protList = l := by rw [upkept_ssq]; exact hlist
  have hurgent' : (upkept u).nsp.urgentList = [] := by rw [hx]; exact hurgent
  have hready : (upkept u).estop = false ∨ (upkept u).ssq.engine ≠ .cranking := Or.inr (by rw [upkept_ssq]; exact hcalm.cranking)
  unfold react; rw [decideBlocks_of_calm old hcalm]
  exact protectiveOrdersWait_of_postOrders old hready hslot' hlist' hurgent' hl

theorem ordersWait_of_lists {s u : State} (old : State) (hcalm : Calm u) (hslot : u.erc.slots.protect = s.erc.slots.protect)
    (hlist : u.ssq.protList = protectiveOrders s) (hurgent : u.nsp.urgentList = []) :
    ProtectiveOrdersWait (protectiveOrders s) s (react old u) :=
  ordersWait_of_list (fun _ ho => protectiveOrders_ne_setSpeed ho) old hcalm hslot hlist hurgent

section
variable {s u : State} (h : Protected s u)
include h

theorem Protected.calm : Calm u :=
  calm_of_standing (by rw [h.engine]; exact shutdownOf_cases s) (by rw [h.stopReason]; decide)

/-- After the reaction the protective orders are on their way. -/
theorem Protected.ordersWait (old : State) : ProtectiveOrdersWait (protectiveOrders s) s (react old u) :=
  ordersWait_of_lists old h.calm h.protect h.protList h.urgentList

end

end Sys2Proof.Machine
end

section
/-! Obligation O40: the failed attempt, and the events that fail one (R85 to R88). -/

namespace Sys2Proof.Machine

/-! ## The attempt counted (R86) -/

/-- The orders of a failed attempt added. -/
def attemptOrders (s : State) : State := addStopIfHeld (if s.ssq.engine = .cranking then addSeq .disengage s else s)

theorem attemptOrders_eq (s : State) :
    ∃ l r, attemptOrders s = { s with ssq := { s.ssq with seqList := l, releasePending := r } } := by
  unfold attemptOrders; split
  · obtain ⟨l, r, hl⟩ := addSeq_eq .disengage s
    obtain ⟨l', r', hl'⟩ := addStopIfHeld_eq (addSeq .disengage s)
    exact ⟨l', r', by rw [hl', hl]⟩
  · exact addStopIfHeld_eq s

theorem attemptOrders_waits {s : State} (hestop : s.estop = false) :
    (s.ssq.engine = .cranking → Waits .disengage (attemptOrders s)) ∧ (s.ssq.pumpHeld = true → Waits .stop (attemptOrders s)) := by
  unfold attemptOrders
  refine ⟨fun hc => ?_, fun hp => waits_addStopIfHeld ?_ ?_⟩
  · rw [if_pos hc]; exact Waits.addStopIfHeld (waits_addSeq hestop) (by decide)
  · split
    · exact (estop_of_outer (outer_addSeq _ _)).trans hestop
    · exact hestop
  · split
    · obtain ⟨l, r, hl⟩ := addSeq_eq .disengage s
      rw [hl]; exact hp
    · exact hp

theorem attemptCounted_ssq (c : Cause) (s : State) : ∃ l r, (attemptCounted c s).ssq = { s.ssq with
    seqList := l, releasePending := r, attempts := satAdd 3 s.ssq.attempts 1, lastCause := some c } := by
  obtain ⟨l, r, hl⟩ := attemptOrders_eq s
  have hcounted : attemptCounted c s = raiseCrankFail c (countAttempt c (attemptOrders s)) := rfl
  refine ⟨l, r, ?_⟩
  rw [hcounted, hl]
  exact raiseFault_ssq _ _

theorem attemptCounted_estop (c : Cause) (s : State) : (attemptCounted c s).estop = s.estop := by
  obtain ⟨l, r, hl⟩ := attemptOrders_eq s
  have hcounted : attemptCounted c s = raiseCrankFail c (countAttempt c (attemptOrders s)) := rfl
  rw [hcounted, hl]
  exact estop_of_outer (outer_raiseCrankFail _ _)

theorem attemptCounted_fcl (c : Cause) (s : State) : (attemptCounted c s).faultActive .crankFail = true
    ∧ (attemptCounted c s).fcl.crankFailCause = some c ∧ (attemptCounted c s).fcl.crankFailTimer = some 5000 :=
  ⟨raiseFault_active .crankFail (countAttempt c (attemptOrders s)), rfl, rfl⟩

theorem attemptCounted_waits {o : Order} {c : Cause} {s : State} (h : Waits o (attemptOrders s)) : Waits o (attemptCounted c s) :=
  Waits.of_ssq (s := countAttempt c (attemptOrders s)) h (raiseFault_ssq _ _) (raiseFault_erc _ _)

/-! ## The attempt failed -/

/-- The statements' reading of a failed attempt goes through entries and the last stop order. -/
structure Attempted (c : Cause) (s u : State) : Prop where
  lastCause : u.ssq.lastCause = some c
  fuelOrder : u.ssq.fuelOrder = false
  claim : u.cpa.claim = none
  crankFail : u.faultActive .crankFail = true
  cause : u.fcl.crankFailCause = some c
  timer : u.fcl.crankFailTimer = some 5000
  rests : s.ssq.attempts < 2 → u.ssq.engine = .crankRest ∧ u.ssq.attempts = s.ssq.attempts + 1 ∧ u.ssq.rest = some 30000
  locks : 2 ≤ s.ssq.attempts → u.ssq.engine = .lockedOut ∧ u.ssq.attempts = 3 ∧ u.faultActive .crankLockout = true
  estop : u.estop = s.estop
  disengage : s.estop = false → s.ssq.engine = .cranking → Waits .disengage u
  stop : s.estop = false → s.ssq.pumpHeld = true → Waits .stop u

theorem Waits.enterCrankRest {o : Order} {s : State} (h : Waits o s) (ho : o ≠ .run ∧ o ≠ .status) : Waits o (enterCrankRest s) :=
  Waits.addStopIfHeld (Waits.enter h .crankRest) ho

/-- The third failed attempt locks the engine out. -/
theorem attempted_lockout {c : Cause} {s : State} (h : 2 ≤ s.ssq.attempts) (hthree : (attemptCounted c s).ssq.attempts = 3) :
    Attempted c s (enter .lockedOut (raiseFault .crankLockout (attemptCounted c s))) := by
  obtain ⟨l, r, hssq⟩ := attemptCounted_ssq c s
  obtain ⟨hactive, hcause, htimer⟩ := attemptCounted_fcl c s
  have hkept := kept_enter .lockedOut (raiseFault .crankLockout (attemptCounted c s))
  have hraised : (raiseFault .crankLockout (attemptCounted c s)).fcl.crankFailTimer = some 5000
      ∧ (raiseFault .crankLockout (attemptCounted c s)).fcl.crankFailCause = some c := by
    unfold raiseFault; split
    · exact ⟨htimer, hcause⟩
    · exact ⟨htimer, hcause⟩
  have hwaits {o : Order} (hw : Waits o (attemptOrders s)) :
      Waits o (enter .lockedOut (raiseFault .crankLockout (attemptCounted c s))) :=
    hkept.waits (Waits.of_ssq (attemptCounted_waits hw) (raiseFault_ssq _ _) (raiseFault_erc _ _))
  refine ⟨?_, (enter_standing (Or.inr (Or.inl rfl)) _).1, (enter_standing (Or.inr (Or.inl rfl)) _).2, ?_, ?_, ?_,
    fun hlow => absurd h (by omega), fun _ => ⟨engine_enter _ _, ?_, ?_⟩, ?_, fun he hc => hwaits ((attemptOrders_waits he).1 hc),
    fun he hp => hwaits ((attemptOrders_waits he).2 hp)⟩
  · rw [hkept.lastCause, raiseFault_ssq, hssq]
  · rw [hkept.faults _ (by decide) (by decide), faultActive_raiseFault_ne (by decide)]; exact hactive
  · rw [hkept.records]; exact hraised.2
  · rw [hkept.records]; exact hraised.1
  · rw [enter_attempts (by decide) (by decide), raiseFault_ssq]; exact hthree
  · rw [hkept.faults _ (by decide) (by decide)]; exact raiseFault_active _ _
  · exact hkept.estop.trans ((estop_of_outer (outer_raiseFault _ _)).trans (attemptCounted_estop c s))

/-- An earlier one lets it rest. -/
theorem attempted_rest {c : Cause} {s : State} (h : s.ssq.attempts < 2) : Attempted c s (enterCrankRest (attemptCounted c s)) := by
  obtain ⟨l, r, hssq⟩ := attemptCounted_ssq c s
  obtain ⟨hactive, hcause, htimer⟩ := attemptCounted_fcl c s
  have hkept := kept_enter .crankRest (attemptCounted c s)
  have hentered : (enter .crankRest (attemptCounted c s)).ssq = (attemptCounted c s).ssq.entered .crankRest :=
    enter_ssq_of_ne (by decide) _
  obtain ⟨l', r', hstop⟩ := addStopIfHeld_eq (enter .crankRest (attemptCounted c s))
  have hrest : enterCrankRest (attemptCounted c s) = { enter .crankRest (attemptCounted c s) with
      ssq := { (attemptCounted c s).ssq.entered .crankRest with seqList := l', releasePending := r' } } := by
    unfold enterCrankRest; rw [hstop, hentered]
  have hwaits {o : Order} (hw : Waits o (attemptOrders s)) (ho : o ≠ .run ∧ o ≠ .status) :
      Waits o (enterCrankRest (attemptCounted c s)) := Waits.enterCrankRest (attemptCounted_waits hw) ho
  have hattempts : (attemptCounted c s).ssq.attempts = s.ssq.attempts + 1 := by
    rw [hssq, show ({ s.ssq with seqList := l, releasePending := r, attempts := satAdd 3 s.ssq.attempts 1, lastCause := some c } : Ssq).attempts
      = satAdd 3 s.ssq.attempts 1 from rfl, satAdd_eq]
    omega
  refine ⟨?_, ?_, ?_, ?_, ?_, ?_, fun _ => ⟨enterCrankRest_engine _, ?_, ?_⟩, fun hhigh => absurd h (by omega), ?_,
    fun he hc => hwaits ((attemptOrders_waits he).1 hc) (by decide), fun he hp => hwaits ((attemptOrders_waits he).2 hp) (by decide)⟩
  · rw [hrest]; show (attemptCounted c s).ssq.lastCause = _
    rw [hssq]
  · rw [hrest]; exact Bool.and_false _
  · rw [hrest]; show (enter .crankRest (attemptCounted c s)).cpa.claim = none
    rw [enter_claim]; rfl
  · rw [hrest]; exact (hkept.faults .crankFail (by decide) (by decide)).trans hactive
  · rw [hrest]; show (enter .crankRest (attemptCounted c s)).fcl.crankFailCause = _
    rw [hkept.records]; exact hcause
  · rw [hrest]; show (enter .crankRest (attemptCounted c s)).fcl.crankFailTimer = _
    rw [hkept.records]; exact htimer
  · rw [hrest]; exact hattempts
  · rw [hrest]; rfl
  · rw [hrest]; exact hkept.estop.trans (attemptCounted_estop c s)

theorem attempted_failedAttempt (c : Cause) (s : State) : Attempted c s (failedAttempt c s) := by
  obtain ⟨l, r, hssq⟩ := attemptCounted_ssq c s
  have hattempts : (attemptCounted c s).ssq.attempts = min 3 (s.ssq.attempts + 1) := by rw [hssq, ← satAdd_eq]
  rw [failedAttempt_eq]
  by_cases hthree : (attemptCounted c s).ssq.attempts = 3
  · rw [if_pos hthree]
    exact attempted_lockout (by omega) hthree
  · rw [if_neg hthree]
    exact attempted_rest (by omega)

/-- A failed attempt, after the reaction that follows it. -/
theorem attemptFailed_react {c : Cause} {a s : State} (old : State) (hengine : s.ssq.engine = a.ssq.engine)
    (hattempts : s.ssq.attempts = a.ssq.attempts) (hpump : s.ssq.pumpHeld = a.ssq.pumpHeld) (hestop : s.estop = a.estop) :
    AttemptFailed c a (react old (failedAttempt c s)) := by
  have hattempted := attempted_failedAttempt c s
  have hundecided := react_of_calm old (failedAttempt_rests c s).calm
  have hfree : a.estop = false → (failedAttempt c s).estop = false := fun he => hattempted.estop.trans (hestop.trans he)
  generalize failedAttempt c s = u at hattempted hundecided hfree ⊢
  generalize react old u = t at hundecided ⊢
  unfold AttemptFailed
  rw [← hengine, ← hattempts, ← hpump, hundecided.ssq, hundecided.cpa, hundecided.records, hundecided.faults _ (by decide),
    hundecided.faults _ (by decide)]
  exact ⟨hattempted.lastCause, hattempted.fuelOrder, hattempted.claim, hattempted.crankFail, hattempted.cause, hattempted.timer,
    hattempted.rests, hattempted.locks, fun he hc => hundecided.waits (hfree he) _ (hattempted.disengage (hestop.trans he) hc),
    fun he hp => hundecided.waits (hfree he) _ (hattempted.stop (hestop.trans he) hp)⟩

theorem attemptFailed_enterIdle {c : Cause} {s t : State} (h : AttemptFailed c s t) : AttemptFailed c s (enterIdle t) := by
  obtain ⟨hcause, hfuel, hclaim, hfault, hfcl, htimer, hrests, hlocks, hdisengage, hstop⟩ := h
  unfold AttemptFailed State.faultActive
  rw [enterIdle_ssq, enterIdle_cpa, enterIdle_fcl]
  exact ⟨hcause, hfuel, hclaim, hfault, hfcl, htimer, hrests, hlocks, fun he hc => waits_enterIdle (hdisengage he hc),
    fun he hp => waits_enterIdle (hstop he hp)⟩

/-! ## The events -/

theorem takeSample_of_rests {n : Nat} {s : State} (h : Rests (detectSag n (latch n s))) :
    takeSample n s = detectSag n (latch n s) := by
  have htaken : takeSample n s = autostopTest (triggerTest (grantTest (detectSag n (latch n s)))) := rfl
  rw [htaken]
  generalize detectSag n (latch n s) = u at h ⊢
  rw [grantTest_of_ne h.calm.claiming, h.calm.triggerTest_eq, autostopTest_of_ne h.calm.running]

theorem sag_failedAttempt {n : Nat} {s : State} (hflag : s.lmn.sagFlag = false) (hn : n < 192) (hcount : s.lmn.sagCount = 30)
    (he : s.ssq.engine = .cranking) : ∃ u, sampleEvent n s = react s (failedAttempt .sag u) ∧ u.ssq = s.ssq
      ∧ u.estop = s.estop := by
  have hsag : detectSag n (latch n s) = takeSag (latch n s) := detectSag_sag hflag hn hcount
  let v : State := { latch n s with lmn := { (latch n s).lmn with sagFlag := true, sagCount := 0 } }
  have hraised : (raiseFault .batterySag v).ssq = s.ssq := raiseFault_ssq _ _
  have hfails : takeSag (latch n s) = failedAttempt .sag (raiseFault .batterySag v) := by
    show ssqSag (raiseFault .batterySag v) = _
    unfold ssqSag; rw [if_pos (by rw [hraised]; exact he)]
  have hrests : Rests (detectSag n (latch n s)) := by rw [hsag, hfails]; exact failedAttempt_rests _ _
  refine ⟨raiseFault .batterySag v, ?_, hraised, estop_of_outer (outer_raiseFault _ _) |>.trans rfl⟩
  unfold sampleEvent; rw [takeSample_of_rests hrests, hsag, hfails]

theorem seqEnding_engage {e : Ending} {s : State} (he : s.ssq.engine = .cranking) (ha : e.accepted = false) :
    seqEnding .engage e s = failedAttempt .starterFail s := by
  unfold seqEnding; simp only [he, ha, if_true, Bool.false_eq_true, if_false]

/-- A third transport failure of the starter with no release pending changes no more than the health and its fault. -/
theorem changeHealth_starter {x : Health} {s : State} (h : s.ssq.releasePending = false) :
    (changeHealth .starter x s).ssq = s.ssq ∧ (changeHealth .starter x s).outer = s.outer := by
  by_cases hb : (x.failed && !(s.erc.health.get .starter).failed) = true
  · have hkept : ssqDeviceFailed .starter (setHealth .starter x s) = setHealth .starter x s := by
      show (if s.ssq.releasePending then _ else _) = _
      rw [h]; rfl
    have hfailed : becomeFailed .starter (setHealth .starter x s) = raiseFault (.deviceFailed .starter) (setHealth .starter x s) := by
      unfold becomeFailed; simp only [reduceCtorEq, false_and, if_false, hkept]; rfl
    rw [changeHealth_of_begins hb, hfailed]
    exact ⟨raiseFault_ssq _ _, outer_raiseFault _ _⟩
  · rcases changeHealth_of_calm (Bool.not_eq_true _ |>.mp hb) with hc | hc <;> rw [hc]
    · exact ⟨rfl, rfl⟩
    · exact ⟨clearFault_ssq _ _, outer_clearFault _ _⟩

/-- The client of a starter order's ending finds the Start Sequencer as it was, where no release is pending or no device fails. -/
theorem healthStep_starter {tr : Transaction} {e : Ending} {l : ReplyLine} {s : State} (hd : tr.request.order.device = .starter)
    (h : NoFailure tr e s ∨ s.ssq.releasePending = false) :
    (healthStep tr e (setReplyLine l s)).ssq = s.ssq ∧ (healthStep tr e (setReplyLine l s)).outer = s.outer := by
  rcases h with h | h
  · have hfreed := freed_of_noFailure h (by rw [hd]; decide) l
    exact ⟨hfreed.ssq, hfreed.outer⟩
  · rw [healthStep_of_other (by rw [hd]; decide), hd]
    exact changeHealth_starter (s := setReplyLine l s) h

/-- Settles O40: six events fail the attempt, each by the same operation. -/
theorem attemptsFail : Obligations.AttemptsFail := by
  refine ⟨fun s htimer he hturn => ?_, fun s htimer he => ?_, fun s htimer hflag hcount he => ?_,
    fun cmd tr e s hends hfail hhealth hclient horder he => ?_, fun s htimer he => ?_, fun s htimer he => ?_⟩
  · have hact : turnCheck s = failedAttempt .noTurn { s with ssq := { s.ssq with turnCheck := none } } := if_pos hturn
    refine ⟨_, congrArg Host.Outcome.next ((phaseExpiry_of_running htimer he).trans (congrArg (react s) hact)), ?_⟩
    exact attemptFailed_react s rfl rfl rfl rfl
  · exact ⟨_, congrArg Host.Outcome.next (phaseExpiry_of_running htimer he), attemptFailed_react s rfl rfl rfl rfl⟩
  · have hlow : (Config.sagSample s.freeCount).val < 192 := (Config.sagSample s.freeCount).isLt
    obtain ⟨hset, -, hactive⟩ := sampleEvent_of_sag (s := useFree s) hflag hlow hcount
    refine ⟨_, exec_sagEvent (sagDue_iff.mpr ⟨htimer, hflag, hcount⟩), ?_, hset, hactive⟩
    obtain ⟨u, hevent, hssq, hestop⟩ := sag_failedAttempt (s := useFree s) hflag hlow hcount he
    rw [hevent]
    exact attemptFailed_react (a := s) _ (by rw [hssq]; rfl) (by rw [hssq]; rfl) (by rw [hssq]; rfl) hestop
  · have hd : tr.request.order.device = .starter := by rw [horder]; rfl
    obtain ⟨l, hexec⟩ := exec_ending hends
    obtain ⟨hssq, houter⟩ := healthStep_starter (l := l) hd hhealth
    have hended : ended tr e (setReplyLine l s)
        = failedAttempt .starterFail (setSlot tr.client .empty (healthStep tr e (setReplyLine l s))) := by
      rw [ended_of_other (by rw [horder]; decide), clientActs_sequence hclient, horder]
      refine seqEnding_engage ?_ hfail
      show (healthStep tr e (setReplyLine l s)).ssq.engine = _
      rw [hssq, he]
    refine ⟨_, hexec, attemptFailed_enterIdle ?_⟩
    rw [hended]
    exact attemptFailed_react (a := s) _ (congrArg Ssq.engine hssq) (congrArg Ssq.attempts hssq) (congrArg Ssq.pumpHeld hssq)
      (estop_of_outer houter)
  · exact ⟨_, congrArg Host.Outcome.next (phaseExpiry_of_running htimer he), attemptFailed_react s rfl rfl rfl rfl⟩
  · have hexec : exec .silenceTimerExpiry s = .next (react s (ssqSilence (setSilence s))) := by
      have h : exec .silenceTimerExpiry s = execSilenceTimerExpiry s := rfl
      rw [h]; unfold execSilenceTimerExpiry
      rw [if_neg (by simpa using Option.isSome_iff_ne_none.mp htimer)]
    have hact : ssqSilence (setSilence s) = failedAttempt .fireLost (setSilence s) := by
      unfold ssqSilence; rw [show (setSilence s).ssq.engine = .firing from he]
    refine ⟨_, hexec, ?_, ?_⟩
    · rw [hact]; exact attemptFailed_react (a := s) s rfl rfl rfl rfl
    · rw [lmn_of_outer ((outer_react _ _).trans (outer_ssqSilence _))]; rfl

end Sys2Proof.Machine
end

section
/-! Obligation O39: the prelube, and the endings that reach it. -/

namespace Sys2Proof.Machine

/-! ## A raise and the first fault (R162) -/

theorem raiseFault_firstFault {k : FaultKind} {s : State} (hl : k.latched = true) (ha : s.faultActive k = false)
    (hf : s.fcl.firstFault = none) : (raiseFault k s).fcl.firstFault = some ⟨k, s.ssq.engine, s.clc.cycleCount⟩ := by
  unfold raiseFault; rw [ha]
  simp [hl, hf]

/-! ## The prelube fails (R83) -/

/-- The state that a failed prelube enters STOPPED from. -/
def prelubeGivenUp (s : State) : State := setReason .manual (addSeq .stop (raiseFault .prelubeFail s))

theorem prelubeFail_eq (s : State) : prelubeFail s = enter .stopped (prelubeGivenUp s) :=
  enterStopped_of_manual (s := prelubeGivenUp s) (fun h => nomatch h)

theorem prelubeGivenUp_fcl (s : State) : (prelubeGivenUp s).fcl = (raiseFault .prelubeFail s).fcl := addSeq_fcl .stop _

/-- Where a failed prelube leaves the engine. -/
structure GivenUp (s u : State) : Prop where
  engine : u.ssq.engine = .stopped
  stopReason : u.ssq.stopReason = .manual
  claim : u.cpa.claim = none
  attempts : u.ssq.attempts = 0
  fault : u.faultActive .prelubeFail = true
  firstFault : u.fcl.firstFault = (raiseFault .prelubeFail s).fcl.firstFault
  outer : u.outer = s.outer
  stop : s.estop = false → Waits .stop u

theorem givenUp_prelubeFail (s : State) : GivenUp s (prelubeFail s) := by
  have hkept := kept_enter .stopped (prelubeGivenUp s)
  have houter : (prelubeGivenUp s).outer = s.outer := (outer_addSeq _ _).trans (outer_raiseFault _ _)
  rw [prelubeFail_eq]
  refine ⟨engine_enter _ _, hkept.stopReason, (enter_standing (Or.inr (Or.inr rfl)) _).2, ?_, ?_, ?_, hkept.outer.trans houter,
    fun he => ?_⟩
  · rw [enter_ssq_of_ne (by decide)]; rfl
  · rw [hkept.faults _ (by decide) (by decide), faultActive_of_fcl (prelubeGivenUp_fcl s)]; exact raiseFault_active _ _
  · rw [hkept.records]; show (prelubeGivenUp s).fcl.firstFault = _
    rw [prelubeGivenUp_fcl]
  · refine hkept.waits ?_
    have hadded : Waits .stop (addSeq .stop (raiseFault .prelubeFail s)) :=
      waits_addSeq ((estop_of_outer (outer_raiseFault _ _)).trans he)
    exact hadded

theorem GivenUp.calm {s u : State} (h : GivenUp s u) : Calm u := .of_stopped h.engine (by rw [h.stopReason]; decide)

/-! ## What an ending does to the Notch Stepper's client -/

/-- The Notch Stepper and its slot alone have changed. -/
structure NotchOnly (s u : State) : Prop where
  ssq : u.ssq = s.ssq
  cpa : u.cpa = s.cpa
  fcl : u.fcl = s.fcl
  clc : u.clc = s.clc
  outer : u.outer = s.outer
  slots : ∀ c, c ≠ .notch → u.erc.slots.get c = s.erc.slots.get c

theorem NotchOnly.refl (s : State) : NotchOnly s s := ⟨rfl, rfl, rfl, rfl, rfl, fun _ _ => rfl⟩

theorem NotchOnly.trans {a b c : State} (h : NotchOnly a b) (g : NotchOnly b c) : NotchOnly a c :=
  ⟨g.ssq.trans h.ssq, g.cpa.trans h.cpa, g.fcl.trans h.fcl, g.clc.trans h.clc, g.outer.trans h.outer,
    fun x hx => (g.slots x hx).trans (h.slots x hx)⟩

theorem notchOnly_nsp (n : Nsp) (s : State) : NotchOnly s { s with nsp := n } := ⟨rfl, rfl, rfl, rfl, rfl, fun _ _ => rfl⟩

theorem notchOnly_post (r : Request) (s : State) : NotchOnly s (post .notch r s) :=
  ⟨post_ssq _ _ _, post_cpa _ _ _, post_fcl' _ _ _, post_clc _ _ _, outer_post _ _ _, fun _ hc => post_slots_ne hc r s⟩

theorem notchOnly_endUpSecond (x : Step) (ok : Bool) (s : State) : NotchOnly s (endUpSecond x ok s) := by
  unfold endUpSecond; simp only []; repeat' split
  · exact notchOnly_nsp _ s
  · exact notchOnly_nsp _ s
  · exact (notchOnly_nsp _ s).trans (notchOnly_post _ _)

theorem notchOnly_endUpFirst (x : Step) (ok : Bool) (s : State) : NotchOnly s (endUpFirst x ok s) := by
  unfold endUpFirst; simp only []; repeat' split
  · exact (notchOnly_nsp _ s).trans (notchOnly_endUpSecond _ _ _)
  · exact (notchOnly_nsp _ s).trans (notchOnly_post _ _)
  · exact notchOnly_nsp _ s

theorem notchOnly_endDownSecond (x : Step) (ok : Bool) (s : State) : NotchOnly s (endDownSecond x ok s) := by
  unfold endDownSecond; simp only []; split <;> exact notchOnly_nsp _ s

theorem notchOnly_endDownFirst (x : Step) (ok : Bool) (s : State) : NotchOnly s (endDownFirst x ok s) := by
  unfold endDownFirst; simp only []; repeat' split
  · exact (notchOnly_nsp _ s).trans (notchOnly_endDownSecond _ _ _)
  · exact (notchOnly_nsp _ s).trans (notchOnly_post _ _)
  · exact notchOnly_nsp _ s

/-- The Notch Stepper's endings leave the other blocks. -/
theorem notchOnly_notchEnding (e : Ending) (s : State) : NotchOnly s (notchEnding e s) := by
  unfold notchEnding; split
  · exact .refl s
  next x _ =>
    split
    · exact notchOnly_endUpFirst _ _ s
    · split
      · exact notchOnly_nsp _ s
      · exact notchOnly_endUpSecond _ _ s
    · exact notchOnly_endDownFirst _ _ s
    · exact notchOnly_endDownSecond _ _ s
    · unfold endRetry; simp only []; split <;> exact notchOnly_nsp _ s

/-- A transport ending is nothing to its client, but for the starter's orders and the Notch Stepper. -/
theorem clientActs_transport {tr : Transaction} {e : Ending} (he : e.transport = true) (hd : tr.request.order.device ≠ .starter)
    (s : State) : clientActs tr e s = s ∨ clientActs tr e s = notchEnding e s := by
  have haccepted : e.accepted = false := by cases e <;> first | rfl | cases he
  have hsequence : seqEnding tr.request.order e s = s := by
    cases ho : tr.request.order with
    | run => unfold seqEnding; simp only [haccepted, Bool.false_and, Bool.false_eq_true, if_false]
    | status => cases e <;> first | rfl | cases he
    | engage => rw [ho] at hd; exact absurd rfl hd
    | disengage => rw [ho] at hd; exact absurd rfl hd
    | _ => rfl
  unfold clientActs; split
  · split
    · unfold unloadEnding; rw [haccepted, Bool.and_false]; exact Or.inl rfl
    · have hne : tr.request.order ≠ .disengage := fun h => hd (by rw [h]; rfl)
      unfold protEnding; rw [if_neg hne, hsequence]; exact Or.inl rfl
  · exact Or.inl hsequence
  · exact Or.inr rfl
  · exact Or.inl rfl

theorem notchOnly_of_transport {tr : Transaction} {e : Ending} (he : e.transport = true) (hd : tr.request.order.device ≠ .starter)
    (s : State) : NotchOnly s (clientActs tr e s) := by
  rcases clientActs_transport he hd s with h | h <;> rw [h]
  · exact .refl s
  · exact notchOnly_notchEnding e s

/-! ## The endings in PRELUBE -/

theorem noFailure_of_accept {tr : Transaction} {d0 d1 d2 : Byte} {s : State} : NoFailure tr (.accept d0 d1 d2) s :=
  fun h => nomatch h

theorem laterThan_of_same {s u : State} (houter : u.outer = s.outer) (hclaim : u.cpa.claim = s.cpa.claim) (p : Fin 8) :
    u.laterThan p = s.laterThan p := by
  have hentry : u.entry p = s.entry p := by unfold State.entry; rw [table_of_outer houter]
  have hown : u.ownPosition = s.ownPosition := by unfold State.ownPosition; rw [mpt_of_outer houter]
  unfold State.laterThan; rw [hown, hclaim, hentry]

theorem clashingPeers_of_outer {s u : State} (houter : u.outer = s.outer) : u.clashingPeers = s.clashingPeers := by
  have hentry (p : Fin 8) : u.entry p = s.entry p := by unfold State.entry; rw [table_of_outer houter]
  have hothers : u.others = s.others := by unfold State.others State.ownPosition; rw [mpt_of_outer houter]
  unfold State.clashingPeers; rw [hothers]
  exact List.filter_congr fun p _ => by rw [hentry]

theorem mustYield_of_same {s u : State} (houter : u.outer = s.outer) (hclaim : u.cpa.claim = s.cpa.claim) : u.mustYield = s.mustYield := by
  have hentry (p : Fin 8) : u.entry p = s.entry p := by unfold State.entry; rw [table_of_outer houter]
  unfold State.mustYield
  rw [clashingPeers_of_outer houter]
  simp only [hentry]
  exact congrArg _ (congrArg (List.any s.clashingPeers) (funext fun p => laterThan_of_same houter hclaim p))

theorem seqEnding_status {d0 d1 d2 : Byte} {s : State} (he : s.ssq.engine = .prelube) :
    seqEnding .status (.accept d0 d1 d2) s = if d0.getLsbD 0 = true then oilOk s else s := by
  unfold seqEnding; simp only [he, decide_true, Bool.and_true]

theorem seqEnding_run {d0 d1 d2 : Byte} {s : State} (he : s.ssq.engine = .prelube) :
    seqEnding .run (.accept d0 d1 d2) s = { s with ssq := { s.ssq with runAccepted := true } } := by
  unfold seqEnding; simp only [he, Ending.accepted, decide_true, Bool.and_true, if_true]

section
variable {cmd : Instr} {tr : Transaction} {d0 d1 d2 : Byte} {s : State} (hends : EndsWith cmd tr (.accept d0 d1 d2) s)
  (hclient : tr.client = .sequence)
include hends hclient

/-- An accepted SEQUENCE order reaches the Start Sequencer with nothing of it changed. -/
theorem exec_sequenceAccept (hd : tr.request.order ≠ .read) : ∃ old v, exec cmd s
      = .next (enterIdle (react old (seqEnding tr.request.order (.accept d0 d1 d2) v)))
    ∧ Freed .sequence tr.request.order.device s v ∧ old.table = s.table ∧ old.ssq = s.ssq := by
  obtain ⟨l, hexec⟩ := exec_ending hends
  have hfreed := freed_of_noFailure (noFailure_of_accept (tr := tr) (d0 := d0) (d1 := d1) (d2 := d2) (s := s))
    (fun h => hd (Order.device_eq_sensors.mp h)) l
  rw [ended_of_other hd, clientActs_sequence hclient] at hexec
  rw [hclient] at hfreed hexec
  exact ⟨setReplyLine l s, _, hexec, hfreed, rfl, rfl⟩

variable (he : s.ssq.engine = .prelube)
include he

theorem prelube_runAccepted (ho : tr.request.order = .run) :
    ∃ t, exec cmd s = .next t ∧ t.ssq.runAccepted = true ∧ t.ssq.engine = .prelube := by
  obtain ⟨old, v, hexec, hfreed, htable, hold⟩ := exec_sequenceAccept hends hclient (by rw [ho]; decide)
  have hv : v.ssq.engine = .prelube := by rw [hfreed.ssq, he]
  rw [ho, seqEnding_run hv] at hexec
  have hkept := react_of_still (old := old) (s := { v with ssq := { v.ssq with runAccepted := true } }) (Or.inl hv)
    ((table_of_outer hfreed.outer).trans htable.symm) (by rw [hold]; exact hv.trans he.symm)
  refine ⟨_, hexec, ?_, ?_⟩ <;> rw [enterIdle_ssq, hkept.ssq]
  exact hv

theorem prelube_statusLow (ho : tr.request.order = .status) (hlow : d0.getLsbD 0 = false) :
    ∃ t, exec cmd s = .next t ∧ t.ssq.engine = .prelube ∧ t.cpa.claim = s.cpa.claim := by
  obtain ⟨old, v, hexec, hfreed, htable, hold⟩ := exec_sequenceAccept hends hclient (by rw [ho]; decide)
  have hv : v.ssq.engine = .prelube := by rw [hfreed.ssq, he]
  rw [ho, seqEnding_status hv, if_neg (by rw [hlow]; decide)] at hexec
  have hkept := react_of_still (old := old) (s := v) (Or.inl hv)
    ((table_of_outer hfreed.outer).trans htable.symm) (by rw [hold]; exact hv.trans he.symm)
  refine ⟨_, hexec, ?_, ?_⟩
  · rw [enterIdle_ssq, hkept.engine, hv]
  · rw [enterIdle_cpa, hkept.cpa, hfreed.cpa]

omit hends hclient he in
theorem Freed.deviceFailed {c : Client} {d k : Device} {s u : State} (h : Freed c d s u) (hk : k ≠ d) :
    u.deviceFailed k = s.deviceFailed k := by
  obtain ⟨x, hx⟩ := h.health
  unfold State.deviceFailed; rw [hx, PerDevice.get_set_ne _ _ hk]

omit hends hclient he in
theorem Freed.lockoutActive {c : Client} {d : Device} {s u : State} (h : Freed c d s u) : u.lockoutActive = s.lockoutActive :=
  lockoutActive_of_faults fun k hk => h.faults k (by rintro rfl; cases hk)

omit hends hclient he in
theorem oilOk_of_failed {s : State} (h : s.deviceFailed .governor = true) : oilOk s = protectiveShutdown s := by
  unfold oilOk; rw [if_pos h]

omit hends hclient he in
theorem oilOk_of_sound {s : State} (h : s.deviceFailed .governor = false) : oilOk s = addSeq .engage (enter .cranking s) := by
  unfold oilOk; rw [if_neg (by rw [h]; decide)]

theorem prelube_statusOk (hestop : s.estop = false) (ho : tr.request.order = .status) (hok : d0.getLsbD 0 = true)
    (hgovernor : s.deviceFailed .governor = false) (hyield : s.mustYield = false) :
    ∃ t, exec cmd s = .next t ∧ t.ssq.engine = .cranking ∧ t.cpa.claim = s.cpa.claim ∧ t.seqHas .engage = true
      ∧ t.ssq.prelube = none ∧ t.ssq.prelubeTick = none ∧ t.ssq.crank = none := by
  obtain ⟨old, v, hexec, hfreed, htable, hold⟩ := exec_sequenceAccept hends hclient (by rw [ho]; decide)
  have hv : v.ssq.engine = .prelube := by rw [hfreed.ssq, he]
  have hsound : v.deviceFailed .governor = false := (hfreed.deviceFailed (by rw [ho]; decide)).trans hgovernor
  rw [ho, seqEnding_status hv, if_pos hok, oilOk_of_sound hsound] at hexec
  have hkept := kept_enter .cranking v
  have hfree : (enter .cranking v).estop = false := hkept.estop.trans (hfreed.estop.trans hestop)
  have hclaim : (enter .cranking v).cpa.claim = s.cpa.claim := by rw [enter_claim, hfreed.cpa]; rfl
  obtain ⟨l, r, hadded⟩ := addSeq_eq .engage (enter .cranking v)
  have hwaits : Waits .engage (addSeq .engage (enter .cranking v)) := waits_addSeq hfree
  have hentered : (enter .cranking v).ssq = v.ssq.entered .cranking := enter_ssq_of_ne (by decide) v
  have houter : (addSeq .engage (enter .cranking v)).outer = s.outer :=
    (outer_addSeq _ _).trans (hkept.outer.trans hfreed.outer)
  have hunyielding : clashTest (upkept (addSeq .engage (enter .cranking v))) = upkept (addSeq .engage (enter .cranking v)) := by
    refine clashTest_of_keep ((mustYield_of_same ((outer_upkept _).trans houter) ?_).trans hyield)
    rw [upkept_cpa, addSeq_cpa, hclaim]
  have hengine : (addSeq .engage (enter .cranking v)).ssq.engine = .cranking := (engine_addSeq _ _).trans (engine_enter _ _)
  have hundecided := react_of_unyielding (old := old) (Or.inr ⟨hengine, (estop_of_outer houter).trans hestop⟩) (Or.inr hunyielding)
  refine ⟨_, hexec, ?_, ?_, ?_, ?_⟩
  · rw [enterIdle_ssq, hundecided.engine, hengine]
  · rw [enterIdle_cpa, hundecided.cpa, addSeq_cpa, hclaim]
  · exact waits_iff.mp (waits_enterIdle (hundecided.waits ((estop_of_outer houter).trans hestop) _ hwaits))
  · rw [enterIdle_ssq, hundecided.ssq, hadded, hentered]
    exact ⟨rfl, rfl, rfl⟩

theorem prelube_statusFailed (ho : tr.request.order = .status) (hok : d0.getLsbD 0 = true) (hgovernor : s.deviceFailed .governor = true) :
    ∃ t, exec cmd s = .next t ∧ t.ssq.engine = shutdownOf s ∧ t.ssq.stopReason = .manual ∧ t.cpa.claim = none
      ∧ t.ssq.fuelOrder = false := by
  obtain ⟨old, v, hexec, hfreed, htable, hold⟩ := exec_sequenceAccept hends hclient (by rw [ho]; decide)
  have hv : v.ssq.engine = .prelube := by rw [hfreed.ssq, he]
  have hfailed : v.deviceFailed .governor = true := (hfreed.deviceFailed (by rw [ho]; decide)).trans hgovernor
  rw [ho, seqEnding_status hv, if_pos hok, oilOk_of_failed hfailed] at hexec
  have hprotected := protected_protectiveShutdown v
  have hundecided := react_of_calm old hprotected.calm
  refine ⟨_, hexec, ?_, ?_, ?_, ?_⟩
  · rw [enterIdle_ssq, hundecided.engine, hprotected.engine]
    exact shutdownOf_of_same (lmn_of_outer hfreed.outer) hfreed.lockoutActive
  · rw [enterIdle_ssq, hundecided.stopReason, hprotected.stopReason]
  · rw [enterIdle_cpa, hundecided.cpa, hprotected.claim]
  · rw [enterIdle_ssq, hundecided.fuelOrder, hprotected.fuelOrder]

end

/-- A device's third transport failure begins FAILED. -/
theorem changeHealth_third {d : Device} {e : Ending} {s : State} (he : e.transport = true) (hi : e ≠ .inhibited)
    (hcount : (s.erc.health.get d).consecutive = 2) :
    changeHealth d ((s.erc.health.get d).after e) s = becomeFailed d (setHealth d ((s.erc.health.get d).after e) s) :=
  changeHealth_of_begins ((begins_iff _ _).mpr ⟨he, hi, hcount⟩)

theorem becomeFailed_prelube {s : State} (he : s.ssq.engine = .prelube) :
    becomeFailed .prelube s = raiseFault (.deviceFailed .prelube) (prelubeFail s) := by
  have hfailed : ssqDeviceFailed .prelube s = prelubeFail s := if_pos he
  unfold becomeFailed; simp only [reduceCtorEq, false_and, if_false]
  exact congrArg (raiseFault (.deviceFailed .prelube)) hfailed

/-- What the client of an ending finds after a third failure. -/
theorem exec_thirdFailure {cmd : Instr} {d : Device} {tr : Transaction} {e : Ending} {s : State} (hends : EndsWith cmd tr e s)
    (hthird : ThirdFailure d tr e s) (hd : d ≠ .sensors) : ∃ old v, exec cmd s
      = .next (enterIdle (react old (clientActs tr e (setSlot tr.client .empty (becomeFailed d v)))))
    ∧ v.ssq = s.ssq ∧ v.cpa = s.cpa ∧ v.nsp = s.nsp ∧ v.fcl = s.fcl ∧ v.clc = s.clc ∧ v.outer = s.outer
    ∧ v.erc.slots = s.erc.slots ∧ old.outer = s.outer ∧ old.ssq = s.ssq
    ∧ v.erc.health = s.erc.health.set d ((s.erc.health.get d).after e) := by
  obtain ⟨hdevice, htransport, hcount⟩ := hthird
  obtain ⟨l, hexec⟩ := exec_ending hends
  have hread : tr.request.order ≠ .read := fun h => hd (hdevice ▸ by rw [h]; rfl)
  have hfails := changeHealth_third (s := setReplyLine l s) htransport (EndsWith.ne_inhibited hends) hcount
  rw [ended_of_other hread, healthStep_of_other (by rw [hdevice]; exact hd), hdevice, hfails] at hexec
  exact ⟨setReplyLine l s, _, hexec, rfl, rfl, rfl, rfl, rfl, rfl, rfl, rfl, rfl, rfl⟩

/-- The third transport failure of the prelube pump in PRELUBE fails the prelube. -/
theorem prelube_thirdFailure {cmd : Instr} {tr : Transaction} {e : Ending} {s : State} (hends : EndsWith cmd tr e s)
    (hthird : ThirdFailure .prelube tr e s) (he : s.ssq.engine = .prelube) :
    ∃ t, exec cmd s = .next t ∧ t.ssq.engine = .stopped ∧ t.ssq.stopReason = .manual ∧ t.cpa.claim = none
      ∧ t.faultActive .prelubeFail = true ∧ t.faultActive (.deviceFailed .prelube) = true := by
  obtain ⟨old, v, hexec, hssq, -⟩ := exec_thirdFailure hends hthird (by decide)
  obtain ⟨hdevice, htransport, -⟩ := hthird
  rw [becomeFailed_prelube (by rw [hssq, he])] at hexec
  have hup := givenUp_prelubeFail v
  generalize prelubeFail v = p at hexec hup
  have honly := notchOnly_of_transport htransport (by rw [hdevice]; decide) (setSlot tr.client .empty (raiseFault (.deviceFailed .prelube) p))
  generalize clientActs tr e (setSlot tr.client .empty (raiseFault (.deviceFailed .prelube) p)) = w at honly hexec
  have hssq' : w.ssq = p.ssq := honly.ssq.trans (raiseFault_ssq (.deviceFailed .prelube) p)
  have hcpa' : w.cpa = p.cpa := honly.cpa.trans (raiseFault_cpa (.deviceFailed .prelube) p)
  have hfcl' : w.fcl = (raiseFault (.deviceFailed .prelube) p).fcl := honly.fcl
  have hundecided := react_of_calm old (hup.calm.of_ssq hssq')
  refine ⟨_, hexec, ?_, ?_, ?_, ?_, ?_⟩
  · rw [enterIdle_ssq, hundecided.engine, hssq', hup.engine]
  · rw [enterIdle_ssq, hundecided.stopReason, hssq', hup.stopReason]
  · rw [enterIdle_cpa, hundecided.cpa, hcpa', hup.claim]
  · rw [faultActive_of_fcl (enterIdle_fcl _), hundecided.faults _ (by decide), faultActive_of_fcl hfcl',
      faultActive_raiseFault_ne (by decide)]
    exact hup.fault
  · rw [faultActive_of_fcl (enterIdle_fcl _), hundecided.faults _ (by decide), faultActive_of_fcl hfcl']
    exact raiseFault_active _ _

/-! ## The tick of the prelube (R82) -/

/-- The prelube tick started again. -/
def tickAgain (s : State) : State := { s with ssq := { s.ssq with prelubeTick := some 500 } }

/-- The order that a tick asks for. -/
def State.asked (s : State) : Order := if s.ssq.runAccepted then .status else .run

theorem prelubeTick_eq (s : State) : prelubeTick s = if (tickAgain s).seqHas s.asked then tickAgain s else addSeq s.asked (tickAgain s) :=
  rfl

/-- After a tick the order asked for is on its way. -/
theorem prelubeTick_asks {s : State} (hestop : s.estop = false) : Waits s.asked (prelubeTick s)
    ∧ (prelubeTick s).ssq.engine = s.ssq.engine ∧ (prelubeTick s).ssq.prelubeTick = some 500 ∧ (prelubeTick s).cpa = s.cpa
    ∧ (prelubeTick s).outer = s.outer := by
  rw [prelubeTick_eq]; split
  next h => exact ⟨waits_iff.mpr h, rfl, rfl, rfl, rfl⟩
  next =>
    obtain ⟨l, r, hadded⟩ := addSeq_eq s.asked (tickAgain s)
    have hwaits : Waits s.asked (addSeq s.asked (tickAgain s)) := waits_addSeq (s := tickAgain s) hestop
    rw [hadded] at hwaits ⊢
    exact ⟨hwaits, rfl, rfl, rfl, rfl⟩

theorem prelubeTick_react {s : State} (htick : s.ssq.prelubeTick.isSome = true) (he : s.ssq.engine = .prelube) (hestop : s.estop = false) :
    ∃ t, exec .prelubeTick s = .next t ∧ t.ssq.prelubeTick = some 500 ∧ t.ssq.engine = .prelube
      ∧ t.cpa.claim = s.cpa.claim ∧ t.seqHas s.asked = true := by
  have hexec : exec .prelubeTick s = .next (react s (prelubeTick s)) :=
    congrArg Host.Outcome.next (phaseExpiry_of_running (act := prelubeTick) htick he)
  obtain ⟨hwaits, hengine, hclock, hcpa, houter⟩ := prelubeTick_asks hestop
  generalize prelubeTick s = w at hexec hwaits hengine hclock hcpa houter
  have hundecided := react_of_still (old := s) (s := w) (Or.inl (hengine.trans he)) (table_of_outer houter) hengine
  refine ⟨_, hexec, ?_, ?_, ?_, ?_⟩
  · rw [hundecided.ssq]; exact hclock
  · rw [hundecided.engine, hengine, he]
  · rw [hundecided.cpa, hcpa]
  · exact waits_iff.mp (hundecided.waits ((estop_of_outer houter).trans hestop) _ hwaits)

/-- Settles O39: the tick asks again, the timer and the third failure give up, and an accepted STATUS lets the engine crank. -/
theorem prelubeAsksAndFails : Obligations.PrelubeAsksAndFails := by
  refine ⟨fun s htick he hestop => prelubeTick_react htick he hestop, fun s htimer he => ?_, fun cmd tr d0 d1 d2 s hends hclient he hestop =>
    ⟨prelube_runAccepted hends hclient he, fun ho hok hg hy => prelube_statusOk hends hclient he hestop ho hok hg hy,
      prelube_statusFailed hends hclient he, prelube_statusLow hends hclient he⟩,
    fun cmd tr e s hends hthird he => prelube_thirdFailure hends hthird he⟩
  have hexec : exec .prelubeTimerExpiry s = .next (react s (prelubeFail s)) :=
    congrArg Host.Outcome.next (phaseExpiry_of_running (act := prelubeFail) htimer he)
  have hup := givenUp_prelubeFail s
  generalize prelubeFail s = p at hexec hup
  have hundecided := react_of_calm s hup.calm
  refine ⟨_, hexec, hundecided.engine.trans hup.engine, hundecided.stopReason.trans hup.stopReason, by rw [hundecided.cpa, hup.claim],
    (hundecided.faults _ (by decide)).trans hup.fault, by rw [hundecided.ssq]; exact hup.attempts, fun hfirst hactive => ?_,
    fun hestop => waits_iff.mp (hundecided.waits ((estop_of_outer hup.outer).trans hestop) _ (hup.stop hestop))⟩
  rw [hundecided.records]
  show p.fcl.firstFault = _
  rw [hup.firstFault, raiseFault_firstFault rfl hactive hfirst, he]

end Sys2Proof.Machine
end

section
/-! Obligation O41: the phases of the start, from the ENGAGE accepted to RUNNING (R84 to R89). -/

namespace Sys2Proof.Machine

/-! ## The dwell clock through a reaction in RUNNING -/

theorem stepTest_dwell {s : State} (h : s.nsp.dwell = some 0) : (stepTest s).nsp.dwell = some 0 := by
  have hpost (r : Request) (u : State) (hu : u.nsp.dwell = some 0) : (post .notch r u).nsp.dwell = some 0 := by
    rw [post_nsp]; exact hu
  rcases stepTest_cases s with ⟨-, hs⟩ | ⟨-, hs⟩ | ⟨-, hs⟩ | ⟨-, -, -, hs⟩ <;> rw [hs]
  · unfold startUp; simp only []; split
    · rfl
    · exact hpost _ _ h
  · unfold startDown; simp only []; split
    · rfl
    · exact hpost _ _ h
  · unfold startRetry; simp only []; split
    · rfl
    · exact hpost _ _ h
  · exact h

/-- The postings and the step test leave a dwell clock that stands at 0. -/
theorem postOrders_dwell (old : State) {s : State} (h : s.nsp.dwell = some 0) (hready : s.estop = false ∨ s.ssq.engine ≠ .cranking) :
    (postOrders old s).nsp.dwell = some 0 := by
  obtain ⟨l, hl⟩ := pumpProtect_nsp s
  have hpumped : (pumpSequence (pumpProtect s)).nsp.dwell = some 0 := by
    rw [(pumpSequence_leaves (pumpProtect_ready hready)).1, hl]; exact h
  unfold postOrders; simp only []; split
  · exact stepTest_dwell hpumped
  · exact hpumped

theorem react_dwell_of_running (old : State) {s : State} (hengine : s.ssq.engine = .running) (hstop : s.ssq.stopInProgress = false)
    (hidle : s.ssq.idleElapsed = false) (h : s.nsp.dwell = some 0) : (react old s).nsp.dwell = some 0 := by
  obtain ⟨x, hdecided⟩ := decideBlocks_of_running old hengine hstop hidle
  obtain ⟨y, hy⟩ := upkept_nsp s
  have hclock : (setIdle x (upkept s)).nsp.dwell = some 0 := by
    show (upkept s).nsp.dwell = some 0
    rw [hy]; exact h
  have hengine' : (setIdle x (upkept s)).ssq.engine = .running := by
    show (upkept s).ssq.engine = _
    rw [upkept_ssq, hengine]
  unfold react; rw [hdecided]
  exact postOrders_dwell old hclock (Or.inr (by rw [hengine']; decide))

theorem enterRunning_dwell (s : State) : (enter .running s).nsp.dwell = some 0 := by rw [enterRunning_nsp]

/-- The Start Sequencer's group in RUNNING entered anew, through the reaction. -/
theorem enterRunning_through {s t : State} {x : Timer} (h : Undecided (setIdle x (enter .running s)) t) :
    ∃ y z, t.ssq = { s.ssq.entered .running with
      autostopIdle := y, idleElapsed := z, seqList := t.ssq.seqList, protList := t.ssq.protList, pumpHeld := t.ssq.pumpHeld } := by
  obtain ⟨y, z, hq⟩ := enter_ssq .running s
  refine ⟨x, z, ?_⟩
  have hset : (setIdle x (enter .running s)).ssq = { s.ssq.entered .running with autostopIdle := x, idleElapsed := z } := by
    show { (enter .running s).ssq with autostopIdle := x } = _
    rw [hq]
  rw [h.ssq, hset]

/-! ## An accepted READ in its steps (R137, R144) -/

/-- A health record set with no FAILED begun: nothing of the deciding blocks, of the Notch Stepper or of the sensor record changes. -/
structure Noted (d : Device) (s u : State) : Prop where
  ssq : u.ssq = s.ssq
  cpa : u.cpa = s.cpa
  nsp : u.nsp = s.nsp
  clc : u.clc = s.clc
  outer : u.outer = s.outer
  slots : u.erc.slots = s.erc.slots
  faults : ∀ k, k ≠ .deviceFailed d → u.faultActive k = s.faultActive k
  records : u.fcl = { s.fcl with active := u.fcl.active }

theorem noted_changeHealth {d : Device} {x : Health} {l : ReplyLine} {s : State}
    (h : (x.failed && !(s.erc.health.get d).failed) = false) : Noted d s (changeHealth d x (setReplyLine l s)) := by
  rcases changeHealth_of_calm (s := setReplyLine l s) h with hc | hc <;> rw [hc]
  · exact ⟨rfl, rfl, rfl, rfl, rfl, rfl, fun _ _ => rfl, rfl⟩
  · have hself : (FaultKind.deviceFailed d).selfClearing = true := rfl
    have hfcl : (clearFault (.deviceFailed d) (setHealth d x (setReplyLine l s))).fcl
        = { s.fcl with active := dropKind (.deviceFailed d) s.fcl.active } := by
      unfold clearFault; rw [if_pos hself]; rfl
    exact ⟨clearFault_ssq _ _, clearFault_cpa _ _, clearFault_nsp _ _, clearFault_clc _ _, outer_clearFault _ _,
      by rw [clearFault_erc]; rfl, fun k hk => clearFault_active_ne hk _, by rw [hfcl]⟩

/-- The sensor record of an accepted READ (R176). -/
def readRecord (d0 d1 d2 : Byte) : SensorRecord := ⟨temperatureOf d0, temperatureOf d1, d2.getLsbD 0, 0, .valid⟩

theorem clientActs_poll {tr : Transaction} (h : tr.client = .poll) (e : Ending) (s : State) : clientActs tr e s = s := by
  unfold clientActs; rw [h]

/-- An accepted READ of the poll: health, record, the Start Sequencer's update, the derates. The health's own autostop test finds
nothing where the engine does not run, or its idle time has not elapsed. -/
theorem exec_readAccept {cmd : Instr} {tr : Transaction} {d0 d1 d2 : Byte} {s : State} (hends : EndsWith cmd tr (.accept d0 d1 d2) s)
    (hread : tr.request.order = .read) (hclient : tr.client = .poll) (hidle : s.ssq.engine ≠ .running ∨ s.ssq.idleElapsed = false) :
    ∃ old v, exec cmd s = .next (enterIdle (react old (setSlot .poll .empty
        (updateDerates (ssqSensorUpdate (setSensor (readRecord d0 d1 d2) v))))))
      ∧ Noted .sensors s v ∧ old.table = s.table ∧ old.outer = s.outer ∧ old.ssq = s.ssq ∧ old.nsp = s.nsp := by
  obtain ⟨l, hexec⟩ := exec_ending hends
  have hd : tr.request.order.device = .sensors := by rw [hread]; rfl
  have hnoted : Noted .sensors s (changeHealth .sensors ((s.erc.health.get .sensors).after (.accept d0 d1 d2)) (setReplyLine l s)) :=
    noted_changeHealth rfl
  have hhealth : healthStep tr (.accept d0 d1 d2) (setReplyLine l s)
      = changeHealth .sensors ((s.erc.health.get .sensors).after (.accept d0 d1 d2)) (setReplyLine l s) := by
    have htest : autostopTest (changeHealth .sensors ((s.erc.health.get .sensors).after (.accept d0 d1 d2)) (setReplyLine l s))
        = changeHealth .sensors ((s.erc.health.get .sensors).after (.accept d0 d1 d2)) (setReplyLine l s) := by
      rcases hidle with h | h
      · exact autostopTest_of_ne (by rw [hnoted.ssq]; exact h)
      · exact autostopTest_of_idle (by rw [hnoted.ssq]; exact h)
    unfold healthStep; simp only [hd, Ending.accepted, if_true]
    exact ite_test htest
  have hended : ended tr (.accept d0 d1 d2) (setReplyLine l s) = setSlot .poll .empty (updateDerates (ssqSensorUpdate
      (setSensor (readRecord d0 d1 d2)
        (changeHealth .sensors ((s.erc.health.get .sensors).after (.accept d0 d1 d2)) (setReplyLine l s))))) := by
    unfold ended
    rw [clientEnding_eq, clientActs_poll hclient, hclient, hhealth]
    have hsensed (u : State) : sensorStep tr (.accept d0 d1 d2) u = sensorUpdate d0 d1 d2 u := if_pos hread
    rw [hsensed]; rfl
  rw [hended] at hexec
  exact ⟨setReplyLine l s, _, hexec, hnoted, rfl, rfl, rfl, rfl⟩

theorem coolantAtLeast_read {d0 d1 d2 : Byte} {n : Int} (s : State) :
    (setSensor (readRecord d0 d1 d2) s).coolantAtLeast n = decide (n ≤ temperatureOf d0) := by
  unfold State.coolantAtLeast State.sensorValid setSensor readRecord; simp

/-- In IDLE_WARM a warm record with the oil pressure sound brings RUNNING (R89). -/
theorem ssqSensorUpdate_warm {s : State} (he : s.ssq.engine = .idleWarm) (hoil : s.erc.sensor.oilLow = false)
    (hwarm : s.coolantAtLeast 40 = true) : ssqSensorUpdate s = enter .running s := by
  have hrun : (enter .running s).ssq.engine = .running := engine_enter _ _
  unfold ssqSensorUpdate; simp only [hoil, he, hwarm, Bool.false_and, decide_true, Bool.and_true, Bool.false_eq_true, if_false, if_true]
  rw [autostopTest_of_idle (enterRunning_idleElapsed s), triggerTest_of_ne (by rw [hrun]; decide) (by rw [hrun]; decide)]

/-! ## The phases -/

/-- ENGAGE accepted in CRANKING, through the reaction. -/
theorem engage_accepted {cmd : Instr} {tr : Transaction} {d0 d1 d2 : Byte} {s : State} (hends : EndsWith cmd tr (.accept d0 d1 d2) s)
    (hclient : tr.client = .sequence) (ho : tr.request.order = .engage) (he : s.ssq.engine = .cranking) (hestop : s.estop = false) :
    ∃ t, exec cmd s = .next t ∧ t.ssq.engine = .cranking ∧ t.ssq.fuelOrder = true ∧ t.ssq.crank = some 15000
      ∧ t.ssq.turnCheck = some 3000 ∧ t.ssq.attempts = s.ssq.attempts ∧ t.cpa.claim = s.cpa.claim := by
  obtain ⟨old, v, hexec, hfreed, htable, hold⟩ := exec_sequenceAccept hends hclient (by rw [ho]; decide)
  have hv : v.ssq.engine = .cranking := by rw [hfreed.ssq, he]
  have hact : seqEnding .engage (.accept d0 d1 d2) v = engageAccepted v := by
    unfold seqEnding; simp only [hv, Ending.accepted, if_true]
  rw [ho, hact] at hexec
  have hundecided := react_of_still (old := old) (s := engageAccepted v) (Or.inr ⟨hv, hfreed.estop.trans hestop⟩)
    ((table_of_outer hfreed.outer).trans htable.symm) (by rw [hold]; exact hv.trans he.symm)
  refine ⟨_, hexec, ?_, ?_, ?_, ?_, ?_, ?_⟩
  all_goals first | rw [enterIdle_cpa, hundecided.cpa] | rw [enterIdle_ssq, hundecided.ssq]
  · exact hv
  · rfl
  · rfl
  · rfl
  · show v.ssq.attempts = s.ssq.attempts
    rw [hfreed.ssq]
  · exact congrArg Cpa.claim hfreed.cpa

/-- The engine has caught: FIRING, with the starter and the pump to be let go. -/
theorem caught_react (old s : State) : (react old (caught s)).ssq.engine = .firing
    ∧ (react old (caught s)).ssq.firing = some 20000 ∧ (react old (caught s)).cpa.claim = none
    ∧ (react old (caught s)).ssq.fuelOrder = s.ssq.fuelOrder ∧ (react old (caught s)).ssq.crank = none
    ∧ (react old (caught s)).ssq.turnCheck = none
    ∧ (s.estop = false → Waits .disengage (react old (caught s)) ∧ Waits .stop (react old (caught s))) := by
  obtain ⟨l, r, hadded⟩ := addSeq_eq .disengage s
  obtain ⟨l', r', hadded'⟩ := addSeq_eq .stop (addSeq .disengage s)
  have hssq : (caught s).ssq = ({ s.ssq with seqList := l', releasePending := r' } : Ssq).entered .firing := by
    show (enter .firing (addSeq .stop (addSeq .disengage s))).ssq = _
    rw [enter_ssq_of_ne (by decide), hadded', hadded]
  have houter : (caught s).outer = s.outer := (outer_enter _ _).trans ((outer_addSeq _ _).trans (outer_addSeq _ _))
  have hwaits (hestop : s.estop = false) : Waits .disengage (caught s) ∧ Waits .stop (caught s) := by
    have hfree : (addSeq .disengage s).estop = false := (estop_of_outer (outer_addSeq _ _)).trans hestop
    have hkept := kept_enter .firing (addSeq .stop (addSeq .disengage s))
    exact ⟨hkept.waits (Waits.addSeq (waits_addSeq hestop) (fun h => nomatch h) (fun _ => by decide)), hkept.waits (waits_addSeq hfree)⟩
  have hclaim : (caught s).cpa.claim = none := enter_claim _ _
  have hengine : (caught s).ssq.engine = .firing := engine_enter _ _
  generalize caught s = u at hssq houter hwaits hclaim hengine ⊢
  have hundecided := react_of_calm old (Calm.of_engine (s := u) (Or.inr (Or.inr (Or.inr (Or.inl hengine)))))
  refine ⟨hundecided.engine.trans hengine, ?_, by rw [hundecided.cpa, hclaim], ?_, ?_, ?_, fun hestop => ?_⟩
  · rw [hundecided.ssq, hssq]; rfl
  · rw [hundecided.fuelOrder, hssq]; exact Bool.and_true _
  · rw [hundecided.ssq, hssq]; rfl
  · rw [hundecided.ssq, hssq]; rfl
  · have hfree : u.estop = false := (estop_of_outer houter).trans hestop
    exact ⟨hundecided.waits hfree _ (hwaits hestop).1, hundecided.waits hfree _ (hwaits hestop).2⟩

/-- The rest timer stopped. -/
def stopRest (s : State) : State := { s with ssq := { s.ssq with rest := none } }

theorem restOver_eq (s : State) : restOver s = if s.lmn.silence then enter .claiming (stopRest s) else stopRest s := rfl

/-- Settles O41: each phase ends by its event, and the reaction keeps the engine where it has come. -/
theorem phaseTimersMoveTheStartOn : Obligations.PhaseTimersMoveTheStartOn := by
  refine ⟨fun cmd tr d0 d1 d2 s hends hclient ho he hestop => engage_accepted hends hclient ho he hestop, fun s htimer he => ?_,
    fun s htimer he => ⟨fun hsilence => ?_, fun hsilence => ?_⟩, fun s htimer he => ?_,
    fun cmd tr d0 d1 d2 s hends hclient ho he hoil hwarm => ?_, fun s htimer he hgate hsilence hestop => ?_⟩
  · exact ⟨_, congrArg Host.Outcome.next (phaseExpiry_of_running (act := caught) htimer he), caught_react s s⟩
  · have hexec : exec .restTimerExpiry s = .next (react s (restOver s)) :=
      congrArg Host.Outcome.next (phaseExpiry_of_running (act := restOver) htimer he)
    rw [restOver_eq, if_pos hsilence] at hexec
    obtain ⟨hundecided, hclaim⟩ := react_enterClaiming s (s := stopRest s) (by show s.ssq.engine ≠ _; rw [he]; decide)
    exact ⟨_, hexec, hundecided.engine.trans (engine_enter _ _), by rw [hundecided.cpa, hclaim]⟩
  · have hexec : exec .restTimerExpiry s = .next (react s (restOver s)) :=
      congrArg Host.Outcome.next (phaseExpiry_of_running (act := restOver) htimer he)
    rw [restOver_eq, if_neg (by rw [hsilence]; decide)] at hexec
    have hundecided := react_of_calm s (Calm.of_engine (s := stopRest s) (Or.inr (Or.inr (Or.inl he))))
    exact ⟨_, hexec, hundecided.engine.trans he, by rw [hundecided.ssq]; rfl⟩
  · have hexec : exec .warmUpTimerExpiry s = .next (react s (enter .running s)) :=
      congrArg Host.Outcome.next (phaseExpiry_of_running (act := enter .running) htimer he)
    obtain ⟨x, hundecided⟩ := react_enterRunning s s
    obtain ⟨y, z, hssq⟩ := enterRunning_through hundecided
    refine ⟨_, hexec, ?_, react_dwell_of_running s (engine_enter _ _) (enter_stopInProgress _ _) (enterRunning_idleElapsed s)
      (enterRunning_dwell s), ?_, ?_⟩ <;> rw [hssq]
    · rfl
    · rfl
    · exact Bool.and_true _
  · obtain ⟨old, v, hexec, hnoted, -⟩ := exec_readAccept hends ho hclient (Or.inl (by rw [he]; decide))
    have hcoolant : (40 : Int) ≤ temperatureOf d0 := by unfold temperatureOf; omega
    have hupdate : ssqSensorUpdate (setSensor (readRecord d0 d1 d2) v) = enter .running (setSensor (readRecord d0 d1 d2) v) :=
      ssqSensorUpdate_warm (by show v.ssq.engine = _; rw [hnoted.ssq, he]) hoil
        ((coolantAtLeast_read v).trans (decide_eq_true hcoolant))
    rw [hupdate] at hexec
    generalize setSensor (readRecord d0 d1 d2) v = w at hexec
    have hrunning : (setSlot .poll .empty (updateDerates (enter .running w))).ssq = (enter .running w).ssq := rfl
    obtain ⟨x, hundecided⟩ := react_of_running old (s := setSlot .poll .empty (updateDerates (enter .running w)))
      (by rw [hrunning]; exact engine_enter _ _) (by rw [hrunning]; exact enter_stopInProgress _ _)
      (by rw [hrunning]; exact enterRunning_idleElapsed w)
    obtain ⟨y, z, hq⟩ := enter_ssq .running w
    refine ⟨_, hexec, ?_, ?_⟩ <;> rw [enterIdle_ssq, hundecided.ssq]
    · show (enter .running w).ssq.engine = _
      exact engine_enter _ _
    · show (enter .running w).ssq.warmUp = none
      rw [hq]; rfl
  · have hexec : exec .turnCheckExpiry s = .next (react s (turnCheck s)) :=
      congrArg Host.Outcome.next (phaseExpiry_of_running (act := turnCheck) htimer he)
    have hpassed : turnCheck s = { s with ssq := { s.ssq with turnCheck := none } } := by
      refine if_neg ?_
      rintro (h | h)
      · exact absurd hgate (Nat.not_le.mpr h)
      · exact nomatch hsilence.symm.trans h
    rw [hpassed] at hexec
    have hundecided := react_of_still (old := s) (s := { s with ssq := { s.ssq with turnCheck := none } }) (Or.inr ⟨he, hestop⟩) rfl rfl
    refine ⟨_, hexec, ?_, ?_, ?_, ?_⟩ <;> rw [hundecided.ssq]
    exact he

end Sys2Proof.Machine
end

section
/-! Obligation O46: the speed readings, the gate and the silence (R91 to R93, R97). -/

namespace Sys2Proof.Machine

/-! ## The class rows -/

theorem engineClass_of_effect {k : Fin 4} {s : State} (h : classInEffect s k) : s.engineClass = k := by
  unfold State.engineClass
  rcases h with ⟨c, hc, rfl⟩ | ⟨hc, x, hx, rfl⟩
  · rw [hc]
  · rw [hc, hx]; rfl

theorem classTable_getElem (k : Fin 4) : classTable[k.val]? = some (classRow k) := by
  fin_cases k <;> rfl

theorem fullSpeed (k : Fin 4) : (classRow k).idle + 8 * (classRow k).stepSpeed = [904, 1030, 1000, 880].getD k.val 0 := by
  fin_cases k <;> rfl

/-! ## The gate -/

theorem exec_gateEnd {s : State} (h : s.lmn.gateTimer.isSome = true) :
    exec .gateEnd s = .next (react s (watchGate s.gateResult (deliverGate s.gateResult (closeGate s.gateResult s)))) := by
  have hexec : exec .gateEnd s = execGateEnd s := rfl
  rw [hexec]; unfold execGateEnd
  rw [if_neg (by simpa using Option.isSome_iff_ne_none.mp h)]

/-- A watch that ends and a deviation that clears are all that the gate does to the Notch Stepper (R131). -/
theorem watchGate_eq (r : Nat) (s : State) : ∃ w, watchGate r s = { s with nsp := { s.nsp with watch := w } }
    ∨ watchGate r s = clearFault .speedDeviation { s with nsp := { s.nsp with watch := w } } := by
  unfold watchGate; simp only []
  split
  case h_1 w hw =>
    by_cases hband : s.inBand w.notch r = true
    · exact ⟨none, by rw [if_pos hband]; exact ite_test_cases _ _ _⟩
    · refine ⟨s.nsp.watch, ?_⟩
      rw [if_neg hband]
      exact ite_test_cases _ _ _
  case h_2 => exact ⟨s.nsp.watch, ite_test_cases _ _ _⟩

theorem outer_watchGate (r : Nat) (s : State) : (watchGate r s).outer = s.outer := by
  obtain ⟨w, h | h⟩ := watchGate_eq r s
  · rw [h]; rfl
  · rw [h]; exact outer_clearFault _ _

/-- What the gate leaves of the inputs but the force. -/
theorem deliverGate_lmn (r : Nat) (s : State) :
    ∃ b, (deliverGate r s).lmn = { s.lmn with overspeedForce := b } := by
  unfold deliverGate; split
  · refine ⟨false, ?_⟩
    show { (ssqOverspeed (setForce true s)).lmn with overspeedForce := false } = _
    rw [lmn_of_outer (outer_ssqOverspeed (setForce true s))]; rfl
  · exact ⟨s.lmn.overspeedForce, lmn_of_outer (outer_ssqGate r s)⟩

/-! ## The silence (R92) -/

theorem exec_silenceTimerExpiry {s : State} (h : s.lmn.silenceTimer.isSome = true) :
    exec .silenceTimerExpiry s = .next (react s (ssqSilence (setSilence s))) := by
  have hexec : exec .silenceTimerExpiry s = execSilenceTimerExpiry s := rfl
  rw [hexec]; unfold execSilenceTimerExpiry
  rw [if_neg (by simpa using Option.isSome_iff_ne_none.mp h)]

/-- The silence ends a shutdown in STOPPED or LOCKED_OUT (R93). -/
theorem shutdownEnd_engine {s : State} (hr : s.ssq.stopReason = .manual) :
    (shutdownEnd s).ssq.engine = (if s.lockoutActive then .lockedOut else .stopped) ∧ Calm (shutdownEnd s) := by
  unfold shutdownEnd
  by_cases hlock : s.lockoutActive = true
  · rw [if_pos hlock, if_pos hlock]
    exact ⟨engine_enter _ _, .of_engine (Or.inr (Or.inl (engine_enter _ _)))⟩
  · rw [if_neg hlock, if_neg hlock, enterStopped_of_manual (by rw [hr]; decide)]
    exact ⟨engine_enter _ _, .of_stopped (engine_enter _ _) (by rw [enter_stopReason, hr]; decide)⟩

/-! ## The stall (R97) -/

theorem stall_lockout (s : State) : (raiseFault .stall s).lockoutActive = s.lockoutActive :=
  lockoutActive_of_faults fun k hk => faultActive_raiseFault_ne (fun h => by subst h; cases hk) s

/-- A stall seen from the reaction: STALL is active, and the engine is where a protective shutdown takes it. -/
theorem stall_react (old s : State) : (react old (stall s)).faultActive .stall = true ∧ (react old (stall s)).ssq.fuelOrder = false
    ∧ (react old (stall s)).ssq.stopReason = .manual ∧ ProtectiveOrdersWait (protectiveOrders s) s (react old (stall s))
    ∧ (react old (stall s)).ssq.engine = shutdownOf s := by
  have hprot : Protected (raiseFault .stall s) (stall s) := protected_protectiveShutdown _
  have hthrough := react_of_calm old hprot.calm
  have hfault : (stall s).faultActive .stall = true :=
    (hprot.faults .stall (by decide) (by decide)).trans (raiseFault_active .stall s)
  have hof : shutdownOf (raiseFault .stall s) = shutdownOf s :=
    shutdownOf_of_same (lmn_of_outer (outer_raiseFault .stall s)) (stall_lockout s)
  have horders : protectiveOrders (raiseFault .stall s) = protectiveOrders s := by
    refine protectiveOrders_of_ssq ?_ ?_ ?_ <;> rw [raiseFault_ssq]
  have hwait := hprot.ordersWait old
  rw [horders] at hwait
  refine ⟨?_, hthrough.fuelOrder.trans hprot.fuelOrder, hthrough.stopReason.trans hprot.stopReason, ?_,
    hthrough.engine.trans (hprot.engine.trans hof)⟩
  · rw [hthrough.faults .stall (by decide)]; exact hfault
  · unfold ProtectiveOrdersWait at hwait ⊢
    rw [raiseFault_erc] at hwait; exact hwait

theorem shutdownOf_of_silence {s : State} (h : s.lmn.silence = true) :
    shutdownOf s = if s.lockoutActive then .lockedOut else .stopped := by rw [shutdownOf_eq, if_pos h]

theorem shutdownOf_of_turning {s : State} (h : s.lmn.silence = false) : shutdownOf s = .shutdown := by
  rw [shutdownOf_eq, if_neg (by rw [h]; decide)]

/-- Settles O46: a pulse restarts the silence, the gate shows its speed, and the silence takes each engine state where R92 says. -/
theorem speedReadings : Obligations.SpeedReadings := by
  refine ⟨fun k s h => ?_, fun us s hreset hcount => ?_, fun us s hcount hus => ?_, fun s htimer => ?_, fun s htimer => ?_⟩
  · have hrow : s.row = classRow k := by unfold State.row; rw [engineClass_of_effect h]
    refine ⟨by rw [hrow]; exact classTable_getElem k, fun n => rfl, ?_⟩
    unfold State.notchSpeed; rw [hrow]; exact fullSpeed k
  · have hcounts : s.countsPulse us = true := by
      unfold State.countsPulse; rw [hreset]
      rcases hcount with h | h <;> simp [h]
    have hexec : exec (.speedPulse us) s = execSpeedPulse us s := rfl
    rw [hexec]; unfold execSpeedPulse
    rw [if_pos hcounts]; rfl
  · have hcounts : s.countsPulse us = false := by
      unfold State.countsPulse; rw [hcount]
      simp [show ¬ 100 ≤ us by omega]
    have hexec : exec (.speedPulse us) s = execSpeedPulse us s := rfl
    rw [hexec]; unfold execSpeedPulse
    rw [hcounts]; rfl
  · refine ⟨_, exec_gateEnd htimer, ?_⟩
    obtain ⟨b, hb⟩ := deliverGate_lmn s.gateResult (closeGate s.gateResult s)
    rw [lmn_of_outer ((outer_react _ _).trans (outer_watchGate _ _)), hb]
    exact ⟨rfl, rfl, rfl, rfl, rfl, rfl⟩
  · have hlmn : (react s (ssqSilence (setSilence s))).lmn = (setSilence s).lmn :=
      lmn_of_outer ((outer_react _ _).trans (outer_ssqSilence _))
    refine ⟨_, exec_silenceTimerExpiry htimer, by rw [hlmn]; rfl, by rw [hlmn]; rfl, by rw [hlmn]; rfl,
      fun he hr => ?_, fun he hrest => ?_, fun he hrest => ?_, fun he hestop => ?_, fun he => ?_⟩
    · have hact : ssqSilence (setSilence s) = shutdownEnd (setSilence s) := by
        unfold ssqSilence; rw [show (setSilence s).ssq.engine = .shutdown from he]
      obtain ⟨hend, hcalm⟩ := shutdownEnd_engine (s := setSilence s) hr
      rw [hact, (react_of_calm s hcalm).engine]; exact hend
    · have hact : ssqSilence (setSilence s) = enter .claiming (setSilence s) := by
        unfold ssqSilence; rw [show (setSilence s).ssq.engine = .crankRest from he]
        exact if_pos (by rw [show (setSilence s).ssq.rest = none from hrest]; rfl)
      have hne : (setSilence s).ssq.engine ≠ .prelube := by rw [show (setSilence s).ssq.engine = .crankRest from he]; decide
      obtain ⟨hthrough, hclaim⟩ := react_enterClaiming s hne
      rw [hact, hthrough.engine, hthrough.cpa]
      exact ⟨engine_enter _ _, hclaim⟩
    · have hact : ssqSilence (setSilence s) = setSilence s := by
        unfold ssqSilence; rw [show (setSilence s).ssq.engine = .crankRest from he]
        exact if_neg (by rw [show (setSilence s).ssq.rest = s.ssq.rest from rfl]; simpa using Option.isSome_iff_ne_none.mp hrest)
      have hthrough := react_of_calm s (s := setSilence s) (.of_engine (Or.inr (Or.inr (Or.inl he))))
      rw [hact, hthrough.ssq]
      exact ⟨he, rfl⟩
    · have hact : ssqSilence (setSilence s) = { setSilence s with ssq := { s.ssq with firingHold := none } } := by
        unfold ssqSilence; rw [show (setSilence s).ssq.engine = .cranking from he]; rfl
      have hthrough := react_of_still (old := s) (s := { setSilence s with ssq := { s.ssq with firingHold := none } })
        (Or.inr ⟨he, hestop⟩) rfl rfl
      rw [hact, hthrough.ssq]
      exact ⟨he, rfl, rfl, rfl⟩
    · have hact : ssqSilence (setSilence s) = stall (setSilence s) := by
        unfold ssqSilence
        rcases he with he | he | he <;> rw [show (setSilence s).ssq.engine = _ from he]
      have hstalls := stall_react s (setSilence s)
      rw [shutdownOf_of_silence (s := setSilence s) rfl] at hstalls
      rw [hact]; exact hstalls

end Sys2Proof.Machine
end

section
/-! Obligation O47: what a gate result does, from the overspeed to the watch of a step (R94, R87, R97, R131). -/

namespace Sys2Proof.Machine

/-! ## What the gate leaves before the reaction -/

theorem clearFault_records (k : FaultKind) (s : State) : ∃ l, (clearFault k s).fcl = { s.fcl with active := l } := by
  unfold clearFault; split
  · exact ⟨_, rfl⟩
  · exact ⟨s.fcl.active, rfl⟩

/-- The gate's watch of a step and of the deviation leaves all but the watch and SPEED_DEVIATION. -/
structure Watched (s u : State) : Prop where
  ssq : u.ssq = s.ssq
  cpa : u.cpa = s.cpa
  erc : u.erc = s.erc
  nsp : u.nsp = { s.nsp with watch := u.nsp.watch }
  faults : ∀ k, k ≠ .speedDeviation → u.faultActive k = s.faultActive k
  records : u.fcl = { s.fcl with active := u.fcl.active }
  outer : u.outer = s.outer

theorem watched_watchGate (r : Nat) (s : State) : Watched s (watchGate r s) := by
  obtain ⟨w, h | h⟩ := watchGate_eq r s
  · rw [h]; exact ⟨rfl, rfl, rfl, rfl, fun _ _ => rfl, rfl, rfl⟩
  · obtain ⟨l, hl⟩ := clearFault_records .speedDeviation { s with nsp := { s.nsp with watch := w } }
    rw [h]
    exact ⟨clearFault_ssq _ _, clearFault_cpa _ _, clearFault_erc _ _, by rw [clearFault_nsp], fun k hk => clearFault_active_ne hk _,
      by rw [hl], outer_clearFault _ _⟩

theorem Watched.estop {s u : State} (h : Watched s u) : u.estop = s.estop := estop_of_outer h.outer

/-! ## The stall at the gate (R97) -/

/-- An engine brought down by a fault before the reaction: the fault is active, and the protective list stands. -/
structure BroughtDown (k : FaultKind) (s u : State) : Prop where
  fault : u.faultActive k = true
  calm : Calm u
  fuelOrder : u.ssq.fuelOrder = false
  stopReason : u.ssq.stopReason = .manual
  protect : u.erc.slots.protect = s.erc.slots.protect
  protList : u.ssq.protList = protectiveOrders s
  urgentList : u.nsp.urgentList = []

theorem BroughtDown.watched {k : FaultKind} (hk : k ≠ .speedDeviation) {s u v : State} (h : BroughtDown k s u) (hw : Watched u v) :
    BroughtDown k s v where
  fault := (hw.faults k hk).trans h.fault
  calm := h.calm.of_ssq hw.ssq
  fuelOrder := by rw [hw.ssq]; exact h.fuelOrder
  stopReason := by rw [hw.ssq]; exact h.stopReason
  protect := by rw [hw.erc]; exact h.protect
  protList := by rw [hw.ssq]; exact h.protList
  urgentList := by rw [hw.nsp]; exact h.urgentList

theorem BroughtDown.ordersWait {k : FaultKind} {s u : State} (h : BroughtDown k s u) (old : State) :
    ProtectiveOrdersWait (protectiveOrders s) s (react old u) :=
  ordersWait_of_lists old h.calm h.protect h.protList h.urgentList

/-- A protective shutdown after the raise of the fault that orders it. -/
theorem broughtDown_protectiveShutdown {k : FaultKind} (hr : k ≠ .startRefused) (hd : k ≠ .speedDeviation) {s u : State}
    (hfault : u.faultActive k = true) (hprotect : u.erc.slots.protect = s.erc.slots.protect) (horders : protectiveOrders u = protectiveOrders s) :
    BroughtDown k s (protectiveShutdown u) := by
  have h := protected_protectiveShutdown u
  exact ⟨(h.faults k hr hd).trans hfault, h.calm, h.fuelOrder, h.stopReason, h.protect.trans hprotect,
    h.protList.trans horders, h.urgentList⟩

theorem broughtDown_stall (s : State) : BroughtDown .stall s (stall s) :=
  broughtDown_protectiveShutdown (by decide) (by decide) (raiseFault_active .stall s) (by rw [raiseFault_erc])
    (protectiveOrders_of_ssq (by rw [raiseFault_ssq]) (by rw [raiseFault_ssq]) (by rw [raiseFault_ssq]))

theorem stall_engine (s : State) : (stall s).ssq.engine = shutdownOf s :=
  (protected_protectiveShutdown _).engine.trans
    (shutdownOf_of_same (lmn_of_outer (outer_raiseFault .stall s)) (stall_lockout s))

/-! ## The overspeed (R94, R98) -/

/-- The overspeed fault raised and marked. -/
def markOverspeed (s : State) : State :=
  { raiseFault .overspeed s with ssq := { (raiseFault .overspeed s).ssq with overspeedMark := true } }

theorem markOverspeed_engine (s : State) : (markOverspeed s).ssq.engine = s.ssq.engine :=
  show (raiseFault .overspeed s).ssq.engine = _ by rw [raiseFault_ssq]

/-- What the Start Sequencer does at an overspeed, by the state it is in. -/
theorem ssqOverspeed_eq (s : State) : ssqOverspeed s = match s.ssq.engine with
    | .stopped | .claiming => enter .lockedOut (setReason .manual (markOverspeed s))
    | .lockedOut | .shutdown => markOverspeed s
    | _ => protectiveShutdown (markOverspeed s) := by
  rw [← markOverspeed_engine s]; rfl

theorem ssqOverspeed_of_standing {s : State} (h : s.ssq.engine = .lockedOut ∨ s.ssq.engine = .shutdown) :
    ssqOverspeed s = markOverspeed s := by
  rw [ssqOverspeed_eq]
  rcases h with h | h <;> rw [h]

theorem ssqOverspeed_of_waiting {s : State} (h : s.ssq.engine = .stopped ∨ s.ssq.engine = .claiming) :
    ssqOverspeed s = enter .lockedOut (setReason .manual (markOverspeed s)) := by
  rw [ssqOverspeed_eq]
  rcases h with h | h <;> rw [h]

theorem ssqOverspeed_of_turning {s : State} (hs : s.ssq.engine ≠ .stopped) (hc : s.ssq.engine ≠ .claiming)
    (hl : s.ssq.engine ≠ .lockedOut) (hd : s.ssq.engine ≠ .shutdown) : ssqOverspeed s = protectiveShutdown (markOverspeed s) := by
  rw [ssqOverspeed_eq]
  split
  · next h => exact absurd h hs
  · next h => exact absurd h hc
  · next h => exact absurd h hl
  · next h => exact absurd h hd
  · rfl

theorem markOverspeed_active (s : State) : (markOverspeed s).faultActive .overspeed = true := raiseFault_active .overspeed s

theorem markOverspeed_lockout (s : State) : (markOverspeed s).lockoutActive = true :=
  List.any_eq_true.mpr ⟨.overspeed, List.contains_iff_mem.mp (markOverspeed_active s), rfl⟩

theorem enter_overspeedMark {n : EngineState} (hn : n ≠ .stopped) (s : State) :
    (enter n s).ssq.overspeedMark = s.ssq.overspeedMark := by
  obtain ⟨x, y, h⟩ := enter_ssq n s
  rw [h]
  cases n <;> first | rfl | exact absurd rfl hn

/-- A shutdown under a lockout does not reach STOPPED, where the mark would go. -/
theorem enterShutdown_overspeedMark {s : State} (h : s.lockoutActive = true) :
    (enterShutdown s).ssq.overspeedMark = s.ssq.overspeedMark := by
  have hkept : (enter .shutdown s).ssq.overspeedMark = s.ssq.overspeedMark := enter_overspeedMark (by decide) s
  unfold enterShutdown; simp only []; split
  · unfold shutdownEnd
    rw [if_pos ((kept_enter .shutdown s).lockoutActive.trans h)]
    exact (enter_overspeedMark (by decide) _).trans hkept
  · exact hkept

theorem protectiveShutdown_overspeedMark {s : State} (h : s.lockoutActive = true) :
    (protectiveShutdown s).ssq.overspeedMark = s.ssq.overspeedMark := by
  have hguarded := guarded_protectiveSequence false (clearFuel s)
  have hlock : (setReason .manual (protectiveSequence false (clearFuel s))).lockoutActive = true :=
    (lockoutActive_of_faults (s := s) fun k _ => faultActive_of_fcl hguarded.fcl k).trans h
  refine (enterShutdown_overspeedMark hlock).trans ?_
  show (protectiveSequence false (clearFuel s)).ssq.overspeedMark = _
  rw [hguarded.ssq]; rfl

/-- What the overspeed leaves in every engine state: no decision to come, the mark, and the fault recorded. -/
structure Marked (s u : State) : Prop where
  calm : Calm u
  mark : u.ssq.overspeedMark = true
  fault : u.faultActive .overspeed = true
  firstFault : u.fcl.firstFault = (raiseFault .overspeed s).fcl.firstFault

theorem marked_ssqOverspeed (s : State) : Marked s (ssqOverspeed s) := by
  by_cases hstand : s.ssq.engine = .lockedOut ∨ s.ssq.engine = .shutdown
  · rw [ssqOverspeed_of_standing hstand]
    refine ⟨.of_engine ?_, rfl, markOverspeed_active s, rfl⟩
    rw [markOverspeed_engine]
    exact hstand.elim (fun h => Or.inr (Or.inl h)) Or.inl
  obtain ⟨hl, hd⟩ := not_or.mp hstand
  by_cases hwait : s.ssq.engine = .stopped ∨ s.ssq.engine = .claiming
  · have hkept := kept_enter .lockedOut (setReason .manual (markOverspeed s))
    rw [ssqOverspeed_of_waiting hwait]
    refine ⟨.of_engine (Or.inr (Or.inl (engine_enter _ _))), enter_overspeedMark (by decide) _,
      (hkept.faults _ (by decide) (by decide)).trans (markOverspeed_active s), ?_⟩
    rw [hkept.records]; rfl
  · obtain ⟨hs, hc⟩ := not_or.mp hwait
    have hprot := protected_protectiveShutdown (markOverspeed s)
    rw [ssqOverspeed_of_turning hs hc hl hd]
    refine ⟨hprot.calm, protectiveShutdown_overspeedMark (markOverspeed_lockout s),
      (hprot.faults _ (by decide) (by decide)).trans (markOverspeed_active s), ?_⟩
    rw [hprot.records]; rfl

theorem Marked.watched {s u v : State} (h : Marked s u) (hw : Watched (setForce false u) v) : Marked s v where
  calm := h.calm.of_ssq hw.ssq
  mark := by rw [hw.ssq]; exact h.mark
  fault := (hw.faults _ (by decide)).trans h.fault
  firstFault := by rw [hw.records]; exact h.firstFault

/-! ## The watch through a reaction in RUNNING -/

theorem stepTest_watch (s : State) : (stepTest s).nsp.watch = s.nsp.watch := by
  have hpost (r : Request) (u : State) : (post .notch r u).nsp.watch = u.nsp.watch := by rw [post_nsp]
  rcases stepTest_cases s with ⟨-, hs⟩ | ⟨-, hs⟩ | ⟨-, hs⟩ | ⟨-, -, -, hs⟩ <;> rw [hs]
  · unfold startUp; simp only []; split
    · rfl
    · exact hpost _ _
  · unfold startDown; simp only []; split
    · rfl
    · exact hpost _ _
  · unfold startRetry; simp only []; split
    · rfl
    · exact hpost _ _

/-- No posting and no step begun touches the watch of the step before. -/
theorem postOrders_watch (old : State) {s : State} (hready : s.estop = false ∨ s.ssq.engine ≠ .cranking) :
    (postOrders old s).nsp.watch = s.nsp.watch := by
  obtain ⟨l, hl⟩ := pumpProtect_nsp s
  have hpumped : (pumpSequence (pumpProtect s)).nsp.watch = s.nsp.watch := by
    rw [(pumpSequence_leaves (pumpProtect_ready hready)).1, hl]
  unfold postOrders; simp only []; split
  · exact (stepTest_watch _).trans hpumped
  · exact hpumped

theorem react_watch_of_running (old : State) {s : State} (hengine : s.ssq.engine = .running) (hstop : s.ssq.stopInProgress = false)
    (hidle : s.ssq.idleElapsed = false) : (react old s).nsp.watch = s.nsp.watch := by
  obtain ⟨x, hdecided⟩ := decideBlocks_of_running old hengine hstop hidle
  obtain ⟨y, hy⟩ := upkept_nsp s
  have hengine' : (setIdle x (upkept s)).ssq.engine = .running := by
    show (upkept s).ssq.engine = _
    rw [upkept_ssq, hengine]
  unfold react; rw [hdecided, postOrders_watch old (Or.inr (by rw [hengine']; decide))]
  show (upkept s).nsp.watch = _
  rw [hy]

/-! ## The gate below the overspeed -/

theorem rows_ordered (c : Fin 4) : (classRow c).idle70 < (classRow c).idle90 ∧ (classRow c).idle90 < (classRow c).overspeed := by
  fin_cases c <;> decide

theorem deliverGate_of_slow {r : Nat} {s : State} (h : r < s.row.overspeed) : deliverGate r s = ssqGate r s :=
  if_neg (by omega)

theorem inBand_eq (n r : Nat) (s : State) : s.inBand n r = withinBand s n r := (Bool.decide_and _ _).symm

/-- What the gate makes of the watch and of the deviation (R131). -/
theorem watchGate_view (r : Nat) (s : State) :
    (watchGate r s).nsp.watch = (match s.nsp.watch with
        | some w => if withinBand s w.notch r then none else some w
        | none => none)
    ∧ (watchGate r s).faultActive .speedDeviation = (s.faultActive .speedDeviation && !withinBand s s.nsp.completed r) := by
  have hdeviation (u : State) : (if (u.faultActive .speedDeviation && withinBand s s.nsp.completed r) = true
      then clearFault .speedDeviation u else u).nsp = u.nsp
      ∧ (if (u.faultActive .speedDeviation && withinBand s s.nsp.completed r) = true
        then clearFault .speedDeviation u else u).faultActive .speedDeviation
        = (u.faultActive .speedDeviation && !withinBand s s.nsp.completed r) := by
    by_cases hboth : (u.faultActive .speedDeviation && withinBand s s.nsp.completed r) = true
    · obtain ⟨-, hband⟩ := Bool.and_eq_true_iff.mp hboth
      rw [if_pos hboth, clearFault_nsp, faultActive_clearFault_same rfl, hband]
      exact ⟨rfl, (Bool.and_false _).symm⟩
    · rw [if_neg hboth]
      refine ⟨rfl, ?_⟩
      revert hboth
      cases u.faultActive .speedDeviation <;> cases withinBand s s.nsp.completed r <;> decide
  unfold watchGate; simp only [inBand_eq]
  cases hw : s.nsp.watch with
  | none =>
    obtain ⟨hnsp, hfault⟩ := hdeviation s
    exact ⟨(congrArg Nsp.watch hnsp).trans hw, hfault⟩
  | some w =>
    by_cases hband : withinBand s w.notch r = true
    · obtain ⟨hnsp, hfault⟩ := hdeviation { s with nsp := { s.nsp with watch := none } }
      simp only [hband, if_true]
      exact ⟨congrArg Nsp.watch hnsp, hfault⟩
    · obtain ⟨hnsp, hfault⟩ := hdeviation s
      simp only [hband, if_false, Bool.false_eq_true]
      exact ⟨(congrArg Nsp.watch hnsp).trans hw, hfault⟩

/-- In CRANKING with fuel ordered a result at the firing speed starts the hold, or leaves it; one below it stops the hold. -/
def firingHoldAfter (r : Nat) (s : State) : Timer :=
  if s.ssq.fuelOrder = false then s.ssq.firingHold
  else if s.row.firing ≤ r then some (s.ssq.firingHold.getD 1000) else none

theorem ssqGate_of_cranking {r : Nat} {s : State} (he : s.ssq.engine = .cranking) :
    (ssqGate r s).ssq = { s.ssq with firingHold := firingHoldAfter r s } := by
  unfold ssqGate firingHoldAfter; rw [he]
  cases hfuel : s.ssq.fuelOrder with
  | false => rfl
  | true =>
    by_cases hfiring : s.row.firing ≤ r
    · cases hhold : s.ssq.firingHold with
      | none => simp [hfiring]
      | some x =>
        have hsame : some (s.ssq.firingHold.getD 1000) = s.ssq.firingHold := by rw [hhold]; rfl
        have hset : ¬ s.ssq.firingHold.isNone = true := by rw [hhold]; nofun
        simp only [hfiring, if_true, if_neg hset, ← hhold, hsame, Bool.true_eq_false, if_false]
    · simp [hfiring]

/-! ## The first firing speed (R87) -/

theorem coolantAtLeast_of_sensor {s u : State} (h : u.erc.sensor = s.erc.sensor) (n : Int) : u.coolantAtLeast n = s.coolantAtLeast n := by
  unfold State.coolantAtLeast State.sensorValid; rw [h]

/-- IDLE_WARM entered from FIRING, or RUNNING at once with the coolant warm. -/
structure Fired (s u : State) : Prop where
  engine : u.ssq.engine = if s.coolantAtLeast 40 then .running else .idleWarm
  attempts : u.ssq.attempts = 0
  fuelOrder : u.ssq.fuelOrder = s.ssq.fuelOrder
  stopInProgress : u.ssq.stopInProgress = false
  idleElapsed : u.ssq.engine = .running → u.ssq.idleElapsed = false
  outer : u.outer = s.outer
  waits : s.estop = false → Waits .setSpeed u

theorem fired_enterIdleWarm {s : State} (he : s.ssq.engine = .firing) : Fired s (enterIdleWarm (addSeq .setSpeed s)) := by
  obtain ⟨l, rel, hadd⟩ := addSeq_eq .setSpeed s
  have hfrom : (addSeq .setSpeed s).ssq.engine = .firing := by rw [hadd]; exact he
  have hfuel : (addSeq .setSpeed s).ssq.fuelOrder = s.ssq.fuelOrder := by rw [hadd]
  have hsensor : (enter .idleWarm (addSeq .setSpeed s)).erc.sensor = s.erc.sensor :=
    (unmoved_sensor.moves (moves_enterUp (n := .idleWarm) (.refl (addSeq .setSpeed s)) (by rw [hfrom]; rfl) (by decide)
      (by decide))).trans (by rw [hadd])
  have hattempts : (enter .idleWarm (addSeq .setSpeed s)).ssq.attempts = 0 := by
    rw [enter_ssq_of_ne (by decide)]; rfl
  have hwarmFuel : (enter .idleWarm (addSeq .setSpeed s)).ssq.fuelOrder = s.ssq.fuelOrder := by
    rw [enter_fuelOrder, hfuel]; exact Bool.and_true _
  have hwait (h : s.estop = false) : Waits .setSpeed (enter .idleWarm (addSeq .setSpeed s)) := Waits.enter (waits_addSeq h) .idleWarm
  have houter : (enter .idleWarm (addSeq .setSpeed s)).outer = s.outer := (outer_enter _ _).trans (outer_addSeq _ _)
  unfold enterIdleWarm; simp only []
  rw [coolantAtLeast_of_sensor hsensor]
  by_cases hwarm : s.coolantAtLeast 40 = true
  · rw [if_pos hwarm]
    refine ⟨by rw [if_pos hwarm]; exact engine_enter _ _, (enter_attempts (by decide) (by decide) _).trans hattempts, ?_,
      enter_stopInProgress _ _, fun _ => enterRunning_idleElapsed _, (outer_enter _ _).trans houter,
      fun h => Waits.enter (hwait h) .running⟩
    rw [enter_fuelOrder, hwarmFuel]; exact Bool.and_true _
  · rw [if_neg hwarm]
    exact ⟨by rw [if_neg hwarm]; exact engine_enter _ _, hattempts, hwarmFuel, enter_stopInProgress _ _,
      (fun h => nomatch (engine_enter .idleWarm _).symm.trans h), houter, hwait⟩

/-- Through the gate's watch and the reaction the engine stays where the first firing speed has put it. -/
theorem Fired.react {s u v : State} (h : Fired s u) (hw : Watched u v) (old : State) :
    (react old v).ssq.attempts = 0 ∧ (react old v).ssq.fuelOrder = s.ssq.fuelOrder
      ∧ (s.estop = false → Waits .setSpeed (react old v))
      ∧ (react old v).ssq.engine = if s.coolantAtLeast 40 then .running else .idleWarm := by
  have hwait (hestop : s.estop = false) : v.estop = false ∧ Waits .setSpeed v :=
    ⟨hw.estop.trans ((estop_of_outer h.outer).trans hestop), Waits.of_ssq (h.waits hestop) hw.ssq hw.erc⟩
  have hengine : v.ssq.engine = if s.coolantAtLeast 40 then .running else .idleWarm := by rw [hw.ssq]; exact h.engine
  by_cases hwarm : s.coolantAtLeast 40 = true
  · rw [if_pos hwarm] at hengine ⊢
    have hrun : u.ssq.engine = .running := by rw [h.engine, if_pos hwarm]
    obtain ⟨x, hthrough⟩ := react_of_running old hengine (by rw [hw.ssq]; exact h.stopInProgress)
      (by rw [hw.ssq]; exact h.idleElapsed hrun)
    refine ⟨?_, ?_, fun he => hthrough.waits (hwait he).1 _ (hwait he).2, hthrough.engine.trans hengine⟩
    · rw [hthrough.ssq]; show v.ssq.attempts = 0; rw [hw.ssq]; exact h.attempts
    · rw [hthrough.fuelOrder]; show v.ssq.fuelOrder = _; rw [hw.ssq]; exact h.fuelOrder
  · rw [if_neg hwarm] at hengine ⊢
    have hthrough := react_of_calm old (.of_engine (Or.inr (Or.inr (Or.inr (Or.inr hengine)))))
    refine ⟨?_, ?_, fun he => hthrough.waits (hwait he).1 _ (hwait he).2, hthrough.engine.trans hengine⟩
    · rw [hthrough.ssq]; show v.ssq.attempts = 0; rw [hw.ssq]; exact h.attempts
    · rw [hthrough.fuelOrder, hw.ssq]; exact h.fuelOrder

/-! ## The five readings of a gate -/

section
variable {s : State} (htimer : s.lmn.gateTimer.isSome = true)
include htimer

theorem gateEnd_overspeed (hover : s.row.overspeed ≤ s.gateResult) :
    ∃ t, exec .gateEnd s = .next t ∧ t.fuelRun = false ∧ t.ssq.overspeedMark = true ∧ t.faultActive .overspeed = true
      ∧ t.lmn.overspeedForce = false
      ∧ (s.fcl.firstFault = none → s.faultActive .overspeed = false →
          t.fcl.firstFault = some ⟨.overspeed, s.ssq.engine, s.clc.cycleCount⟩)
      ∧ (s.ssq.engine = .stopped ∨ s.ssq.engine = .claiming → t.ssq.engine = .lockedOut ∧ t.cpa.claim = none)
      ∧ (s.ssq.engine ≠ .stopped → s.ssq.engine ≠ .claiming → s.ssq.engine ≠ .lockedOut → s.lmn.silence = false →
          t.ssq.engine = .shutdown ∧ (s.ssq.engine ≠ .shutdown → t.ssq.stopReason = .manual
            ∧ ProtectiveOrdersWait (protectiveOrders s) s t)) := by
  refine ⟨_, exec_gateEnd htimer, ?_⟩
  generalize hc : setForce true (closeGate s.gateResult s) = c
  have hssq : c.ssq = s.ssq := by rw [← hc]; rfl
  have herc : c.erc = s.erc := by rw [← hc]; rfl
  have hdeliver : deliverGate s.gateResult (closeGate s.gateResult s) = setForce false (ssqOverspeed c) := by
    rw [← hc]; exact if_pos hover
  have hwatched := watched_watchGate s.gateResult (setForce false (ssqOverspeed c))
  have hmarked := (marked_ssqOverspeed c).watched hwatched
  rw [hdeliver]
  generalize watchGate s.gateResult (setForce false (ssqOverspeed c)) = v at hwatched hmarked
  have hthrough := react_of_calm s hmarked.calm
  have hmark : (react s v).ssq.overspeedMark = true := by rw [hthrough.ssq]; exact hmarked.mark
  have hfrom : c.ssq.engine = s.ssq.engine := by rw [hssq]
  refine ⟨by unfold State.fuelRun; rw [hmark]; simp, hmark, (hthrough.faults _ (by decide)).trans hmarked.fault, ?_,
    fun hfirst hinactive => ?_, fun hwait => ?_, fun hs hcl hl hsilence => ?_⟩
  · rw [hthrough.lmn, lmn_of_outer hwatched.outer]; rfl
  · rw [hthrough.records]
    show v.fcl.firstFault = _
    rw [hmarked.firstFault, raiseFault_firstFault rfl (by rw [← hc]; exact hinactive) (by rw [← hc]; exact hfirst), ← hc]; rfl
  · rw [hthrough.engine, hthrough.cpa, hwatched.ssq, hwatched.cpa, ssqOverspeed_of_waiting (by rw [hfrom]; exact hwait)]
    exact ⟨engine_enter _ _, (enter_standing (Or.inr (Or.inl rfl)) _).2⟩
  by_cases hd : s.ssq.engine = .shutdown
  · refine ⟨?_, fun h => absurd hd h⟩
    rw [hthrough.engine, hwatched.ssq, ssqOverspeed_of_standing (by rw [hfrom]; exact Or.inr hd)]
    exact (markOverspeed_engine _).trans (hfrom.trans hd)
  · have hact : ssqOverspeed c = protectiveShutdown (markOverspeed c) :=
      ssqOverspeed_of_turning (by rw [hfrom]; exact hs) (by rw [hfrom]; exact hcl) (by rw [hfrom]; exact hl) (by rw [hfrom]; exact hd)
    have hturning : (markOverspeed c).lmn.silence = false := by
      rw [lmn_of_outer (show (markOverspeed c).outer = c.outer from outer_raiseFault _ _), ← hc]
      exact hsilence
    have horders : protectiveOrders (markOverspeed c) = protectiveOrders s := by
      have hraised : (raiseFault .overspeed c).ssq = s.ssq := (raiseFault_ssq _ _).trans hssq
      exact protectiveOrders_of_ssq (congrArg Ssq.engine hraised :) (congrArg Ssq.releasePending hraised :)
        (congrArg Ssq.pumpHeld hraised :)
    have hdown : BroughtDown .overspeed s (protectiveShutdown (markOverspeed c)) :=
      broughtDown_protectiveShutdown (by decide) (by decide) (markOverspeed_active _) 
        (congrArg (·.slots.protect) ((raiseFault_erc .overspeed _).trans herc)) horders
    rw [hact] at hwatched
    have hunforced : BroughtDown .overspeed s (setForce false (protectiveShutdown (markOverspeed c))) :=
      ⟨hdown.fault, hdown.calm.of_ssq rfl, hdown.fuelOrder, hdown.stopReason, hdown.protect, hdown.protList, hdown.urgentList⟩
    have hleft := hunforced.watched (by decide) hwatched
    refine ⟨?_, fun _ => ⟨hthrough.stopReason.trans hleft.stopReason, hleft.ordersWait s⟩⟩
    rw [hthrough.engine, hwatched.ssq]
    exact (protected_protectiveShutdown _).engine.trans (shutdownOf_of_turning hturning)

theorem gateEnd_stall (hslow : s.gateResult < s.row.idle70)
    (he : s.ssq.engine = .idleWarm ∨ s.ssq.engine = .running ∨ s.ssq.engine = .cooldown) (hsilence : s.lmn.silence = false) :
    ∃ t, exec .gateEnd s = .next t ∧ t.ssq.engine = .shutdown ∧ t.faultActive .stall = true
      ∧ t.ssq.fuelOrder = false ∧ t.ssq.stopReason = .manual ∧ ProtectiveOrdersWait (protectiveOrders s) s t := by
  refine ⟨_, exec_gateEnd htimer, ?_⟩
  obtain ⟨hidle, hover⟩ := rows_ordered s.engineClass
  have hbelow : s.gateResult < (closeGate s.gateResult s).row.overspeed := hslow.trans (hidle.trans hover)
  have hact : deliverGate s.gateResult (closeGate s.gateResult s) = stall (closeGate s.gateResult s) := by
    rw [deliverGate_of_slow hbelow]
    unfold ssqGate
    rcases he with he | he | he <;> rw [show (closeGate s.gateResult s).ssq.engine = _ from he] <;> exact if_pos hslow
  have hwatched := watched_watchGate s.gateResult (stall (closeGate s.gateResult s))
  have hdown := (broughtDown_stall (closeGate s.gateResult s)).watched (by decide) hwatched
  have hthrough := react_of_calm s hdown.calm
  have hengine : (stall (closeGate s.gateResult s)).ssq.engine = .shutdown := (stall_engine _).trans (shutdownOf_of_turning hsilence)
  have hwait : ProtectiveOrdersWait (protectiveOrders s) s (react s (watchGate s.gateResult (stall (closeGate s.gateResult s)))) :=
    hdown.ordersWait s
  rw [hact]
  refine ⟨?_, (hthrough.faults _ (by decide)).trans hdown.fault, hthrough.fuelOrder.trans hdown.fuelOrder,
    hthrough.stopReason.trans hdown.stopReason, hwait⟩
  rw [hthrough.engine, hwatched.ssq, hengine]

theorem gateEnd_fired (he : s.ssq.engine = .firing) (hfiring : s.row.idle90 ≤ s.gateResult) (hbelow : s.gateResult < s.row.overspeed) :
    ∃ t, exec .gateEnd s = .next t ∧ t.ssq.attempts = 0 ∧ t.ssq.fuelOrder = s.ssq.fuelOrder
      ∧ (s.estop = false → Waits .setSpeed t)
      ∧ t.ssq.engine = if s.coolantAtLeast 40 then .running else .idleWarm := by
  refine ⟨_, exec_gateEnd htimer, ?_⟩
  have hact : deliverGate s.gateResult (closeGate s.gateResult s) = enterIdleWarm (addSeq .setSpeed (closeGate s.gateResult s)) := by
    rw [deliverGate_of_slow (s := closeGate s.gateResult s) hbelow]
    unfold ssqGate; rw [show (closeGate s.gateResult s).ssq.engine = .firing from he]
    exact if_pos hfiring
  have hfired := fired_enterIdleWarm (s := closeGate s.gateResult s) he
  rw [hact]
  exact hfired.react (watched_watchGate _ _) s

theorem gateEnd_cranking (he : s.ssq.engine = .cranking) (hbelow : s.gateResult < s.row.overspeed) (hestop : s.estop = false) :
    ∃ t, exec .gateEnd s = .next t ∧ t.ssq.engine = .cranking ∧ t.ssq.firingHold = firingHoldAfter s.gateResult s := by
  refine ⟨_, exec_gateEnd htimer, ?_⟩
  have hact : (ssqGate s.gateResult (closeGate s.gateResult s)).ssq
      = { s.ssq with firingHold := firingHoldAfter s.gateResult s } := ssqGate_of_cranking he
  have hwatched := watched_watchGate s.gateResult (ssqGate s.gateResult (closeGate s.gateResult s))
  have houter := hwatched.outer.trans (outer_ssqGate _ _)
  rw [deliverGate_of_slow (s := closeGate s.gateResult s) hbelow]
  generalize watchGate s.gateResult (ssqGate s.gateResult (closeGate s.gateResult s)) = v at hwatched houter
  have hssq : v.ssq = { s.ssq with firingHold := firingHoldAfter s.gateResult s } := hwatched.ssq.trans hact
  have hengine : v.ssq.engine = s.ssq.engine := by rw [hssq]
  have hthrough := react_of_still (old := s) (Or.inr ⟨hengine.trans he, (estop_of_outer houter).trans hestop⟩)
    (table_of_outer houter :) hengine
  refine ⟨hthrough.engine.trans (hengine.trans he), ?_⟩
  rw [hthrough.ssq]
  show v.ssq.firingHold = _
  rw [hssq]

theorem gateEnd_running (he : s.ssq.engine = .running) (hidle : s.row.idle70 ≤ s.gateResult) (hbelow : s.gateResult < s.row.overspeed)
    (hstop : s.ssq.stopInProgress = false) (hfresh : s.ssq.idleElapsed = false) :
    ∃ t, exec .gateEnd s = .next t ∧ t.ssq.engine = .running
      ∧ t.nsp.watch = (watchGate s.gateResult s).nsp.watch
      ∧ t.faultActive .speedDeviation = (watchGate s.gateResult s).faultActive .speedDeviation := by
  refine ⟨_, exec_gateEnd htimer, ?_⟩
  have hact : deliverGate s.gateResult (closeGate s.gateResult s) = closeGate s.gateResult s := by
    rw [deliverGate_of_slow (s := closeGate s.gateResult s) hbelow]
    unfold ssqGate; rw [show (closeGate s.gateResult s).ssq.engine = .running from he]
    exact if_neg (Nat.not_lt.mpr hidle)
  have hwatched := watched_watchGate s.gateResult (closeGate s.gateResult s)
  obtain ⟨hwatch, hdeviation⟩ := watchGate_view s.gateResult (closeGate s.gateResult s)
  obtain ⟨hwatch', hdeviation'⟩ := watchGate_view s.gateResult s
  rw [hact, hwatch', hdeviation']
  generalize watchGate s.gateResult (closeGate s.gateResult s) = v at hwatched hwatch hdeviation
  have hengine : v.ssq.engine = .running := by rw [hwatched.ssq]; exact he
  have hclear : v.ssq.stopInProgress = false := by rw [hwatched.ssq]; exact hstop
  have hyoung : v.ssq.idleElapsed = false := by rw [hwatched.ssq]; exact hfresh
  obtain ⟨x, hthrough⟩ := react_of_running s hengine hclear hyoung
  refine ⟨hthrough.engine.trans hengine, (react_watch_of_running s hengine hclear hyoung).trans hwatch, ?_⟩
  rw [hthrough.faults _ (by decide)]
  exact hdeviation

end

/-- Settles O47: the overspeed, the stall, the first firing speed, the firing hold, and the watch. -/
theorem gateResultsMoveTheEngine : Obligations.GateResultsMoveTheEngine := by
  refine ⟨fun s htimer hover => gateEnd_overspeed htimer hover, fun s htimer hslow he => gateEnd_stall htimer hslow he,
    fun s htimer he hfiring hbelow => gateEnd_fired htimer he hfiring hbelow, fun r s htimer hr he hbelow hestop => ?_,
    fun r s htimer hr he hidle hbelow hstop hfresh => ?_⟩
  · subst hr; exact gateEnd_cranking htimer he hbelow hestop
  · subst hr
    obtain ⟨hwatch, hdeviation⟩ := watchGate_view s.gateResult s
    obtain ⟨t, hexec, hengine, hw, hd⟩ := gateEnd_running htimer he hidle hbelow hstop hfresh
    exact ⟨t, hexec, hengine, hw.trans hwatch, hd.trans hdeviation⟩

end Sys2Proof.Machine
end

section
/-! Obligation O27: the stop request in every engine state (R90 to R93, R96). -/

namespace Sys2Proof.Machine

/-! ## A stop that waits for the notch -/

/-- The engine unloads before a stop: the notch is not 0, or a step to another notch is under way. -/
def StopWaits (s : State) : Prop := s.nsp.completed ≠ 0 ∨ ∃ x, s.nsp.step = some x ∧ x.direction ≠ .retry

theorem stopToCooldown_of_waits {s : State} (h : StopWaits s) : stopToCooldown s = s := by
  unfold stopToCooldown
  refine if_neg fun hready => ?_
  simp only [Bool.and_eq_true, decide_eq_true_eq] at hready
  obtain ⟨⟨-, hzero⟩, hstep⟩ := hready
  rcases h with h | ⟨x, hx, hdir⟩
  · exact h hzero
  · rw [hx] at hstep
    exact hdir (of_decide_eq_true hstep)

theorem stopToCooldown_of_ready {s : State} (he : s.ssq.engine = .running) (hstop : s.ssq.stopInProgress = true)
    (hzero : s.nsp.completed = 0) (hstep : ∀ x, s.nsp.step = some x → x.direction = .retry) :
    stopToCooldown s = setReason .manual (enter .cooldown s) := by
  unfold stopToCooldown
  refine if_pos ?_
  cases hx : s.nsp.step with
  | none => simp [he, hstop, hzero]
  | some x => simp [he, hstop, hzero, hstep x hx]

theorem idleUpkeep_eq (s : State) : ∃ x y, idleUpkeep s = { s with ssq := { s.ssq with autostopIdle := x, idleElapsed := y } } := by
  unfold idleUpkeep; repeat' split
  · exact ⟨_, s.ssq.idleElapsed, rfl⟩
  · exact ⟨s.ssq.autostopIdle, s.ssq.idleElapsed, rfl⟩
  · exact ⟨none, false, rfl⟩
  · exact ⟨s.ssq.autostopIdle, s.ssq.idleElapsed, rfl⟩

theorem autostopTest_of_stopping {s : State} (h : s.ssq.stopInProgress = true) : autostopTest s = s := by
  unfold autostopTest State.autostopConditions
  rw [h]; simp

/-- With a stop in progress that waits for the notch, the deciding blocks move the idle time alone. -/
theorem decideBlocks_of_stopping (old : State) {s : State} (he : s.ssq.engine = .running) (hstop : s.ssq.stopInProgress = true)
    (h : StopWaits s) : decideBlocks old s = idleUpkeep (upkept s) := by
  obtain ⟨x, y, hidle⟩ := idleUpkeep_eq (upkept s)
  obtain ⟨d, hd⟩ := upkept_nsp s
  have hwaits : StopWaits (idleUpkeep (upkept s)) := by
    unfold StopWaits; rw [hidle]
    show (upkept s).nsp.completed ≠ 0 ∨ ∃ x, (upkept s).nsp.step = some x ∧ _
    rw [hd]; exact h
  have hrun : (idleUpkeep (upkept s)).ssq.engine = .running := by
    rw [hidle]; show (upkept s).ssq.engine = _; rw [upkept_ssq, he]
  have hon : (idleUpkeep (upkept s)).ssq.stopInProgress = true := by
    rw [hidle]; show (upkept s).ssq.stopInProgress = _; rw [upkept_ssq, hstop]
  rw [decideBlocks_eq]
  generalize idleUpkeep (upkept s) = u at hwaits hrun hon
  simp only [stopToCooldown_of_waits hwaits]
  rw [ite_test (triggerTest_of_ne (s := u) (by rw [hrun]; decide) (by rw [hrun]; decide)),
    ite_test (clashTest_of_ne (s := u) (by rw [hrun]; decide) (by rw [hrun]; decide)),
    ite_test (grantTest_of_ne (s := u) (by rw [hrun]; decide)), ite_test (contention_of_ne (s := u) (by rw [hrun]; decide)),
    ite_test (autostopTest_of_stopping hon)]

/-- The reaction keeps RUNNING and the stop in progress until the notch is 0. -/
theorem react_of_stopping (old : State) {s : State} (he : s.ssq.engine = .running) (hstop : s.ssq.stopInProgress = true)
    (h : StopWaits s) : (react old s).ssq.engine = .running ∧ (react old s).ssq.stopInProgress = true := by
  obtain ⟨x, y, hidle⟩ := idleUpkeep_eq (upkept s)
  have hrun : (idleUpkeep (upkept s)).ssq.engine = .running := by
    rw [hidle]; show (upkept s).ssq.engine = _; rw [upkept_ssq, he]
  have hon : (idleUpkeep (upkept s)).ssq.stopInProgress = true := by
    rw [hidle]; show (upkept s).ssq.stopInProgress = _; rw [upkept_ssq, hstop]
  unfold react; rw [decideBlocks_of_stopping old he hstop h]
  have hposted := posted_postOrders old (s := idleUpkeep (upkept s)) (Or.inr (by rw [hrun]; decide))
  rw [hposted.ssq]
  exact ⟨hrun, hon⟩

theorem cap_of_stopping {s : State} (h : s.ssq.stopInProgress = true) : s.cap = 0 := cap_of_held (Or.inr (Or.inr (Or.inl h)))

/-- The stop in progress noted. -/
def stopBegun (s : State) : State := { s with ssq := { s.ssq with stopInProgress := true } }

/-! ## The request by engine state -/

/-- A stop request taken before the reaction: the engine where it goes, for good, with reason MANUAL. -/
structure Halts (n : EngineState) (u : State) : Prop where
  engine : u.ssq.engine = n
  stopReason : u.ssq.stopReason = .manual
  calm : Calm u

theorem halts_setReason {s : State} (h : s.ssq.engine = .stopped ∨ s.ssq.engine = .cooldown ∨ s.ssq.engine = .shutdown) :
    Halts s.ssq.engine (setReason .manual s) := by
  refine ⟨rfl, rfl, ?_⟩
  rcases h with h | h | h
  · exact .of_stopped h (fun h => nomatch h)
  · exact .of_cooldown h (fun h => nomatch h)
  · exact .of_engine (Or.inl h)

theorem enterStopped_manual (s : State) : enterStopped (setReason .manual s) = enter .stopped (setReason .manual s) :=
  enterStopped_of_manual (s := setReason .manual s) (fun h => nomatch h)

theorem halts_enterStopped (s : State) : Halts .stopped (enterStopped (setReason .manual s)) := by
  rw [enterStopped_manual]
  exact ⟨engine_enter _ _, by rw [enter_stopReason]; rfl, .of_stopped (engine_enter _ _) (by rw [enter_stopReason]; exact fun h => nomatch h)⟩

theorem halts_enterShutdown (s : State) : Halts (shutdownOf s) (enterShutdown (setReason .manual s)) := by
  have h := enterShutdown_shutsDown (s := setReason .manual s) (Or.inl (fun h => nomatch h))
  exact ⟨h.engine, h.stopReason, h.calm (fun h => nomatch h)⟩

theorem halts_enterCooldown (s : State) : Halts .cooldown (setReason .manual (enter .cooldown s)) :=
  ⟨engine_enter _ _, rfl, .of_cooldown (engine_enter _ _) (fun h => nomatch h)⟩

/-- Orders added do not change where a shutdown ends. -/
theorem shutdownOf_addSeq (o : Order) (s : State) : shutdownOf (addSeq o s) = shutdownOf s :=
  shutdownOf_of_same (lmn_of_outer (outer_addSeq o s)) (lockoutActive_of_faults fun k _ => faultActive_of_fcl (addSeq_fcl o s) k)

/-- What a stop in CRANKING orders. -/
def crankingOrders (s : State) : State := addSeq .fuelOff (addSeq .stop (addSeq .disengage s))

theorem waits_crankingOrders {s : State} (h : s.estop = false) :
    Waits .disengage (crankingOrders s) ∧ Waits .stop (crankingOrders s) ∧ Waits .fuelOff (crankingOrders s) := by
  have hafter (o : Order) (u : State) (hu : u.estop = false) : (addSeq o u).estop = false := (estop_of_outer (outer_addSeq o u)).trans hu
  have hdisengage : Waits .disengage (addSeq .stop (addSeq .disengage s)) :=
    Waits.addSeq (waits_addSeq h) (fun hk => nomatch hk) (fun _ => ⟨by decide, by decide⟩)
  exact ⟨Waits.addSeq hdisengage (fun hk => nomatch hk) (fun hk => nomatch hk),
    Waits.addSeq (waits_addSeq (hafter _ _ h)) (fun hk => nomatch hk) (fun hk => nomatch hk), waits_addSeq (hafter _ _ (hafter _ _ h))⟩

theorem exec_stopEdge {s : State} (htimer : (s.lmn.lines.get .stop).timer.isSome = true)
    (hlevel : (s.lmn.lines.get .stop).level = some false) (hpin : s.pins.lines.get .stop = true) :
    exec (.lineStabilityExpiry .stop) s = .next (react s (stopRequest (asserted .stop s))) := by
  have hexec := exec_lineStabilityExpiry_of_ne htimer hpin (by rw [hlevel]; decide)
  have htaken : takeLevel .stop true (stopStability .stop s) = stopRequest (asserted .stop s) := by
    have hrising : ((stopStability .stop s).lmn.lines.get .stop).level = some false := by rw [stopStability_level, hlevel]
    unfold takeLevel takeEdge; simp only [hrising]; rfl
  rw [hexec, htaken]

/-- What the statement asks of a stop outside RUNNING and LOCKED_OUT. -/
def StopTaken (s t : State) : Prop :=
  t.ssq.engine = stopTarget s ∧ t.ssq.stopReason = .manual
    ∧ (s.ssq.engine = .claiming ∨ s.ssq.engine = .prelube ∨ s.ssq.engine = .cranking → t.cpa.claim = none)
    ∧ (s.ssq.engine = .cranking ∨ s.ssq.engine = .firing → t.ssq.fuelOrder = false)
    ∧ (s.ssq.engine = .cranking → s.estop = false → Waits .disengage t ∧ Waits .stop t ∧ Waits .fuelOff t)
    ∧ (s.ssq.engine = .firing → s.estop = false → Waits .fuelOff t)
    ∧ (s.ssq.engine = .prelube → s.estop = false → Waits .stop t)

/-- A state that differs from the one before in the lines alone, but not in ESTOP. -/
structure LinesOnly (s a : State) : Prop where
  ssq : a.ssq = s.ssq
  nsp : a.nsp = s.nsp
  estop : a.estop = s.estop
  shutdownOf : shutdownOf a = shutdownOf s

theorem linesOnly_asserted {l : Line} (hl : l ≠ .estop) (s : State) : LinesOnly s (asserted l s) := by
  refine ⟨rfl, rfl, ?_, rfl⟩
  cases l <;> first | rfl | exact absurd rfl hl

theorem stopTaken_of_halts {s u : State} (old : State) (h : Halts (stopTarget s) u)
    (hclaim : s.ssq.engine = .claiming ∨ s.ssq.engine = .prelube ∨ s.ssq.engine = .cranking → u.cpa.claim = none)
    (hfuel : s.ssq.engine = .cranking ∨ s.ssq.engine = .firing → u.ssq.fuelOrder = false) (hestop : u.estop = s.estop)
    (hcranking : s.ssq.engine = .cranking → s.estop = false → Waits .disengage u ∧ Waits .stop u ∧ Waits .fuelOff u)
    (hfiring : s.ssq.engine = .firing → s.estop = false → Waits .fuelOff u)
    (hprelube : s.ssq.engine = .prelube → s.estop = false → Waits .stop u) : StopTaken s (react old u) := by
  have hthrough := react_of_calm old h.calm
  refine ⟨hthrough.engine.trans h.engine, hthrough.stopReason.trans h.stopReason, fun he => by rw [hthrough.cpa]; exact hclaim he,
    fun he => hthrough.fuelOrder.trans (hfuel he), fun he hs => ?_, fun he hs => ?_, fun he hs => ?_⟩
  · obtain ⟨hd, hstop, hoff⟩ := hcranking he hs
    exact ⟨hthrough.waits (hestop.trans hs) _ hd, hthrough.waits (hestop.trans hs) _ hstop, hthrough.waits (hestop.trans hs) _ hoff⟩
  · exact hthrough.waits (hestop.trans hs) _ (hfiring he hs)
  · exact hthrough.waits (hestop.trans hs) _ (hprelube he hs)

theorem stopTaken_stopRequest {s a : State} (old : State) (ha : LinesOnly s a) (hr : s.ssq.engine ≠ .running)
    (hl : s.ssq.engine ≠ .lockedOut) : StopTaken s (react old (stopRequest a)) := by
  have hengine : a.ssq.engine = s.ssq.engine := by rw [ha.ssq]
  have hout (u : State) (h : u.outer = a.outer) : u.estop = s.estop := (estop_of_outer h).trans ha.estop
  have hstopped (v : State) : (enterStopped (setReason .manual v)).cpa.claim = none := by
    rw [enterStopped_manual]
    exact (enter_standing (Or.inr (Or.inr rfl)) _).2
  have hdown (v : State) := enterShutdown_shutsDown (s := setReason .manual v) (Or.inl (fun h => nomatch h))
  unfold stopRequest
  cases he : s.ssq.engine with
  | running => exact absurd he hr
  | lockedOut => exact absurd he hl
  | stopped | cooldown | shutdown =>
    have hhalts := halts_setReason (s := a) (by rw [hengine, he]; decide)
    rw [hengine, he] at hhalts ⊢
    refine stopTaken_of_halts old (by unfold stopTarget; rw [he]; exact hhalts) ?_ ?_ (hout _ (outer_setReason _ _)) ?_ ?_ ?_ <;>
      rw [he] <;> simp
  | claiming | crankRest =>
    rw [hengine, he]
    refine stopTaken_of_halts old (by unfold stopTarget; rw [he]; exact halts_enterStopped a) (fun _ => hstopped a) ?_
      (hout _ (outer_enterStopped _)) ?_ ?_ ?_ <;> rw [he] <;> simp
  | prelube =>
    rw [hengine, he]
    refine stopTaken_of_halts old (by unfold stopTarget; rw [he]; exact halts_enterStopped _) (fun _ => hstopped _) (by simp [he])
      (hout _ ((outer_enterStopped _).trans (outer_addSeq .stop a))) (by simp [he]) (by simp [he]) fun _ hs => ?_
    have hadded : Waits .stop (setReason .manual (addSeq .stop a)) := waits_addSeq (o := .stop) (ha.estop.trans hs)
    have hstays := Waits.enter hadded .stopped
    rw [← enterStopped_manual] at hstays
    exact hstays
  | cranking =>
    rw [hengine, he]
    have hof : shutdownOf (crankingOrders a) = stopTarget s := by
      unfold crankingOrders stopTarget
      rw [shutdownOf_addSeq, shutdownOf_addSeq, shutdownOf_addSeq, he]; exact ha.shutdownOf
    have houter : (crankingOrders a).outer = a.outer := by
      unfold crankingOrders; rw [outer_addSeq, outer_addSeq, outer_addSeq]
    have hshut := hdown (crankingOrders a)
    refine stopTaken_of_halts old (by rw [← hof]; exact halts_enterShutdown _) (fun _ => hshut.claim) (fun _ => hshut.fuelOrder)
      (hout _ (hshut.outer.trans houter)) (fun _ hs => ?_) (by simp [he]) (by simp [he])
    obtain ⟨hd, hstop, hoff⟩ := waits_crankingOrders (ha.estop.trans hs)
    exact ⟨hshut.waits hd, hshut.waits hstop, hshut.waits hoff⟩
  | firing =>
    rw [hengine, he]
    have hof : shutdownOf (addSeq .fuelOff a) = stopTarget s := by
      unfold stopTarget; rw [shutdownOf_addSeq, he]; exact ha.shutdownOf
    have hshut := hdown (addSeq .fuelOff a)
    refine stopTaken_of_halts old (by rw [← hof]; exact halts_enterShutdown _) (fun _ => hshut.claim) (fun _ => hshut.fuelOrder)
      (hout _ (hshut.outer.trans (outer_addSeq .fuelOff a))) (by simp [he]) (fun _ hs => ?_) (by simp [he])
    exact hshut.waits (waits_addSeq (o := .fuelOff) (ha.estop.trans hs))
  | idleWarm =>
    rw [hengine, he]
    refine stopTaken_of_halts old (by unfold stopTarget; rw [he]; exact halts_enterCooldown a) ?_ ?_
      (hout _ (outer_enter .cooldown a)) ?_ ?_ ?_ <;> rw [he] <;> simp

/-- Settles O27: the request's new state is calm, or RUNNING waits with the stop in progress. -/
theorem stopRequestByEngineState : Obligations.StopRequestByEngineState := by
  intro s htimer hlevel hpin
  have ha := linesOnly_asserted (l := .stop) (by decide) s
  rw [exec_stopEdge htimer hlevel hpin]
  refine ⟨fun hr hl => ⟨_, rfl, stopTaken_stopRequest s ha hr hl⟩, fun he hwaits => ⟨_, rfl, ?_⟩, fun he hzero hstep => ⟨_, rfl, ?_⟩,
    fun he => ⟨_, rfl, ?_⟩⟩
  · have hact : stopRequest (asserted .stop s) = stopBegun (asserted .stop s) := by
      unfold stopRequest; rw [ha.ssq, he]
      exact stopToCooldown_of_waits (s := stopBegun (asserted .stop s)) hwaits
    obtain ⟨hengine, hstop⟩ := react_of_stopping s (s := stopBegun (asserted .stop s))
      he rfl hwaits
    rw [hact]
    exact ⟨hengine, hstop, cap_of_stopping hstop⟩
  · have hact : stopRequest (asserted .stop s)
        = setReason .manual (enter .cooldown (stopBegun (asserted .stop s))) := by
      unfold stopRequest; rw [ha.ssq, he]
      exact stopToCooldown_of_ready (s := stopBegun (asserted .stop s)) he rfl hzero hstep
    have hhalts := halts_enterCooldown (stopBegun (asserted .stop s))
    have hfuel := enter_fuelOrder .cooldown (stopBegun (asserted .stop s))
    have hssq := enter_ssq_of_ne (n := .cooldown) (by decide) (stopBegun (asserted .stop s))
    have hthrough := react_of_calm s hhalts.calm
    rw [hact]
    refine ⟨hthrough.engine.trans hhalts.engine, hthrough.stopReason.trans hhalts.stopReason, ?_, ?_, ?_⟩
    · rw [hthrough.ssq]
      show (enter .cooldown (stopBegun (asserted .stop s))).ssq.cooldown = _
      rw [hssq]; rfl
    · rw [hthrough.ssq]; exact enter_stopInProgress _ _
    · exact hthrough.fuelOrder.trans (hfuel.trans (Bool.and_true _))
  · have hact : stopRequest (asserted .stop s) = asserted .stop s := by
      unfold stopRequest; rw [ha.ssq, he]
    have hthrough := react_of_calm s (s := asserted .stop s) (.of_engine (Or.inr (Or.inl he)))
    rw [hact]
    exact ⟨hthrough.engine.trans he, hthrough.stopReason⟩

end Sys2Proof.Machine
end

section
/-! The autostop, the autorestart and the contention in COOLDOWN: the reactions from STOPPED, COOLDOWN and RUNNING (R90, R111 to R117). -/

namespace Sys2Proof.Machine

/-! ## Views of the table that a block reads -/

section
variable {s t : State} (htable : t.table = s.table) (hmpt : t.mpt = s.mpt)
include htable hmpt

omit htable in
theorem others_of_same : t.others = s.others := by unfold State.others State.ownPosition; rw [hmpt]

theorem runningLast_of_same : t.runningLast = s.runningLast := by
  unfold State.runningLast State.entry; rw [others_of_same hmpt, htable]

theorem runningNow_of_same : t.runningNow = s.runningNow := by
  unfold State.runningNow State.entry; rw [others_of_same hmpt, htable]

theorem cooldownSeen_of_same : t.cooldownSeen = s.cooldownSeen := by
  unfold State.cooldownSeen State.entry; rw [others_of_same hmpt, htable]

theorem peerDemands_of_same : t.peerDemands = s.peerDemands := by
  unfold State.peerDemands State.entry; rw [others_of_same hmpt, htable]

theorem effectiveDemand_of_same (hreading : t.nsp.reading = s.nsp.reading) : t.effectiveDemand = s.effectiveDemand := by
  unfold State.effectiveDemand; rw [hreading, peerDemands_of_same htable hmpt]

theorem triggerTrigger_of_same (hreading : t.nsp.reading = s.nsp.reading) : triggerTrigger s t = false := by
  unfold triggerTrigger
  rw [effectiveDemand_of_same htable hmpt hreading, runningLast_of_same htable hmpt]; simp

end

@[simp] theorem upkept_table (s : State) : (upkept s).table = s.table := table_of_outer (outer_upkept s)

@[simp] theorem upkept_mpt (s : State) : (upkept s).mpt = s.mpt := mpt_of_outer (outer_upkept s)

theorem upkept_reading (s : State) : (upkept s).nsp.reading = s.nsp.reading := by
  obtain ⟨x, hx⟩ := upkept_nsp s
  rw [hx]

theorem upkept_effectiveDemand (s : State) : (upkept s).effectiveDemand = s.effectiveDemand :=
  effectiveDemand_of_same (upkept_table s) (upkept_mpt s) (upkept_reading s)

theorem autorestartTrigger_iff {s : State} : s.autorestartTrigger = true ↔ AutorestartDue s := by
  have hfloor : s.runningLast < s.floor ↔ ∃ c, s.mpt.committed = some c ∧ s.runningLast < c.floor.val := by
    unfold State.floor
    cases s.mpt.committed with
    | none => simp
    | some c => simp
  have hlevel (v : Nat) : decide (v < autorestartLevel) = true ↔ ∃ w, some v = some w ∧ w < 256 := by
    unfold autorestartLevel
    rw [decide_eq_true_iff]; simp
  unfold State.autorestartTrigger AutorestartDue State.sensorValid
  cases s.lmn.sample with
  | none => simp [hfloor, or_assoc]
  | some v =>
    simp only [Bool.or_eq_true, hlevel, decide_eq_true_iff, hfloor, Bool.and_eq_true, or_assoc]

theorem autorestart_upkept {s : State} (h : AutorestartDue s) : (upkept s).autorestartTrigger = true := by
  refine autorestartTrigger_iff.mpr ?_
  unfold AutorestartDue at h ⊢
  rw [upkept_effectiveDemand, upkept_lmn, upkept_erc, upkept_mpt, runningLast_of_same (upkept_table s) (upkept_mpt s)]
  exact h

/-! ## The reactions in STOPPED and COOLDOWN -/

section
variable {s : State}

/-- In STOPPED and COOLDOWN nothing is decided while table, position and reading stand. -/
theorem react_of_waiting {old : State} (he : s.ssq.engine = .stopped ∨ s.ssq.engine = .cooldown) (htable : s.table = old.table)
    (hmpt : s.mpt = old.mpt) (hreading : s.nsp.reading = old.nsp.reading) : Undecided s (react old s) := by
  have hne {n : EngineState} (hs : n ≠ .stopped) (hc : n ≠ .cooldown) : (upkept s).ssq.engine ≠ n := by
    rw [upkept_ssq]
    rcases he with h | h <;> rw [h]
    · exact hs.symm
    · exact hc.symm
  have htrigger : triggerTrigger old (upkept s) = false :=
    triggerTrigger_of_same ((upkept_table s).trans htable) ((upkept_mpt s).trans hmpt) ((upkept_reading s).trans hreading)
  have hseen : (upkept s).cooldownSeen = old.cooldownSeen :=
    cooldownSeen_of_same ((upkept_table s).trans htable) ((upkept_mpt s).trans hmpt)
  have hdecided : decideBlocks old s = upkept s := by
    rw [decideBlocks_eq]
    simp only [idleUpkeep_of_ne (s := upkept s) (hne (by decide) (by decide)),
      stopToCooldown_of_ne (s := upkept s) (hne (by decide) (by decide)), htrigger, Bool.false_eq_true, if_false]
    rw [ite_test (clashTest_of_ne (s := upkept s) (hne (by decide) (by decide)) (hne (by decide) (by decide))),
      ite_test (grantTest_of_ne (s := upkept s) (hne (by decide) (by decide))), hseen]
    simp only [ne_eq, not_true_eq_false, decide_false, Bool.false_eq_true, if_false]
    exact ite_test (autostopTest_of_ne (hne (by decide) (by decide)))
  unfold react; rw [hdecided]
  exact (undecided_upkept s).trans (posted_postOrders old (Or.inr (hne (by decide) (by decide)))).undecided

/-- STOPPED by an autostop, with all that a start request asks for. -/
theorem not_refusesStart (h : AutoStopped s) : ¬ RefusesStart s := by
  obtain ⟨-, -, ⟨v, hv, hlevel⟩, hlink, hestop⟩ := h
  rw [refusesStart_iff]
  rintro (hn | ⟨w, hw, hlow⟩ | hs | he)
  · exact nomatch hv.symm.trans hn
  · have := Option.some.inj (hv.symm.trans hw)
    omega
  · exact hlink hs
  · exact nomatch hestop.symm.trans he

theorem autoStopped_of_same {t : State} (h : AutoStopped s) (hengine : t.ssq.engine = s.ssq.engine)
    (hreason : t.ssq.stopReason = s.ssq.stopReason) (hlmn : t.lmn = s.lmn)
    (hlink : t.clc.linkState = .silenced ↔ s.clc.linkState = .silenced) : AutoStopped t := by
  obtain ⟨he, hr, hv, hl, hestop⟩ := h
  have hestop' : t.estop = s.estop := by unfold State.estop; rw [hlmn]
  exact ⟨hengine.trans he, hreason.trans hr, by rw [hlmn]; exact hv, fun h' => hl (hlink.mp h'), hestop'.trans hestop⟩

/-- A trigger from STOPPED starts a claim. -/
theorem triggerTest_claims (h : AutoStopped s) (hdue : s.autorestartTrigger = true) : triggerTest s = enter .claiming s := by
  obtain ⟨he, hr, -⟩ := id h
  unfold triggerTest
  rw [hr, hdue, he]
  exact startRequest_of_ready he (not_refusesStart h)

/-- A trigger in COOLDOWN brings RUNNING back. -/
theorem triggerTest_returns (he : s.ssq.engine = .cooldown) (hr : s.ssq.stopReason = .auto) (hdue : s.autorestartTrigger = true) :
    triggerTest s = setReason .manual (enter .running s) := by
  unfold triggerTest
  rw [hr, hdue, he]; rfl

theorem triggerTest_of_absent (h : s.autorestartTrigger = false) : triggerTest s = s := by
  unfold triggerTest; rw [h]; simp

theorem grantTest_enterClaiming (h : s.ssq.engine ≠ .prelube) : grantTest (enter .claiming s) = enter .claiming s := by
  have hclaim : (enter .claiming s).cpa.claim = some 0 := by rw [enter_claim]; exact if_neg h
  refine grantTest_of_young fun a ha => ?_
  rw [hclaim] at ha
  cases ha; decide

/-- A trigger seen in STOPPED by the reaction starts a claim. -/
theorem react_autostarts (old : State) (h : AutoStopped s) (htrigger : triggerTrigger old (upkept s) = true)
    (hdue : AutorestartDue s) : (react old s).ssq.engine = .claiming ∧ (react old s).cpa.claim = some 0 := by
  have hu : AutoStopped (upkept s) :=
    autoStopped_of_same h (by rw [upkept_ssq]) (by rw [upkept_ssq]) (upkept_lmn s) (upkept_silenced s)
  obtain ⟨he, -⟩ := id hu
  have hne {n : EngineState} (hn : n ≠ .claiming) : (enter .claiming (upkept s)).ssq.engine ≠ n := by
    rw [engine_enter]; exact hn.symm
  have hdecided : decideBlocks old s = enter .claiming (upkept s) := by
    rw [decideBlocks_eq]
    simp only [idleUpkeep_of_ne (s := upkept s) (by rw [he]; decide), stopToCooldown_of_ne (s := upkept s) (by rw [he]; decide),
      htrigger, if_true, triggerTest_claims hu (autorestart_upkept hdue)]
    rw [ite_test (clashTest_of_ne (hne (by decide)) (hne (by decide))), ite_test (grantTest_enterClaiming (by rw [he]; decide)),
      ite_test (contention_of_ne (hne (by decide)))]
    exact ite_test (autostopTest_of_ne (hne (by decide)))
  have hclaim : (enter .claiming (upkept s)).cpa.claim = some 0 := by rw [enter_claim, he]; rfl
  have hposted := posted_postOrders old (s := enter .claiming (upkept s)) (Or.inr (hne (by decide)))
  unfold react; rw [hdecided, hposted.engine, hposted.cpa]
  exact ⟨engine_enter _ _, hclaim⟩

/-- The contention with a COOLDOWN of a lower position brings RUNNING back. -/
theorem contention_returns {own p : Fin 8} (he : s.ssq.engine = .cooldown) (hr : s.ssq.stopReason = .auto)
    (hown : s.ownPosition = some own) (hseen : s.cooldownSeen = some p) (hlt : p < own) :
    contention s = setReason .manual (enter .running s) := by
  unfold contention; rw [hseen, hown]
  exact if_pos (by simp [he, hr, hlt])

/-- A COOLDOWN of a lower position seen in COOLDOWN by the reaction brings RUNNING back, through the contention if no trigger has. -/
theorem react_contends {old : State} {own p : Fin 8} (he : s.ssq.engine = .cooldown) (hr : s.ssq.stopReason = .auto)
    (hown : s.ownPosition = some own) (hseen : s.cooldownSeen = some p) (hlt : p < own) (hnew : old.cooldownSeen ≠ some p) :
    Posted (setReason .manual (enter .running (upkept s))) (react old s) := by
  have he' : (upkept s).ssq.engine = .cooldown := by rw [upkept_ssq, he]
  have hr' : (upkept s).ssq.stopReason = .auto := by rw [upkept_ssq, hr]
  have hown' : (upkept s).ownPosition = some own := by unfold State.ownPosition at hown ⊢; rw [upkept_mpt, hown]
  have hseen' : (upkept s).cooldownSeen = some p := (cooldownSeen_of_same (upkept_table s) (upkept_mpt s)).trans hseen
  have hchanged : decide ((upkept s).cooldownSeen ≠ old.cooldownSeen) = true := by
    rw [hseen']; exact decide_eq_true hnew.symm
  have hback : (setReason .manual (enter .running (upkept s))).ssq.engine = .running := engine_enter _ _
  have hfresh : (setReason .manual (enter .running (upkept s))).ssq.idleElapsed = false := enterRunning_idleElapsed _
  have htested : (if triggerTrigger old (upkept s) then triggerTest (upkept s) else upkept s) = upkept s
      ∨ (if triggerTrigger old (upkept s) then triggerTest (upkept s) else upkept s)
        = setReason .manual (enter .running (upkept s)) := by
    rcases ite_test_cases (triggerTrigger old (upkept s) = true) (upkept s) (triggerTest (upkept s)) with ht | ht <;> rw [ht]
    · exact Or.inl rfl
    · cases hdue : (upkept s).autorestartTrigger with
      | false => exact Or.inl (triggerTest_of_absent hdue)
      | true => exact Or.inr (triggerTest_returns he' hr' hdue)
  have hdecided : decideBlocks old s = setReason .manual (enter .running (upkept s)) := by
    rw [decideBlocks_eq]
    simp only [idleUpkeep_of_ne (s := upkept s) (by rw [he']; decide), stopToCooldown_of_ne (s := upkept s) (by rw [he']; decide)]
    rcases htested with ht | ht <;> rw [ht]
    · rw [ite_test (clashTest_of_ne (s := upkept s) (by rw [he']; decide) (by rw [he']; decide)),
        ite_test (grantTest_of_ne (s := upkept s) (by rw [he']; decide)), if_pos hchanged,
        contention_returns he' hr' hown' hseen' hlt]
      exact ite_test (autostopTest_of_idle hfresh)
    · generalize setReason .manual (enter .running (upkept s)) = v at hback hfresh
      rw [ite_test (clashTest_of_ne (s := v) (by rw [hback]; decide) (by rw [hback]; decide)),
        ite_test (grantTest_of_ne (s := v) (by rw [hback]; decide)), ite_test (contention_of_ne (s := v) (by rw [hback]; decide))]
      exact ite_test (autostopTest_of_idle hfresh)
  unfold react; rw [hdecided]
  exact posted_postOrders old (Or.inr (by rw [hback]; decide))

/-! ## The idle time in RUNNING -/

theorem autostopConditions_upkept (s : State) : (upkept s).autostopConditions = s.autostopConditions := by
  have hlink : decide ((upkept s).clc.linkState ≠ .silenced) = decide (s.clc.linkState ≠ .silenced) :=
    decide_eq_decide.mpr (not_congr (upkept_silenced s))
  unfold State.autostopConditions State.floor State.coolantAtLeast State.sensorValid State.batteryAtLeast
  rw [hlink, runningNow_of_same (upkept_table s) (upkept_mpt s), cooldownSeen_of_same (upkept_table s) (upkept_mpt s)]
  simp only [upkept_mpt, upkept_ssq, upkept_erc, upkept_lmn]

theorem autostopTest_of_unmet (h : s.autostopConditions = false) : autostopTest s = s := by
  unfold autostopTest; rw [h]; simp

/-- With the idle time elapsed and the conditions not met the engine runs on. -/
theorem react_of_overdue (old : State) (he : s.ssq.engine = .running) (hstop : s.ssq.stopInProgress = false)
    (hzero : s.nsp.completed = 0) (hdemand : s.effectiveDemand = 0) (helapsed : s.ssq.idleElapsed = true)
    (hunmet : s.autostopConditions = false) : Undecided s (react old s) := by
  obtain ⟨x, hx⟩ := upkept_nsp s
  have hidle : idleUpkeep (upkept s) = upkept s := by
    unfold idleUpkeep
    rw [if_pos (by rw [upkept_ssq, he]), if_pos ⟨by rw [hx]; exact hzero, (upkept_effectiveDemand s).trans hdemand⟩, upkept_ssq, helapsed]
    simp
  have hrun : (upkept s).ssq.engine = .running := by rw [upkept_ssq, he]
  have hclear : (upkept s).ssq.stopInProgress = false := by rw [upkept_ssq, hstop]
  have hdecided : decideBlocks old s = upkept s := by
    rw [decideBlocks_eq, hidle]
    simp only [stopToCooldown_of_clear hclear]
    rw [ite_test (triggerTest_of_ne (s := upkept s) (by rw [hrun]; decide) (by rw [hrun]; decide)),
      ite_test (clashTest_of_ne (s := upkept s) (by rw [hrun]; decide) (by rw [hrun]; decide)),
      ite_test (grantTest_of_ne (s := upkept s) (by rw [hrun]; decide)),
      ite_test (contention_of_ne (s := upkept s) (by rw [hrun]; decide))]
    exact ite_test (autostopTest_of_unmet ((autostopConditions_upkept s).trans hunmet))
  unfold react; rw [hdecided]
  exact (undecided_upkept s).trans (posted_postOrders old (Or.inr (by rw [hrun]; decide))).undecided

end

end Sys2Proof.Machine
end

section
/-! A record taken in the station: what its arrival leaves of the deciding blocks' inputs, and the one reaction of a refresh (R27, R38). -/

namespace Sys2Proof.Machine

theorem linkAfter_silenced (s : State) : s.linkAfter = .silenced ↔ s.clc.linkState = .silenced := by
  have hlink : (upkept s).clc.linkState = s.linkAfter := by
    unfold upkept; rw [disagreeUpkeep_clc, linkUpdate_eq]; rfl
  rw [← hlink]; exact upkept_silenced s

/-! ## The pair goes quiet -/

/-- What the end of a transmission on the pair leaves: all that the deciding blocks read but the link state, and of that whether it
is SILENCED. -/
structure Quiet (s u : State) : Prop where
  ssq : u.ssq = { s.ssq with seqList := u.ssq.seqList, protList := u.ssq.protList, pumpHeld := u.ssq.pumpHeld }
  cpa : u.cpa = s.cpa
  reading : u.nsp.reading = s.nsp.reading
  table : u.table = s.table
  lmn : u.lmn = s.lmn
  mpt : u.mpt = s.mpt
  silenced : u.clc.linkState = .silenced ↔ s.clc.linkState = .silenced

/-- A state that differs in CLC alone. -/
def withClc (c : Clc) (s : State) : State := { s with clc := c }

theorem quiet_withClc {c : Clc} {s : State} (h : c.linkState = .silenced ↔ s.clc.linkState = .silenced) : Quiet s (withClc c s) :=
  ⟨rfl, rfl, rfl, rfl, rfl, rfl, h⟩

theorem Quiet.trans {a b c : State} (h : Quiet a b) (g : Quiet b c) : Quiet a c where
  ssq := by rw [g.ssq, h.ssq]
  cpa := g.cpa.trans h.cpa
  reading := g.reading.trans h.reading
  table := g.table.trans h.table
  lmn := g.lmn.trans h.lmn
  mpt := g.mpt.trans h.mpt
  silenced := g.silenced.trans h.silenced

theorem Quiet.engine {s u : State} (h : Quiet s u) : u.ssq.engine = s.ssq.engine := by rw [h.ssq]

theorem Quiet.stopReason {s u : State} (h : Quiet s u) : u.ssq.stopReason = s.ssq.stopReason := by rw [h.ssq]

theorem quiet_react {old s : State} (h : Undecided s (react old s)) : Quiet s (react old s) where
  ssq := h.ssq
  cpa := h.cpa
  reading := by
    have hdemands : (react old s).demands = s.demands := unmoved_demands.react old s
    simp only [State.demands, Prod.mk.injEq] at hdemands
    exact hdemands.1
  table := react_table old s
  lmn := react_lmn old s
  mpt := react_mpt old s
  silenced := by rw [react_linkState]; exact linkAfter_silenced s

/-- The engine state is one in which a reaction to CLC alone decides nothing. -/
def IgnoresLink (s : State) : Prop := ∀ c : Clc, Undecided (withClc c s) (react s (withClc c s))

theorem leaveChecking_withClc (s : State) :
    ∃ c, leaveChecking s = withClc c s ∧ (c.linkState = .silenced ↔ s.clc.linkState = .silenced) := by
  unfold leaveChecking; split
  next h =>
    refine ⟨_, rfl, iff_of_false ?_ (by rw [h]; decide)⟩
    show s.joinedOrAlone ≠ .silenced
    rcases joinedOrAlone_follows s with hj | hj <;> rw [hj] <;> decide
  next => exact ⟨s.clc, rfl, Iff.rfl⟩

theorem quiet_checkSent (injected : Bool) {s : State} (h : IgnoresLink s) : Quiet s (checkSent injected s) := by
  have hcount : countCheckSent injected (stopSending s) = withClc (countCheckSent injected (stopSending s)).clc s := rfl
  obtain ⟨c, hleave, hlink⟩ := leaveChecking_withClc (countCheckSent injected (stopSending s))
  have hleft : leaveChecking (countCheckSent injected (stopSending s)) = withClc c s := hleave
  unfold checkSent; simp only []; split
  · rw [hleft]
    have hquiet : Quiet s (withClc c s) := quiet_withClc hlink
    exact hquiet.trans (quiet_react (h c))
  · rw [hcount]; exact quiet_withClc Iff.rfl

theorem quiet_finishSending {s : State} (h : IgnoresLink s) : Quiet s (finishSending s) := by
  unfold finishSending; repeat' split
  · exact quiet_checkSent _ h
  · exact quiet_withClc (c := { s.clc with tx := .idle }) Iff.rfl
  · exact quiet_withClc (c := s.clc) Iff.rfl

theorem quiet_counted {s : State} (h : IgnoresLink s) : Quiet s (counted s) := by
  have hclc (u : State) : counted u = withClc (counted u).clc (finishSending u) := rfl
  rw [hclc s]
  exact (quiet_finishSending h).trans (quiet_withClc Iff.rfl)

/-! ## A direct record without relays -/

/-- The table with the record's entry, and the phantom hold of its origin ended. -/
def refreshedBy (r : Record) (s : State) : State :=
  endHold r.origin (setEntry r.origin (afterRecord r (s.entry r.origin)) (tagCounted r s))

/-- A deferred record of another position is the refresh of its origin, then those of its relays. -/
theorem exec_otherRecord {ws : List WireOctet} {r : Record} {c : Committed} {s : State} (hr : s.inReset = false)
    (hf : framed ws.length s) (ha : acceptRecord ws = some r) (hm : r.mark ≠ .check) (hd : r.deferred = true)
    (hc : s.mpt.committed = some c) (hp : r.origin ≠ c.position) : exec (.recordTaken ws) s
      = .next (relayedRefreshes r.origin r.summaries (react (tagCounted r (counted s)) (clashTest (refreshedBy r (counted s))))) := by
  have hown : s.ownPosition ≠ some r.origin := by
    rw [ownPosition_of_committed hc]; exact fun h => hp (Option.some.inj h).symm
  have halign : alignTo r (72 * ws.length + 80) (counted s) = counted s := if_pos hd
  rw [exec_recordTaken_accepted hr hf ha, actOnRecord_other hown, if_neg hm, halign, hc]
  have hhanded (u : State) : handOn r u = relayedRefreshes r.origin r.summaries (react (tagCounted r u) (clashTest (refreshedBy r u))) := by
    unfold handOn
    rw [directRefresh_eq]; rfl
  rw [if_pos (show (some c).isSome = true from rfl), hhanded]

theorem exec_directRecord {ws : List WireOctet} {r : Record} {c : Committed} {s : State} (hr : s.inReset = false)
    (hf : framed ws.length s) (ha : acceptRecord ws = some r) (hm : r.mark ≠ .check) (hd : r.deferred = true)
    (hs : r.summaries = []) (hc : s.mpt.committed = some c) (hp : r.origin ≠ c.position) :
    exec (.recordTaken ws) s = .next (react (tagCounted r (counted s)) (clashTest (refreshedBy r (counted s)))) := by
  rw [exec_otherRecord hr hf ha hm hd hc hp, hs]; rfl

section
variable (r : Record) (s : State)

theorem tagCounted_withClc : ∃ c, tagCounted r s = withClc c s ∧ c.linkState = s.clc.linkState :=
  ⟨_, tagCounted_clc r s, rfl⟩

theorem refreshedBy_ssq : (refreshedBy r s).ssq = s.ssq := by
  show (tagCounted r s).ssq = _
  rw [tagCounted_clc]

theorem refreshedBy_nsp : (refreshedBy r s).nsp = s.nsp := by
  show (tagCounted r s).nsp = _
  rw [tagCounted_clc]

theorem refreshedBy_lmn : (refreshedBy r s).lmn = s.lmn := by
  show (tagCounted r s).lmn = _
  rw [tagCounted_clc]

theorem refreshedBy_mpt : (refreshedBy r s).mpt = s.mpt := by
  show (tagCounted r s).mpt = _
  rw [tagCounted_clc]

theorem refreshedBy_linkState : (refreshedBy r s).clc.linkState = s.clc.linkState := by
  show (tagCounted r s).clc.linkState = _
  rw [tagCounted_clc]

theorem refreshedBy_claim : (refreshedBy r s).cpa.claim = s.cpa.claim ∧ (refreshedBy r s).cpa.permitClash = s.cpa.permitClash := by
  show (tagCounted r s).cpa.claim = _ ∧ (tagCounted r s).cpa.permitClash = _
  rw [tagCounted_clc]; exact ⟨rfl, rfl⟩

theorem refreshedBy_entry : (refreshedBy r s).entry r.origin = afterRecord r (s.entry r.origin) :=
  entry_setEntry r.origin _ (tagCounted r s)

theorem refreshedBy_entry_ne {q : Fin 8} (h : q ≠ r.origin) : (refreshedBy r s).entry q = s.entry q := by
  refine (entry_setEntry_ne h _ (tagCounted r s)).trans ?_
  rw [tagCounted_clc]; rfl

theorem refreshedBy_ownPosition : (refreshedBy r s).ownPosition = s.ownPosition := by
  unfold State.ownPosition; rw [refreshedBy_mpt]

end

end Sys2Proof.Machine
end

section
/-! Obligation O42: autostop, cooldown, contention and autorestart (R90, R111 to R117). -/

namespace Sys2Proof.Machine

/-! ## The autostop and the end of COOLDOWN -/

/-- The idle time noted as elapsed. -/
def idleElapsed (s : State) : State := { s with ssq := { s.ssq with autostopIdle := none, idleElapsed := true } }

theorem exec_autostopIdleTimerExpiry {s : State} (h : s.ssq.autostopIdle.isSome = true) (he : s.ssq.engine = .running) :
    exec .autostopIdleTimerExpiry s = .next (react s (autostopTest (idleElapsed s))) :=
  congrArg Host.Outcome.next (phaseExpiry_of_running (act := idleOver) h he)

theorem exec_cooldownTimerExpiry {s : State} (h : s.ssq.cooldown.isSome = true) (he : s.ssq.engine = .cooldown) :
    exec .cooldownTimerExpiry s = .next (react s (enterShutdown (clearFuel (addSeq .fuelOff s)))) :=
  congrArg Host.Outcome.next (phaseExpiry_of_running (act := cooldownOver) h he)

/-- COOLDOWN entered by an autostop: nothing that the reaction looks at has changed. -/
theorem react_enterAutostop {old s : State} (he : s.ssq.engine = .running) (houter : s.outer = old.outer) (hreading : s.nsp.reading = old.nsp.reading) :
    Undecided (setReason .auto (enter .cooldown s)) (react old (setReason .auto (enter .cooldown s))) := by
  have houter' : (setReason .auto (enter .cooldown s)).outer = old.outer := (outer_enter .cooldown s).trans houter
  refine react_of_waiting (Or.inr (engine_enter _ _)) (table_of_outer houter') (mpt_of_outer houter') ?_
  have hdemands : (enter .cooldown s).demands = s.demands := unmoved_demands.moves
    (moves_enterUp (.refl s) (by rw [he]; rfl) (by decide) (by decide))
  simp only [State.demands, Prod.mk.injEq] at hdemands
  exact hdemands.1.trans hreading

theorem autostop_due {s : State} (h : s.ssq.autostopIdle.isSome = true) (he : s.ssq.engine = .running)
    (hmet : s.autostopConditions = true) :
    ∃ t, exec .autostopIdleTimerExpiry s = .next t ∧ t.ssq.engine = .cooldown ∧ t.ssq.stopReason = .auto
      ∧ t.ssq.cooldown = some 60000 ∧ t.ssq.fuelOrder = s.ssq.fuelOrder := by
  have hact : autostopTest (idleElapsed s) = setReason .auto (enter .cooldown (idleElapsed s)) := by
    have hmet' : (idleElapsed s).autostopConditions = true := hmet
    unfold autostopTest
    exact if_pos (by rw [hmet']; simp [idleElapsed, he])
  have hthrough := react_enterAutostop (old := s) (s := idleElapsed s) he rfl rfl
  have hssq := enter_ssq_of_ne (n := .cooldown) (by decide) (idleElapsed s)
  refine ⟨_, exec_autostopIdleTimerExpiry h he, ?_⟩
  rw [hact]
  refine ⟨hthrough.engine.trans (engine_enter _ _), hthrough.stopReason, ?_, ?_⟩
  · rw [hthrough.ssq]
    show (enter .cooldown (idleElapsed s)).ssq.cooldown = _
    rw [hssq]; rfl
  · rw [hthrough.fuelOrder]
    show (enter .cooldown (idleElapsed s)).ssq.fuelOrder = _
    rw [enter_fuelOrder]; exact Bool.and_true _

theorem autostop_unmet {s : State} (h : s.ssq.autostopIdle.isSome = true) (he : s.ssq.engine = .running) (hzero : s.nsp.completed = 0)
    (hdemand : s.effectiveDemand = 0) (hunmet : s.autostopConditions = false) (hstop : s.ssq.stopInProgress = false) :
    ∃ t, exec .autostopIdleTimerExpiry s = .next t ∧ t.ssq.engine = .running ∧ t.ssq.idleElapsed = true := by
  have hunmet' : (idleElapsed s).autostopConditions = false := hunmet
  have hthrough := react_of_overdue s (s := idleElapsed s) he hstop hzero hdemand rfl hunmet'
  refine ⟨_, exec_autostopIdleTimerExpiry h he, ?_⟩
  rw [autostopTest_of_unmet hunmet', hthrough.ssq]
  exact ⟨he, rfl⟩

theorem cooldown_over {s : State} (h : s.ssq.cooldown.isSome = true) (he : s.ssq.engine = .cooldown) (hsilence : s.lmn.silence = false) :
    ∃ t, exec .cooldownTimerExpiry s = .next t ∧ t.ssq.engine = .shutdown ∧ t.ssq.fuelOrder = false
      ∧ t.ssq.stopReason = s.ssq.stopReason ∧ (s.estop = false → t.seqHas .fuelOff = true) := by
  have hlmn : (clearFuel (addSeq .fuelOff s)).lmn = s.lmn := lmn_of_outer (outer_addSeq .fuelOff s)
  have hturning : (clearFuel (addSeq .fuelOff s)).lmn.silence = false := by rw [hlmn]; exact hsilence
  have hshut := enterShutdown_shutsDown (s := clearFuel (addSeq .fuelOff s)) (Or.inr hturning)
  have hengine := hshut.engine.trans (shutdownOf_of_turning hturning)
  have hthrough := react_of_calm s (.of_engine (Or.inl hengine))
  have hreason : (clearFuel (addSeq .fuelOff s)).ssq.stopReason = s.ssq.stopReason := by
    obtain ⟨l, r, hadd⟩ := addSeq_eq .fuelOff s
    rw [hadd]; rfl
  refine ⟨_, exec_cooldownTimerExpiry h he, hthrough.engine.trans hengine, hthrough.fuelOrder.trans hshut.fuelOrder,
    hthrough.stopReason.trans (hshut.stopReason.trans hreason), fun hestop => ?_⟩
  have hadded : Waits .fuelOff (clearFuel (addSeq .fuelOff s)) := waits_addSeq (o := .fuelOff) hestop
  have hestop' : (enterShutdown (clearFuel (addSeq .fuelOff s))).estop = false :=
    hshut.estop.trans ((estop_of_outer (outer_addSeq .fuelOff s)).trans hestop)
  exact waits_iff.mp (hthrough.waits hestop' _ (hshut.waits hadded))

/-! ## A record's refresh in COOLDOWN and STOPPED -/

theorem ignoresLink_of_waiting {s : State} (he : s.ssq.engine = .stopped ∨ s.ssq.engine = .cooldown) : IgnoresLink s :=
  fun c => react_of_waiting (s := withClc c s) he rfl rfl rfl

theorem clashTest_refreshedBy {r : Record} {s : State} (he : s.ssq.engine = .stopped ∨ s.ssq.engine = .cooldown) :
    clashTest (refreshedBy r s) = refreshedBy r s := by
  refine clashTest_of_ne ?_ ?_ <;> rw [refreshedBy_ssq] <;> rcases he with h | h <;> rw [h] <;> decide

theorem autoCooling_of_same {s t : State} {q : Fin 8} (hown : t.ownPosition = s.ownPosition) (hentry : t.entry q = s.entry q) :
    autoCooling t q ↔ autoCooling s q := by unfold autoCooling; rw [hown, hentry]

/-- The only COOLDOWN seen after the record of one that autostopped is the record's. -/
theorem cooldownSeen_refreshedBy {r : Record} {s : State} (hnone : s.cooldownSeen = none) (hown : s.ownPosition ≠ some r.origin)
    (hengine : r.contents.engine = .cooldown) (hauto : r.contents.flags.cooldownAuto = true) :
    (refreshedBy r s).cooldownSeen = some r.origin := by
  refine cooldownSeen_eq_some.mpr ⟨⟨by rw [refreshedBy_ownPosition]; exact hown, ?_⟩, fun q hq => ?_⟩
  · rw [refreshedBy_entry]; exact ⟨Or.inl rfl, hengine, hauto⟩
  · by_cases hp : q = r.origin
    · rw [hp]
    · exact absurd ((autoCooling_of_same (refreshedBy_ownPosition r s) (refreshedBy_entry_ne r s hp)).mp hq)
        (cooldownSeen_eq_none.mp hnone q)

theorem contention_record {ws : List WireOctet} {r : Record} {c : Committed} {s : State} (hr : s.inReset = false)
    (hf : framed ws.length s) (ha : acceptRecord ws = some r) (hm : r.mark ≠ .check) (hd : r.deferred = true)
    (hc : s.mpt.committed = some c) (he : s.ssq.engine = .cooldown) (hauto : s.ssq.stopReason = .auto) (hseen : s.cooldownSeen = none)
    (hengine : r.contents.engine = .cooldown) (hflag : r.contents.flags.cooldownAuto = true) (hs : r.summaries = [])
    (hlt : r.origin < c.position) :
    ∃ t, exec (.recordTaken ws) s = .next t ∧ t.ssq.engine = .running ∧ t.ssq.stopReason = .manual ∧ t.ssq.cooldown = none := by
  have hquiet := quiet_counted (ignoresLink_of_waiting (Or.inr he))
  have hne : r.origin ≠ c.position := fun h => absurd (h ▸ hlt) (lt_irrefl _)
  have hexec := exec_directRecord hr hf ha hm hd hs hc hne
  generalize counted s = u at hquiet hexec
  have hown : u.ownPosition = some c.position := by unfold State.ownPosition; rw [hquiet.mpt, hc]; rfl
  have hnone : u.cooldownSeen = none := (cooldownSeen_of_same hquiet.table hquiet.mpt).trans hseen
  have hcool : u.ssq.engine = .cooldown := hquiet.engine.trans he
  have hfirst : (refreshedBy r u).cooldownSeen = some r.origin :=
    cooldownSeen_refreshedBy hnone (by rw [hown]; exact fun h => hne (Option.some.inj h).symm) hengine hflag
  have hold : (tagCounted r u).cooldownSeen ≠ some r.origin := by
    rw [cooldownSeen_of_same (s := u) (by rw [tagCounted_clc]) (by rw [tagCounted_clc]), hnone]; nofun
  have hposted := react_contends (old := tagCounted r u) (s := refreshedBy r u) (by rw [refreshedBy_ssq]; exact hcool)
    (by rw [refreshedBy_ssq]; exact hquiet.stopReason.trans hauto) ((refreshedBy_ownPosition r u).trans hown) hfirst hlt hold
  obtain ⟨x, y, hq⟩ := enter_ssq .running (upkept (refreshedBy r u))
  rw [clashTest_refreshedBy (Or.inr hcool)] at hexec
  refine ⟨_, hexec, ?_⟩
  rw [hposted.ssq]
  refine ⟨engine_enter _ _, rfl, ?_⟩
  show (enter .running (upkept (refreshedBy r u))).ssq.cooldown = none
  rw [hq]; rfl

theorem runs_eq (e : EngineState) : e.runs = decide (e = .idleWarm ∨ e = .running) := by cases e <;> rfl

/-- A running peer's record of another state leaves one running peer less. -/
theorem runningLast_refreshedBy {r : Record} {s : State} (hown : s.ownPosition ≠ some r.origin)
    (hpresent : (s.entry r.origin).state ≠ .absent) (hran : (s.entry r.origin).engine.runs = true)
    (hstops : r.contents.engine.runs = false) : (refreshedBy r s).runningLast < s.runningLast := by
  have hothers : (refreshedBy r s).others = s.others := others_of_same (refreshedBy_mpt r s)
  have hfewer : (refreshedBy r s).others.filter (fun p => decide (((refreshedBy r s).entry p).state ≠ .absent)
        && ((refreshedBy r s).entry p).engine.runs)
      = (s.others.filter (fun p => decide ((s.entry p).state ≠ .absent) && (s.entry p).engine.runs)).filter
          (fun p => decide (p ≠ r.origin)) := by
    rw [hothers, List.filter_filter]
    refine List.filter_congr fun p _ => ?_
    by_cases hp : p = r.origin
    · have hstops' : (afterRecord r (s.entry r.origin)).engine.runs = false := hstops
      rw [hp, refreshedBy_entry, hstops']; simp
    · rw [refreshedBy_entry_ne r s hp]; simp [hp]
  unfold State.runningLast
  rw [hfewer, List.length_filter_lt_length_iff_exists]
  exact ⟨r.origin, List.mem_filter.mpr ⟨mem_others.mpr hown, by simp [hpresent, hran]⟩, by simp⟩

theorem autorestart_record {ws : List WireOctet} {r : Record} {c : Committed} {s : State} (hr : s.inReset = false)
    (hf : framed ws.length s) (ha : acceptRecord ws = some r) (hm : r.mark ≠ .check) (hd : r.deferred = true) (hs : r.summaries = [])
    (hc : s.mpt.committed = some c) (hp : r.origin ≠ c.position) (hauto : AutoStopped s)
    (hpresent : (s.entry r.origin).state ≠ .absent) (hran : runningPeer s r.origin = true) (hwarm : r.contents.engine ≠ .idleWarm)
    (hrun : r.contents.engine ≠ .running) (hfloor : s.runningLast = c.floor.val) :
    ∃ t, exec (.recordTaken ws) s = .next t ∧ t.ssq.engine = .claiming ∧ t.cpa.claim = some 0 := by
  obtain ⟨he, -⟩ := id hauto
  obtain ⟨hown, hranstate⟩ := of_decide_eq_true hran
  have hstops : r.contents.engine.runs = false := by rw [runs_eq]; simp [hwarm, hrun]
  have hquiet := quiet_counted (ignoresLink_of_waiting (Or.inl he))
  have hexec := exec_directRecord hr hf ha hm hd hs hc hp
  generalize counted s = u at hquiet hexec
  have hown' : u.ownPosition = s.ownPosition := by unfold State.ownPosition; rw [hquiet.mpt]
  have hentry : u.entry r.origin = s.entry r.origin := by unfold State.entry; rw [hquiet.table]
  have hstopped : u.ssq.engine = .stopped := hquiet.engine.trans he
  have hlast : u.runningLast = c.floor.val := (runningLast_of_same hquiet.table hquiet.mpt).trans hfloor
  have hfewer : (refreshedBy r u).runningLast < u.runningLast :=
    runningLast_refreshedBy (by rw [hown']; exact hown) (by rw [hentry]; exact hpresent)
      (by rw [hentry, runs_eq]; exact decide_eq_true hranstate) hstops
  have hauto' : AutoStopped (refreshedBy r u) := by
    refine autoStopped_of_same hauto ?_ ?_ ((refreshedBy_lmn r u).trans hquiet.lmn) ?_
    · rw [refreshedBy_ssq, hquiet.engine]
    · rw [refreshedBy_ssq, hquiet.stopReason]
    · rw [refreshedBy_linkState]; exact hquiet.silenced
  have hdue : AutorestartDue (refreshedBy r u) :=
    Or.inr (Or.inr (Or.inr ⟨c, by rw [refreshedBy_mpt, hquiet.mpt, hc], by omega⟩))
  have htrigger : triggerTrigger (tagCounted r u) (upkept (refreshedBy r u)) = true := by
    have hold : (tagCounted r u).runningLast = u.runningLast :=
      runningLast_of_same (by rw [tagCounted_clc]) (by rw [tagCounted_clc])
    have hnew : (upkept (refreshedBy r u)).runningLast = (refreshedBy r u).runningLast :=
      runningLast_of_same (upkept_table _) (upkept_mpt _)
    unfold triggerTrigger
    rw [hold, hnew, Bool.or_eq_true]
    exact Or.inr (decide_eq_true (by omega))
  rw [clashTest_refreshedBy (Or.inl hstopped)] at hexec
  exact ⟨_, hexec, react_autostarts _ hauto' htrigger hdue⟩

/-! ## The demand, the coolant and the battery -/

theorem foldl_min_pos {l : List Nat} {n : Nat} (hn : 0 < n) (hl : ∀ d ∈ l, 0 < d) : 0 < l.foldl min n := by
  rcases foldl_min_mem l n with h | h
  · rw [h]; exact hn
  · exact hl _ h

theorem autorestart_demand {n : Nat} {s : State} (hauto : AutoStopped s) (htimer : s.nsp.demandTimer.isSome = true)
    (hcode : demandCodes[n]? = some s.pins.demandCode) (hn : 0 < n) (hzero : s.effectiveDemand = 0)
    (hpeers : ∀ d ∈ s.peerDemands, 0 < d) :
    ∃ t, exec .demandStabilityExpiry s = .next t ∧ t.ssq.engine = .claiming ∧ t.cpa.claim = some 0 := by
  have hmoves : (takeDemand s).outer = s.outer ∧ (takeDemand s).ssq = s.ssq ∧ (takeDemand s).clc = s.clc := by
    unfold takeDemand; simp only []; split
    · exact ⟨outer_clearFault _ _, clearFault_ssq _ _, clearFault_clc _ _⟩
    · exact ⟨outer_raiseFault _ _, raiseFault_ssq _ _, raiseFault_clc _ _⟩
  obtain ⟨houter, hssq, hclc⟩ := hmoves
  have hreading : (takeDemand s).nsp.reading = some n := by
    rw [(takeDemand_reading s).1]; exact (notchOfLines_eq s.pins.demandCode).1 n hcode
  have hdemand : 0 < (takeDemand s).effectiveDemand := by
    rw [effectiveDemand_of_reading hreading, peerDemands_of_same (table_of_outer houter) (mpt_of_outer houter)]
    exact foldl_min_pos hn hpeers
  have hauto' : AutoStopped (takeDemand s) :=
    autoStopped_of_same hauto (by rw [hssq]) (by rw [hssq]) (lmn_of_outer houter) (by rw [hclc])
  refine ⟨_, exec_demandStabilityExpiry htimer, react_autostarts s hauto' ?_ (Or.inl hdemand)⟩
  unfold triggerTrigger
  rw [upkept_effectiveDemand, hzero, Bool.or_eq_true]
  exact Or.inl (decide_eq_true (by omega))

theorem ssqSensorUpdate_cold {s : State} (hauto : AutoStopped s) (hvalid : s.erc.sensor.state = .valid)
    (hcold : s.erc.sensor.coolant < 30) : ssqSensorUpdate s = enter .claiming s := by
  obtain ⟨he, -⟩ := id hauto
  unfold ssqSensorUpdate; simp only [he, reduceCtorEq, decide_false, Bool.or_self, Bool.and_false, Bool.false_and, Bool.false_eq_true, if_false]
  rw [autostopTest_of_ne (by rw [he]; decide)]
  exact triggerTest_claims hauto (autorestartTrigger_iff.mpr (Or.inr (Or.inr (Or.inl ⟨hvalid, hcold⟩))))

theorem autorestart_coolant {cmd : Instr} {tr : Transaction} {d0 d1 d2 : Byte} {s : State} (hends : EndsWith cmd tr (.accept d0 d1 d2) s)
    (hclient : tr.client = .poll) (hread : tr.request.order = .read) (hauto : AutoStopped s) (hcold : d0.toNat < 80) :
    ∃ t, exec cmd s = .next t ∧ t.ssq.engine = .claiming ∧ t.cpa.claim = some 0 := by
  obtain ⟨he, -⟩ := id hauto
  obtain ⟨old, v, hexec, hnoted, -⟩ := exec_readAccept hends hread hclient (Or.inl (by rw [he]; decide))
  have hauto' : AutoStopped (setSensor (readRecord d0 d1 d2) v) :=
    autoStopped_of_same hauto (congrArg Ssq.engine hnoted.ssq) (congrArg Ssq.stopReason hnoted.ssq) (lmn_of_outer hnoted.outer)
      (by show v.clc.linkState = .silenced ↔ _; rw [hnoted.clc])
  have hfrom : (setSensor (readRecord d0 d1 d2) v).ssq.engine = .stopped := hauto'.1
  have hact := ssqSensorUpdate_cold hauto' rfl (show temperatureOf d0 < 30 by unfold temperatureOf; omega)
  rw [hact] at hexec
  have hclaim : (enter .claiming (setSensor (readRecord d0 d1 d2) v)).cpa.claim = some 0 := by rw [enter_claim, hfrom]; rfl
  have hengine : (enter .claiming (setSensor (readRecord d0 d1 d2) v)).ssq.engine = .claiming := engine_enter _ _
  generalize enter .claiming (setSensor (readRecord d0 d1 d2) v) = w at hexec hclaim hengine
  have hthrough : Undecided (setSlot .poll .empty (updateDerates w)) (react old (setSlot .poll .empty (updateDerates w))) := by
    refine react_of_young old hengine fun a ha => ?_
    have hzero : some 0 = some a := hclaim.symm.trans ha
    cases hzero; decide
  refine ⟨_, hexec, ?_⟩
  rw [enterIdle_ssq, enterIdle_cpa, hthrough.ssq, hthrough.cpa]
  exact ⟨hengine, hclaim⟩

/-- Outside CRANKING the sag detector leaves the Start Sequencer, and the link. -/
theorem detectSag_still {n : Nat} {s : State} (he : s.ssq.engine ≠ .cranking) :
    (detectSag n s).ssq = s.ssq ∧ (detectSag n s).clc = s.clc := by
  have hsag (u : State) (hu : u.ssq.engine ≠ .cranking) : ssqSag u = u := if_neg hu
  unfold detectSag takeSag takeRecovery; repeat' split
  · exact ⟨clearFault_ssq _ _, clearFault_clc _ _⟩
  · exact ⟨rfl, rfl⟩
  · exact ⟨rfl, rfl⟩
  · rw [hsag _ (by rw [raiseFault_ssq]; exact he)]
    exact ⟨raiseFault_ssq _ _, raiseFault_clc _ _⟩
  · exact ⟨rfl, rfl⟩
  · exact ⟨rfl, rfl⟩

/-- The sample taken by the detector, before the tests. -/
structure Sampled (n : Nat) (s u : State) : Prop where
  ssq : u.ssq = s.ssq
  clc : u.clc = s.clc
  sample : u.lmn.sample = some n
  estop : u.estop = s.estop

theorem sampled_detectSag {s : State} (he : s.ssq.engine ≠ .cranking) (n : Nat) : Sampled n s (detectSag n (latch n s)) := by
  obtain ⟨hssq, hclc⟩ := detectSag_still (n := n) (s := latch n s) he
  refine ⟨hssq, hclc, (detectSag_sample n (latch n s)).1, ?_⟩
  have hlines : (detectSag n (latch n s)).lmn.lines = s.lmn.lines := by
    unfold detectSag; repeat' split
    all_goals simp [takeSag_lmn, takeRecovery_lmn, latch]
  unfold State.estop; rw [hlines]

theorem autorestart_battery {mv : Nat} {s : State} (htimer : s.lmn.sampleTimer.isSome = true) (hauto : s.ssq.stopReason = .auto)
    (hlow : mv < 64000) :
    (s.ssq.engine = .stopped → 58000 ≤ mv → s.clc.linkState ≠ .silenced → s.estop = false →
      ∃ t, exec (.batterySample mv) s = .next t ∧ t.ssq.engine = .claiming ∧ t.cpa.claim = some 0) ∧
    (s.ssq.engine = .stopped → mv < 58000 →
      ∃ t, exec (.batterySample mv) s = .next t ∧ t.ssq.engine = .stopped ∧ t.faultActive .startRefused = true) ∧
    (s.ssq.engine = .cooldown →
      ∃ t, exec (.batterySample mv) s = .next t ∧ t.ssq.engine = .running ∧ t.ssq.stopReason = .manual ∧ t.ssq.cooldown = none) := by
  have hdue (u : State) (hu : u.lmn.sample = some (sampleOf mv)) : u.autorestartTrigger = true :=
    autorestartTrigger_iff.mpr (Or.inr (Or.inl ⟨_, hu, by unfold sampleOf; omega⟩))
  have hexec : exec (.batterySample mv) s = .next (sampleEvent (sampleOf mv) s) := exec_batterySample htimer
  have hsampled (he : s.ssq.engine ≠ .cranking) := sampled_detectSag he (sampleOf mv)
  have hevent : sampleEvent (sampleOf mv) s
      = react s (autostopTest (triggerTest (grantTest (detectSag (sampleOf mv) (latch (sampleOf mv) s))))) := rfl
  rw [hexec, hevent]
  generalize detectSag (sampleOf mv) (latch (sampleOf mv) s) = u at hsampled
  refine ⟨fun he hmv hlink hestop => ⟨_, rfl, ?_⟩, fun he hmv => ⟨_, rfl, ?_⟩, fun he => ⟨_, rfl, ?_⟩⟩
  · obtain ⟨hssq, hclc, hsample, hestop'⟩ := hsampled (by rw [he]; decide)
    have hstopped : u.ssq.engine = .stopped := by rw [hssq, he]
    have hready : AutoStopped u := ⟨hstopped, by rw [hssq, hauto], ⟨_, hsample, by unfold sampleOf; omega⟩, by rw [hclc]; exact hlink,
      hestop'.trans hestop⟩
    obtain ⟨hthrough, hclaim⟩ := react_enterClaiming s (s := u) (by rw [hstopped]; decide)
    rw [grantTest_of_ne (by rw [hstopped]; decide), triggerTest_claims hready (hdue u hsample),
      autostopTest_of_ne (by rw [engine_enter]; decide), hthrough.engine, hthrough.cpa]
    exact ⟨engine_enter _ _, hclaim⟩
  · obtain ⟨hssq, hclc, hsample, hestop'⟩ := hsampled (by rw [he]; decide)
    have hstopped : u.ssq.engine = .stopped := by rw [hssq, he]
    have hrefused : RefusesStart u := refusesStart_iff.mpr (Or.inr (Or.inl ⟨_, hsample, by unfold sampleOf; omega⟩))
    have hact : triggerTest u = raiseFault .startRefused u := by
      unfold triggerTest
      rw [hdue u hsample, hssq, hauto, he]
      exact startRequest_of_refused hstopped hrefused
    have hafter : RefusesStart (raiseFault .startRefused u) :=
      hrefused.of_same (lmn_of_outer (outer_raiseFault _ _)) (by rw [raiseFault_clc])
    obtain ⟨hengine, hfault⟩ := react_of_refused s (s := raiseFault .startRefused u) (by rw [raiseFault_ssq, hstopped]) hafter
    rw [grantTest_of_ne (by rw [hstopped]; decide), hact, autostopTest_of_ne (by rw [raiseFault_ssq, hstopped]; decide)]
    exact ⟨hengine, hfault (raiseFault_active _ _)⟩
  · obtain ⟨hssq, -, hsample, -⟩ := hsampled (by rw [he]; decide)
    have hcool : u.ssq.engine = .cooldown := by rw [hssq, he]
    obtain ⟨x, hthrough⟩ := react_returnRunning s u
    obtain ⟨y, z, hq⟩ := enter_ssq .running u
    have hfresh : (setReason .manual (enter .running u)).ssq.idleElapsed = false := enterRunning_idleElapsed u
    rw [grantTest_of_ne (by rw [hcool]; decide), triggerTest_returns hcool (by rw [hssq, hauto]) (hdue u hsample),
      autostopTest_of_idle hfresh, hthrough.ssq]
    refine ⟨engine_enter _ _, rfl, ?_⟩
    show (enter .running u).ssq.cooldown = none
    rw [hq]; rfl

/-- Settles O42: each trigger by the reaction it starts. -/
theorem autostopAndCooldown : Obligations.AutostopAndCooldown := by
  refine ⟨fun s htimer he hzero hdemand => ⟨autostop_due htimer he, autostop_unmet htimer he hzero hdemand⟩,
    fun s htimer he hsilence => cooldown_over htimer he hsilence,
    fun ws r c s hr hf ha hm hd hc he hauto hseen hengine hflag hs hlt =>
      contention_record hr hf ha hm hd hc he hauto hseen hengine hflag hs hlt,
    fun own p s hown hseen hle => ?_, fun s hr hdue => ⟨fun he => ?_, fun he => ?_⟩, fun s h => ?_,
    fun n s hauto htimer hcode hn hzero hpeers => autorestart_demand hauto htimer hcode hn hzero hpeers,
    fun cmd tr d0 d1 d2 s hends hclient hread hauto hcold => autorestart_coolant hends hclient hread hauto hcold,
    fun ws r c s hr hf ha hm hd hs hc hp hauto hpresent hran hwarm hrun hfloor =>
      autorestart_record hr hf ha hm hd hs hc hp hauto hpresent hran hwarm hrun hfloor,
    fun mv s htimer hauto hlow => autorestart_battery htimer hauto hlow⟩
  · unfold contention; rw [hseen, hown]
    exact if_neg (by simp [not_lt.mpr hle])
  · unfold triggerTest; rw [hr, autorestartTrigger_iff.mpr hdue, he]; rfl
  · rw [triggerTest_returns he hr (autorestartTrigger_iff.mpr hdue)]
    exact ⟨engine_enter _ _, rfl⟩
  · rcases h with h | h | ⟨hs, hc⟩
    · exact triggerTest_of_manual (by rw [h]; decide)
    · exact triggerTest_of_absent (Bool.eq_false_iff.mpr fun hdue => h (autorestartTrigger_iff.mp hdue))
    · exact triggerTest_of_ne hs hc

end Sys2Proof.Machine
end

section
/-! Obligation O30: the fault reset by class of fault (R161 to R163). -/

namespace Sys2Proof.Machine

/-! ## What no reaction outside CRANKING raises or clears -/

/-- First fault, latched faults and CRANK_FAIL stand, and CRANKING is not entered. -/
structure FaultsStand (s u : State) : Prop where
  firstFault : u.fcl.firstFault = s.fcl.firstFault
  crankTimer : u.fcl.crankFailTimer = s.fcl.crankFailTimer
  faults : ∀ k, k.latched = true ∨ k = .crankFail → u.faultActive k = s.faultActive k
  still : s.ssq.engine ≠ .cranking → u.ssq.engine ≠ .cranking

theorem FaultsStand.trans {a b c : State} (h : FaultsStand a b) (g : FaultsStand b c) : FaultsStand a c :=
  ⟨g.firstFault.trans h.firstFault, g.crankTimer.trans h.crankTimer, fun k hk => (g.faults k hk).trans (h.faults k hk),
    fun he => g.still (h.still he)⟩

theorem faultsStand_of_fcl {s u : State} (h : u.fcl = s.fcl) (he : u.ssq.engine = s.ssq.engine) : FaultsStand s u :=
  ⟨by rw [h], by rw [h], fun k _ => faultActive_of_fcl h k, by rw [he]; exact id⟩

/-- A change of the active faults alone, none of them latched. -/
theorem faultsStand_of_active {s u : State} (h : u.fcl = { s.fcl with active := u.fcl.active })
    (hfaults : ∀ k, k.latched = true ∨ k = .crankFail → u.faultActive k = s.faultActive k)
    (hstill : s.ssq.engine ≠ .cranking → u.ssq.engine ≠ .cranking) : FaultsStand s u :=
  ⟨by rw [h], by rw [h], hfaults, hstill⟩

theorem ne_of_latched {j k : FaultKind} (hj : j.latched = false) (hc : j ≠ .crankFail) (hk : k.latched = true ∨ k = .crankFail) : k ≠ j := by
  rintro rfl
  rcases hk with h | h
  · exact nomatch h.symm.trans hj
  · exact hc h

theorem faultsStand_enter {n : EngineState} (hn : n ≠ .cranking) (s : State) : FaultsStand s (enter n s) :=
  faultsStand_of_active (kept_enter n s).records
    (fun _ hk => (kept_enter n s).faults _ (ne_of_latched rfl (by decide) hk) (ne_of_latched rfl (by decide) hk))
    fun _ => by rw [engine_enter]; exact hn

theorem faultsStand_addSeq (o : Order) (s : State) : FaultsStand s (addSeq o s) :=
  faultsStand_of_fcl (addSeq_fcl o s) (engine_addSeq o s)

theorem faultsStand_setReason (r : StopReason) (s : State) : FaultsStand s (setReason r s) := faultsStand_of_fcl rfl rfl

theorem faultsStand_addStopIfHeld (s : State) : FaultsStand s (addStopIfHeld s) := by
  unfold addStopIfHeld; split
  · exact faultsStand_addSeq .stop s
  · exact faultsStand_of_fcl rfl rfl

theorem faultsStand_raise {k : FaultKind} (hl : k.latched = false) (hc : k ≠ .crankFail) (s : State) : FaultsStand s (raiseFault k s) where
  firstFault := by unfold raiseFault; split <;> simp [hl]
  crankTimer := (raiseFault_crankFail k s).1
  faults _ hj := faultActive_raiseFault_ne (ne_of_latched hl hc hj) s
  still := by rw [raiseFault_ssq]; exact id

theorem faultsStand_clear {k : FaultKind} (hl : k.latched = false) (hc : k ≠ .crankFail) (s : State) : FaultsStand s (clearFault k s) := by
  obtain ⟨l, hfcl⟩ := clearFault_records k s
  exact faultsStand_of_active (by rw [hfcl]) (fun _ hj => clearFault_active_ne (ne_of_latched hl hc hj) s)
    (by rw [clearFault_ssq]; exact id)

theorem faultsStand_startRequest (s : State) : FaultsStand s (startRequest s) := by
  unfold startRequest; repeat' split
  · exact faultsStand_enter (by decide) s
  · exact faultsStand_raise rfl (by decide) s
  · exact (faultsStand_enter (by decide) s).trans (faultsStand_setReason _ _)
  · exact faultsStand_of_fcl rfl rfl

theorem faultsStand_triggerTest (s : State) : FaultsStand s (triggerTest s) := by
  unfold triggerTest; repeat' split
  · exact faultsStand_startRequest s
  · exact (faultsStand_enter (by decide) s).trans (faultsStand_setReason _ _)
  · exact faultsStand_of_fcl rfl rfl
  · exact faultsStand_of_fcl rfl rfl

theorem faultsStand_clashTest (s : State) : FaultsStand s (clashTest s) := by
  have hcount : FaultsStand s (countYield s) := faultsStand_of_fcl rfl rfl
  unfold clashTest yieldPermit; simp only []
  split
  · split
    · exact (hcount.trans (faultsStand_addSeq .stop _)).trans (faultsStand_enter (by decide) _)
    · exact ((hcount.trans (faultsStand_addSeq .disengage _)).trans (faultsStand_enter (by decide) _)).trans (faultsStand_addStopIfHeld _)
    · exact hcount
  · exact faultsStand_of_fcl rfl rfl

theorem faultsStand_grantTest (s : State) : FaultsStand s (grantTest s) := by
  unfold grantTest; split
  · exact (faultsStand_enter (by decide) s).trans (faultsStand_addSeq .run _)
  · exact faultsStand_of_fcl rfl rfl

theorem faultsStand_contention (s : State) : FaultsStand s (contention s) := by
  unfold contention; repeat' split
  · exact (faultsStand_enter (by decide) s).trans (faultsStand_setReason _ _)
  · exact faultsStand_of_fcl rfl rfl
  · exact faultsStand_of_fcl rfl rfl

theorem faultsStand_autostopTest (s : State) : FaultsStand s (autostopTest s) := by
  unfold autostopTest; split
  · exact (faultsStand_enter (by decide) s).trans (faultsStand_setReason _ _)
  · exact faultsStand_of_fcl rfl rfl

theorem faultsStand_idleUpkeep (s : State) : FaultsStand s (idleUpkeep s) := by
  obtain ⟨x, y, h⟩ := idleUpkeep_eq s
  rw [h]; exact faultsStand_of_fcl rfl rfl

theorem faultsStand_stopToCooldown (s : State) : FaultsStand s (stopToCooldown s) := by
  rcases stopToCooldown_cases s with hs | hs <;> rw [hs]
  · exact faultsStand_of_fcl rfl rfl
  · exact (faultsStand_enter (by decide) s).trans (faultsStand_setReason _ _)

theorem faultsStand_upkept (s : State) : FaultsStand s (upkept s) where
  firstFault := by rcases upkept_fcl s with h | h <;> rw [h]
  crankTimer := by rcases upkept_fcl s with h | h <;> rw [h]
  faults _ hk := upkept_faultActive (ne_of_latched rfl (by decide) hk) s
  still := by rw [upkept_ssq]; exact id

/-- A reaction raises and clears no latched fault, unless an ESTOP meets an ENGAGE in CRANKING. -/
theorem faultsStand_react (old : State) {s : State} (h : s.estop = false ∨ s.ssq.engine ≠ .cranking) : FaultsStand s (react old s) := by
  have hdecided : FaultsStand s (decideBlocks old s) :=
    decideBlocks_keep (P := FaultsStand s) (fun u hu => hu.trans (faultsStand_upkept u)) (fun u hu => hu.trans (faultsStand_idleUpkeep u))
      (fun u hu => hu.trans (faultsStand_stopToCooldown u)) (fun u hu => hu.trans (faultsStand_triggerTest u))
      (fun u hu => hu.trans (faultsStand_clashTest u)) (fun u hu => hu.trans (faultsStand_grantTest u))
      (fun u hu => hu.trans (faultsStand_contention u)) (fun u hu => hu.trans (faultsStand_autostopTest u)) old (faultsStand_of_fcl rfl rfl)
  have hready : (decideBlocks old s).estop = false ∨ (decideBlocks old s).ssq.engine ≠ .cranking :=
    h.imp (fun he => (estop_of_outer (outer_decideBlocks old s)).trans he) hdecided.still
  have hposted := posted_postOrders old hready
  unfold react
  exact hdecided.trans (faultsStand_of_fcl hposted.fcl hposted.engine)

/-! ## The reset of the channel (R142) -/

/-- The channel's reset: the health records, and the DEVICE_FAILED faults. -/
structure ChannelReset (s u : State) : Prop where
  ssq : u.ssq = s.ssq
  outer : u.outer = s.outer
  firstFault : u.fcl.firstFault = s.fcl.firstFault
  crankTimer : u.fcl.crankFailTimer = s.fcl.crankFailTimer
  faults : ∀ k, (∀ d, k ≠ .deviceFailed d) → u.faultActive k = s.faultActive k

theorem ChannelReset.trans {a b c : State} (h : ChannelReset a b) (g : ChannelReset b c) : ChannelReset a c :=
  ⟨g.ssq.trans h.ssq, g.outer.trans h.outer, g.firstFault.trans h.firstFault, g.crankTimer.trans h.crankTimer,
    fun k hk => (g.faults k hk).trans (h.faults k hk)⟩

theorem channelReset_erc {s u : State} (h : u = { s with erc := u.erc }) : ChannelReset s u := by
  rw [h]; exact ⟨rfl, rfl, rfl, rfl, fun _ _ => rfl⟩

theorem channelReset_changeHealth (d : Device) (s : State) : ChannelReset s (changeHealth d Health.ok s) := by
  have hset : ChannelReset s (setHealth d Health.ok s) := channelReset_erc rfl
  have hok : (Health.ok.failed && !(s.erc.health.get d).failed) = false := rfl
  rcases changeHealth_of_calm hok with h | h <;> rw [h]
  · exact hset
  · obtain ⟨l, hfcl⟩ := clearFault_records (.deviceFailed d) (setHealth d Health.ok s)
    exact hset.trans ⟨clearFault_ssq _ _, outer_clearFault _ _, by rw [hfcl], by rw [hfcl], fun k hk => clearFault_active_ne (hk d) _⟩

/-- All five health records at once. -/
def healthReset (s : State) : State :=
  changeHealth .sensors Health.ok (changeHealth .load Health.ok (changeHealth .prelube Health.ok (changeHealth .starter Health.ok
    (changeHealth .governor Health.ok s))))

theorem channelReset_ercFaultReset (s : State) : ChannelReset s (ercFaultReset s) := by
  have hall : ChannelReset s (healthReset s) :=
    ((((channelReset_changeHealth _ _).trans (channelReset_changeHealth _ _)).trans (channelReset_changeHealth _ _)).trans
      (channelReset_changeHealth _ _)).trans (channelReset_changeHealth _ _)
  have hreturn (u : State) : ChannelReset u (sensorsReturn s u) := by
    unfold sensorsReturn; split <;> exact channelReset_erc rfl
  exact hall.trans (hreturn _)

theorem ercFaultReset_health (d : Device) (s : State) : (ercFaultReset s).erc.health.get d = ⟨0, 0, none⟩ := by
  have hreset : (ercFaultReset s).erc.health = (healthReset s).erc.health := sensorsReturn_health s (healthReset s)
  rw [hreset]
  unfold healthReset; simp only [changeHealth_health]
  cases d <;> rfl

/-! ## The reset of the faults (R161) -/

theorem faultResetFaults_active (k : FaultKind) (s : State) : (faultResetFaults s).faultActive k
    = (s.faultActive k && (!(k.lockout && s.lmn.silence) && decide (k ≠ .prelubeFail) && decide (k ≠ .stall))) := by
  rw [Bool.eq_iff_iff]
  unfold faultResetFaults State.faultActive
  simp only [List.contains_iff_mem, List.mem_filter, Bool.and_eq_true]

/-- The channel and the faults reset. -/
def channelAndFaults (s : State) : State := faultResetFaults (ercFaultReset s)

/-- What the reset of channel and faults leaves. -/
structure FaultsReset (s u : State) : Prop where
  ssq : u.ssq = s.ssq
  outer : u.outer = s.outer
  firstFault : u.fcl.firstFault = none
  crankTimer : u.fcl.crankFailTimer = s.fcl.crankFailTimer
  health : ∀ d, u.erc.health.get d = ⟨0, 0, none⟩
  cleared : u.faultActive .prelubeFail = false ∧ u.faultActive .stall = false
  lockouts : ∀ k, k.lockout = true → u.faultActive k = (s.faultActive k && !s.lmn.silence)
  duplicate : u.faultActive .duplicatePosition = s.faultActive .duplicatePosition
  crankFail : u.faultActive .crankFail = s.faultActive .crankFail

theorem faultsReset_channelAndFaults (s : State) : FaultsReset s (channelAndFaults s) := by
  have h := channelReset_ercFaultReset s
  have hactive (k : FaultKind) (hk : ∀ d, k ≠ .deviceFailed d) : (channelAndFaults s).faultActive k
      = (s.faultActive k && (!(k.lockout && s.lmn.silence) && decide (k ≠ .prelubeFail) && decide (k ≠ .stall))) := by
    unfold channelAndFaults
    rw [faultResetFaults_active, h.faults k hk, lmn_of_outer h.outer]
  refine ⟨h.ssq, h.outer, rfl, h.crankTimer, fun d => ercFaultReset_health d s, ⟨?_, ?_⟩, fun k hk => ?_, ?_, ?_⟩
  · rw [hactive _ (by nofun)]; simp
  · rw [hactive _ (by nofun)]; simp
  · have hne {j : FaultKind} (hj : j.lockout = false) : k ≠ j := fun hkj => nomatch (hkj ▸ hk).symm.trans hj
    rw [hactive k (fun d => hne rfl), hk, decide_eq_true (hne rfl), decide_eq_true (hne rfl)]; simp
  · rw [hactive _ (by nofun)]; simp [FaultKind.lockout]
  · rw [hactive _ (by nofun)]; simp [FaultKind.lockout]

theorem faultReset_of_locked {s : State} (he : s.ssq.engine = .lockedOut) (hs : s.lmn.silence = true) :
    faultReset s = enter .stopped (setReason .manual (channelAndFaults s)) := by
  have h := faultsReset_channelAndFaults s
  have hact : ssqFaultReset (channelAndFaults s) = enterStopped (setReason .manual (channelAndFaults s)) :=
    if_pos ⟨by rw [h.ssq, he], by rw [lmn_of_outer h.outer, hs]⟩
  exact hact.trans (enterStopped_manual _)

theorem faultReset_of_unlocked {s : State} (h : s.ssq.engine ≠ .lockedOut ∨ s.lmn.silence = false) : faultReset s = channelAndFaults s := by
  have hr := faultsReset_channelAndFaults s
  have hkept : ¬ ((channelAndFaults s).ssq.engine = .lockedOut ∧ (channelAndFaults s).lmn.silence = true) := by
    rw [hr.ssq, lmn_of_outer hr.outer]
    rintro ⟨he, hs⟩
    rcases h with h | h
    · exact h he
    · exact nomatch hs.symm.trans h
  exact if_neg hkept

/-! ## The command -/

theorem exec_resetEdge {s : State} (htimer : (s.lmn.lines.get .freset).timer.isSome = true)
    (hlevel : (s.lmn.lines.get .freset).level = some false) (hpin : s.pins.lines.get .freset = true) :
    exec (.lineStabilityExpiry .freset) s = .next (react s (resetEdge (asserted .freset s))) := by
  have hexec := exec_lineStabilityExpiry_of_ne htimer hpin (by rw [hlevel]; decide)
  have htaken : takeLevel .freset true (stopStability .freset s) = resetEdge (asserted .freset s) := by
    have hrising : ((stopStability .freset s).lmn.lines.get .freset).level = some false := by rw [stopStability_level, hlevel]
    unfold takeLevel takeEdge; simp only [hrising]; rfl
  rw [hexec, htaken]

/-- What the reset and the reaction leave of faults and channel, whatever the engine does. -/
theorem faultsReset_react {old a v u : State} (h : FaultsReset a v) (hstand : FaultsStand v u) (hmoves : Moves v u)
    (hready : u.estop = false ∨ u.ssq.engine ≠ .cranking) :
    (∀ d, (react old u).erc.health.get d = ⟨0, 0, none⟩) ∧ (react old u).fcl.firstFault = none
      ∧ (∀ k, k.latched = true ∨ k = .crankFail → (react old u).faultActive k = v.faultActive k)
      ∧ (react old u).fcl.crankFailTimer = a.fcl.crankFailTimer ∧ (react old u).outer = a.outer := by
  have hall := hstand.trans (faultsStand_react old hready)
  have hmoved : Moves v (react old u) := hmoves.trans (moves_react (.refl u))
  refine ⟨fun d => ?_, hall.firstFault.trans h.firstFault, hall.faults, hall.crankTimer.trans h.crankTimer,
    (moves_outer hmoved).trans h.outer⟩
  rw [unmoved_health.moves hmoved]; exact h.health d

/-- The reset of the faults seen after the reaction. -/
theorem resetFaults_react {old a v u : State} (h : FaultsReset a v) (hstand : FaultsStand v u) (hmoves : Moves v u)
    (hready : u.estop = false ∨ u.ssq.engine ≠ .cranking) :
    (react old u).faultActive .prelubeFail = false ∧ (react old u).faultActive .stall = false
      ∧ (∀ k, k.lockout = true → (react old u).faultActive k = (a.faultActive k && !a.lmn.silence))
      ∧ (react old u).faultActive .duplicatePosition = a.faultActive .duplicatePosition
      ∧ (react old u).faultActive .crankFail = a.faultActive .crankFail := by
  obtain ⟨-, -, hfaults, -⟩ := faultsReset_react (old := old) h hstand hmoves hready
  have hlatched (k : FaultKind) (hk : k.lockout = true) : k.latched = true := by
    cases k with
    | deviceFailed d => cases hk
    | _ => first | rfl | cases hk
  exact ⟨(hfaults _ (Or.inl rfl)).trans h.cleared.1, (hfaults _ (Or.inl rfl)).trans h.cleared.2,
    fun k hk => (hfaults k (Or.inl (hlatched k hk))).trans (h.lockouts k hk), (hfaults _ (Or.inl rfl)).trans h.duplicate,
    (hfaults _ (Or.inr rfl)).trans h.crankFail⟩

/-! ## The reset in each case -/

/-- The state that a reset leaves before the reaction, with the channel's part of it. -/
theorem faultReset_cases (s : State) : FaultsStand (channelAndFaults s) (faultReset s) ∧ Moves (channelAndFaults s) (faultReset s)
    ∧ (s.ssq.engine ≠ .cranking → (faultReset s).ssq.engine ≠ .cranking) := by
  have hr := faultsReset_channelAndFaults s
  have hcases : FaultsStand (channelAndFaults s) (faultReset s) ∧ Moves (channelAndFaults s) (faultReset s) := by
    by_cases h : s.ssq.engine = .lockedOut ∧ s.lmn.silence = true
    · rw [faultReset_of_locked h.1 h.2]
      exact ⟨(faultsStand_setReason .manual (channelAndFaults s)).trans (faultsStand_enter (by decide) _),
        moves_enterDown ((Moves.refl (channelAndFaults s)).trans (moves_setReason (.refl _))) rfl⟩
    · rw [faultReset_of_unlocked (by rw [← Bool.not_eq_true]; exact not_and_or.mp h)]
      exact ⟨faultsStand_of_fcl rfl rfl, .refl _⟩
  exact ⟨hcases.1, hcases.2, fun he => hcases.1.still (by rw [hr.ssq]; exact he)⟩

theorem lockout_iff (k : FaultKind) : k.lockout = true ↔ k = .crankLockout ∨ k = .starterStuck ∨ k = .overspeed ∨ k = .oilLow := by
  cases k <;> simp [FaultKind.lockout]

theorem latched_iff (k : FaultKind) : k.latched = true ↔ k = .duplicatePosition ∨ k = .crankLockout ∨ k = .starterStuck
    ∨ k = .overspeed ∨ k = .oilLow ∨ k = .prelubeFail ∨ k = .stall := by
  cases k <;> simp [FaultKind.latched, FaultKind.lockout]

/-- With no silence due the reset of channel and faults is all, but in LOCKED_OUT under silence. -/
theorem reset_early {s : State} (htimer : (s.lmn.lines.get .freset).timer.isSome = true)
    (hlevel : (s.lmn.lines.get .freset).level = some false) (hpin : s.pins.lines.get .freset = true) (hestop : EstopFitsEngine s)
    (hdue : s.lmn.silenceTimer ≠ some 0) :
    ∃ t, exec (.lineStabilityExpiry .freset) s = .next t ∧ (∀ d, t.erc.health.get d = ⟨0, 0, none⟩)
      ∧ t.fcl.firstFault = none ∧ t.faultActive .prelubeFail = false ∧ t.faultActive .stall = false
      ∧ (∀ k, k.lockout = true → t.faultActive k = (s.faultActive k && !s.lmn.silence))
      ∧ t.faultActive .duplicatePosition = s.faultActive .duplicatePosition
      ∧ t.faultActive .crankFail = s.faultActive .crankFail ∧ t.fcl.crankFailTimer = s.fcl.crankFailTimer
      ∧ t.clc.counters = s.clc.counters ∧ t.table = s.table ∧ t.mpt = s.mpt ∧ t.lmn.measured = s.lmn.measured
      ∧ (s.ssq.engine = .lockedOut → s.lmn.silence = true →
          t.ssq.engine = .stopped ∧ t.ssq.stopReason = .manual ∧ t.ssq.attempts = 0 ∧ t.ssq.overspeedMark = false)
      ∧ (s.ssq.engine = .lockedOut → s.lmn.silence = false → t.ssq.engine = .lockedOut) := by
  have ha := linesOnly_asserted (l := .freset) (by decide) s
  have hact : resetEdge (asserted .freset s) = faultReset (asserted .freset s) := if_neg hdue
  obtain ⟨hstand, hmoves, hstill⟩ := faultReset_cases (asserted .freset s)
  have hr := faultsReset_channelAndFaults (asserted .freset s)
  have hready : (faultReset (asserted .freset s)).estop = false ∨ (faultReset (asserted .freset s)).ssq.engine ≠ .cranking := by
    by_cases he : s.estop = true
    · refine Or.inr (hstill ?_)
      rw [ha.ssq]
      rcases hestop he with h | h | h <;> rw [h] <;> decide
    · exact Or.inl ((estop_of_outer (outer_faultReset _)).trans (ha.estop.trans (Bool.not_eq_true _ |>.mp he)))
  obtain ⟨hhealth, hfirst, -, htime, houter⟩ := faultsReset_react (old := s) hr hstand hmoves hready
  obtain ⟨hprelube, hstall, hlock, hdup, hcrank⟩ := resetFaults_react (old := s) hr hstand hmoves hready
  have hlmn : (react s (faultReset (asserted .freset s))).lmn = (asserted .freset s).lmn := lmn_of_outer houter
  have hclc := clc_of_outer houter
  rw [exec_resetEdge htimer hlevel hpin, hact]
  refine ⟨_, rfl, hhealth, hfirst, hprelube, hstall, hlock, hdup, hcrank, htime, by rw [hclc]; rfl, (table_of_outer houter :),
    (mpt_of_outer houter :), by rw [hlmn]; rfl, fun he hs => ?_, fun he hs => ?_⟩
  · have hlocked := faultReset_of_locked (s := asserted .freset s) he hs
    have hhalts := halts_enterStopped (channelAndFaults (asserted .freset s))
    rw [enterStopped_manual] at hhalts
    have hthrough := react_of_calm s hhalts.calm
    rw [hlocked, hthrough.ssq]
    have hssq := enter_ssq_of_ne (n := .stopped) (by decide) (setReason .manual (channelAndFaults (asserted .freset s)))
    generalize enter .stopped (setReason .manual (channelAndFaults (asserted .freset s))) = u at hhalts hssq
    refine ⟨hhalts.engine, hhalts.stopReason, ?_, ?_⟩
    · show u.ssq.attempts = 0
      rw [hssq]; rfl
    · show u.ssq.overspeedMark = false
      rw [hssq]; rfl
  · have hunlocked := faultReset_of_unlocked (s := asserted .freset s) (Or.inr hs)
    have hengine : (channelAndFaults (asserted .freset s)).ssq.engine = .lockedOut := by rw [hr.ssq]; exact he
    rw [hunlocked, (react_of_calm s (.of_engine (Or.inr (Or.inl hengine)))).engine, hengine]

/-- The alarm lamp shows the latched faults; with the lockouts, PRELUBE_FAIL and STALL cleared one kind is left. -/
theorem alarmLamp_of_cleared {s : State} (hlock : ∀ k, k.lockout = true → s.faultActive k = false)
    (hprelube : s.faultActive .prelubeFail = false) (hstall : s.faultActive .stall = false) :
    s.alarmLamp = s.faultActive .duplicatePosition := by
  have hlamp : s.alarmLamp = true ↔ ∃ k, s.faultActive k = true ∧ k.latched = true := by
    unfold State.alarmLamp State.faultActive
    rw [List.any_eq_true]
    exact exists_congr fun k => by rw [List.contains_iff_mem]
  rw [Bool.eq_iff_iff, hlamp]
  refine ⟨?_, fun h => ⟨_, h, rfl⟩⟩
  rintro ⟨k, hk, hl⟩
  have hcleared {j : FaultKind} (hj : s.faultActive j = false) : ¬ s.faultActive j = true := by rw [hj]; decide
  rcases (latched_iff k).mp hl with rfl | rfl | rfl | rfl | rfl | rfl | rfl
  · exact hk
  · exact absurd hk (hcleared (hlock _ rfl))
  · exact absurd hk (hcleared (hlock _ rfl))
  · exact absurd hk (hcleared (hlock _ rfl))
  · exact absurd hk (hcleared (hlock _ rfl))
  · exact absurd hk (hcleared hprelube)
  · exact absurd hk (hcleared hstall)

/-- The engine after the silence that a reset finds due: STOPPED, from SHUTDOWN and from LOCKED_OUT. -/
theorem silenced_faultReset {s : State} (hs : s.lmn.silence = true) (hr : s.ssq.stopReason = .manual)
    (he : s.ssq.engine = .shutdown ∨ s.ssq.engine = .lockedOut) :
    ∃ v, ssqSilence (faultReset s) = enter .stopped v ∧ v.ssq.stopReason = .manual ∧ FaultsStand (channelAndFaults s) v
      ∧ Moves (channelAndFaults s) v := by
  have h := faultsReset_channelAndFaults s
  rcases he with he | he
  · have hunlocked := faultReset_of_unlocked (s := s) (Or.inl (by rw [he]; decide))
    have hfree : ¬ (channelAndFaults s).lockoutActive = true := by
      rw [show (channelAndFaults s).lockoutActive = true ↔ _ from List.any_eq_true]
      rintro ⟨k, hactive, hk⟩
      have hcleared := h.lockouts k hk
      rw [hs, Bool.not_true, Bool.and_false] at hcleared
      exact nomatch (List.contains_iff_mem.mpr hactive).symm.trans hcleared
    refine ⟨channelAndFaults s, ?_, by rw [h.ssq, hr], faultsStand_of_fcl rfl rfl, .refl _⟩
    rw [hunlocked]
    unfold ssqSilence
    rw [h.ssq, he]
    unfold shutdownEnd
    rw [if_neg hfree, enterStopped_of_manual (by rw [h.ssq, hr]; decide)]
  · refine ⟨setReason .manual (channelAndFaults s), ?_, rfl, faultsStand_setReason _ _, moves_setReason (.refl _)⟩
    rw [faultReset_of_locked he hs]
    have hengine : (enter .stopped (setReason .manual (channelAndFaults s))).ssq.engine = .stopped := engine_enter _ _
    unfold ssqSilence; rw [hengine]

theorem reset_silenced {s : State} (htimer : (s.lmn.lines.get .freset).timer.isSome = true)
    (hlevel : (s.lmn.lines.get .freset).level = some false) (hpin : s.pins.lines.get .freset = true)
    (hdue : s.lmn.silenceTimer = some 0) (hreason : s.ssq.stopReason = .manual)
    (he : s.ssq.engine = .shutdown ∨ s.ssq.engine = .lockedOut) :
    ∃ t, exec (.lineStabilityExpiry .freset) s = .next t ∧ t.ssq.engine = .stopped ∧ t.lmn.silence = true
      ∧ t.lmn.measured = 0 ∧ t.lmn.silenceTimer = none ∧ (∀ d, t.erc.health.get d = ⟨0, 0, none⟩)
      ∧ t.fcl.firstFault = none ∧ t.alarmLamp = s.faultActive .duplicatePosition
      ∧ (∀ k, k.lockout = true → t.faultActive k = false) := by
  have hact : resetEdge (asserted .freset s) = ssqSilence (faultReset (setSilence (asserted .freset s))) := if_pos hdue
  obtain ⟨v, hv, hr, hstand, hmoves⟩ := silenced_faultReset (s := setSilence (asserted .freset s)) rfl hreason he
  have hreset := faultsReset_channelAndFaults (setSilence (asserted .freset s))
  have hengine : (enter .stopped v).ssq.engine = .stopped := engine_enter _ _
  have hready : (enter .stopped v).estop = false ∨ (enter .stopped v).ssq.engine ≠ .cranking := Or.inr (by rw [hengine]; decide)
  have hstand' := hstand.trans (faultsStand_enter (n := .stopped) (by decide) v)
  have hmoves' := hmoves.trans (moves_enterDown (n := .stopped) (.refl v) rfl)
  have hthrough := react_of_calm s (s := enter .stopped v) (.of_stopped hengine (by rw [enter_stopReason, hr]; decide))
  obtain ⟨hhealth, hfirst, -, -, houter⟩ := faultsReset_react (old := s) hreset hstand' hmoves' hready
  obtain ⟨hprelube, hstall, hlock, hdup, -⟩ := resetFaults_react (old := s) hreset hstand' hmoves' hready
  have hlmn : (react s (enter .stopped v)).lmn = (setSilence (asserted .freset s)).lmn := lmn_of_outer houter
  have hlock' (k : FaultKind) (hk : k.lockout = true) : (react s (enter .stopped v)).faultActive k = false :=
    (hlock k hk).trans (Bool.and_false _)
  rw [exec_resetEdge htimer hlevel hpin, hact, hv]
  refine ⟨_, rfl, hthrough.engine.trans hengine, by rw [hlmn]; rfl, by rw [hlmn]; rfl, by rw [hlmn]; rfl, hhealth, hfirst, ?_, hlock'⟩
  rw [alarmLamp_of_cleared hlock' hprelube hstall]
  exact hdup

/-- Settles O30: channel and faults reset first; what the engine and the silence add decides nothing about a latched fault. -/
theorem faultResetByClass : Obligations.FaultResetByClass := by
  refine ⟨fun s htimer hlevel hpin hestop hdue => ?_, fun s h => ?_, fun s htimer hlevel hpin hdue hreason he => ?_, fun k s => ?_⟩
  · obtain ⟨t, hexec, hhealth, hfirst, hprelube, hstall, hlock, hrest⟩ := reset_early htimer hlevel hpin hestop hdue
    exact ⟨t, hexec, hhealth, hfirst, hprelube, hstall, fun k hk => hlock k ((lockout_iff k).mpr hk), hrest⟩
  · rw [faultReset_of_unlocked h]; exact (faultsReset_channelAndFaults s).ssq
  · obtain ⟨t, hexec, hengine, hsilence, hmeasured, htime, hhealth, hfirst, hlamp, hlock⟩ :=
      reset_silenced htimer hlevel hpin hdue hreason he
    exact ⟨t, hexec, hengine, hsilence, hmeasured, htime, hhealth, hfirst, hlamp, fun k hk => hlock k ((lockout_iff k).mpr hk)⟩
  · simp only [← latched_iff]
    unfold raiseFault
    cases hactive : s.faultActive k with
    | true => simp
    | false => cases hl : k.latched <;> cases hf : s.fcl.firstFault <;> simp

end Sys2Proof.Machine
end

section
/-! The emergency stop: the refusal of the pending requests, the Start Sequencer's assertion, and the reaction under ESTOP (R75, R95,
R138, R139). -/

namespace Sys2Proof.Machine

/-! ## The Notch Stepper's refused request -/

/-- An ending reaches the Notch Stepper's urgent-unload list in no branch. -/
theorem notchEnding_urgentList (e : Ending) (s : State) : (notchEnding e s).nsp.urgentList = s.nsp.urgentList := by
  have hpost (r : Request) (u : State) : (post .notch r u).nsp.urgentList = u.nsp.urgentList := by rw [post_nsp]
  have hup (x : Step) (ok : Bool) (u : State) : (endUpSecond x ok u).nsp.urgentList = u.nsp.urgentList := by
    unfold endUpSecond; simp only []; repeat' split
    · rfl
    · rfl
    · exact hpost _ _
  have hdown (x : Step) (ok : Bool) (u : State) : (endDownSecond x ok u).nsp.urgentList = u.nsp.urgentList := by
    unfold endDownSecond; simp only []; split <;> rfl
  unfold notchEnding; repeat' split
  · rfl
  · unfold endUpFirst; simp only []; repeat' split
    · exact hup _ _ _
    · exact hpost _ _
    · rfl
  · rfl
  · exact hup _ _ _
  · unfold endDownFirst; simp only []; repeat' split
    · exact hdown _ _ _
    · exact hpost _ _
    · rfl
  · exact hdown _ _ _
  · unfold endRetry; simp only []; split <;> rfl

/-- Under ESTOP an ending posts nothing. -/
theorem notchEnding_erc_of_estop (e : Ending) {s : State} (h : s.estop = true) : (notchEnding e s).erc = s.erc := by
  have hset (n : Nsp) : (State.estop { s with nsp := n }) = true := h
  have hup (x : Step) (ok : Bool) (u : State) (hu : ∀ n : Nsp, State.estop { u with nsp := n } = true) : (endUpSecond x ok u).erc = u.erc := by
    unfold endUpSecond; simp only []; split
    · rfl
    · rw [if_pos (show (setStep (some { x with restoring := true }) u).estop = true from hu _)]; rfl
  have hdown (x : Step) (ok : Bool) (u : State) : (endDownSecond x ok u).erc = u.erc := by
    unfold endDownSecond; simp only []; split <;> rfl
  cases hstep : s.nsp.step with
  | none => unfold notchEnding; rw [hstep]
  | some x =>
    unfold notchEnding; simp only [hstep]; split
    · unfold endUpFirst; simp only []; split
      · rw [if_pos (show (setStep (some { x with phase := .second }) (setOwed false s)).estop = true from h)]
        exact hup _ _ _ hset
      · rfl
    · split
      · rfl
      · exact hup _ _ _ hset
    · unfold endDownFirst; simp only []; split
      · rw [if_pos (show (setStep (some { x with phase := .second }) s).estop = true from h)]
        exact hdown _ _ _
      · rfl
    · exact hdown _ _ _
    · unfold endRetry; simp only []; split <;> rfl

/-! ## The refusal of the pending requests (R138) -/

theorem inhibitNotch_cases (s : State) : inhibitNotch s = s ∨ inhibitNotch s = notchEnding .inhibited (setSlot .notch .empty s) := by
  unfold inhibitNotch; split
  · exact Or.inr rfl
  · exact Or.inl rfl

theorem notchOnly_inhibitNotch (s : State) : NotchOnly s (inhibitNotch s) := by
  have hslot : NotchOnly s (setSlot .notch .empty s) :=
    ⟨rfl, rfl, rfl, rfl, rfl, fun _ hc => PerClient.get_set_ne s.erc.slots .empty hc⟩
  rcases inhibitNotch_cases s with h | h <;> rw [h]
  · exact .refl s
  · exact hslot.trans (notchOnly_notchEnding _ _)

theorem inhibitNotch_urgentList (s : State) : (inhibitNotch s).nsp.urgentList = s.nsp.urgentList := by
  rcases inhibitNotch_cases s with h | h <;> rw [h]
  exact notchEnding_urgentList _ _

theorem inhibitNotch_not_pending {s : State} (h : s.estop = true) : (inhibitNotch s).erc.slots.notch.isPending = false := by
  unfold inhibitNotch; split
  · rw [notchEnding_erc_of_estop _ (show (setSlot .notch .empty s).estop = true from h)]; rfl
  next hne =>
    cases hslot : s.erc.slots.notch with
    | pending r => exact absurd hslot (hne r)
    | _ => rfl

/-- NOTCH and POLL refused: the Start Sequencer and the other slots stand. -/
def refuseOthers (s : State) : State := withdraw .poll (inhibitNotch s)

structure OthersRefused (s u : State) : Prop where
  ssq : u.ssq = s.ssq
  cpa : u.cpa = s.cpa
  fcl : u.fcl = s.fcl
  outer : u.outer = s.outer
  protect : u.erc.slots.protect = s.erc.slots.protect
  sequence : u.erc.slots.sequence = s.erc.slots.sequence
  urgentList : u.nsp.urgentList = s.nsp.urgentList
  poll : u.erc.slots.poll.isPending = false
  notch : s.estop = true → u.erc.slots.notch.isPending = false

theorem othersRefused (s : State) : OthersRefused s (refuseOthers s) := by
  have h := notchOnly_inhibitNotch s
  have hslot {c : Client} (hc : c ≠ .poll) : (refuseOthers s).erc.slots.get c = (inhibitNotch s).erc.slots.get c := withdraw_slots_ne hc _
  refine ⟨(withdraw_ssq _ _).trans h.ssq, (withdraw_cpa _ _).trans h.cpa, (withdraw_fcl _ _).trans h.fcl,
    (outer_withdraw _ _).trans h.outer, (hslot (c := .protect) (by decide)).trans (h.slots .protect (by decide)),
    (hslot (c := .sequence) (by decide)).trans (h.slots .sequence (by decide)), ?_, withdraw_not_pending .poll _, fun he => ?_⟩
  · exact (congrArg Nsp.urgentList (withdraw_nsp .poll (inhibitNotch s))).trans (inhibitNotch_urgentList s)
  · rw [show (refuseOthers s).erc.slots.notch = (inhibitNotch s).erc.slots.notch from hslot (c := .notch) (by decide)]
    exact inhibitNotch_not_pending he

theorem inhibitPending_eq (s : State) : inhibitPending s = refuseOthers (inhibitSequence s) := rfl

/-- Refused outside CRANKING, or not an ENGAGE, a request of the Start Sequencer is dropped, a DISENGAGE ordered again. -/
theorem seqEnding_refused {o : Order} {s : State} (h : o = .engage → s.ssq.engine ≠ .cranking) :
    seqEnding o .inhibited s = s ∨ (o = .disengage ∧ seqEnding o .inhibited s = addSeq .disengage s) := by
  cases o with
  | engage => exact Or.inl (if_neg (h rfl))
  | disengage => exact Or.inr ⟨rfl, rfl⟩
  | _ => exact Or.inl rfl

/-- The refusal under ESTOP withdraws all three requests. -/
theorem inhibitSequence_of_estop {s : State} (h : s.estop = true) (he : s.ssq.engine ≠ .cranking) : inhibitSequence s = withdraw .sequence s := by
  unfold inhibitSequence; split
  next r hr =>
    rw [withdraw_of_pending (c := .sequence) hr]
    exact seqEnding_inhibited (show (setSlot .sequence .empty s).estop = true from h) (Or.inr he)
  next hne =>
    have hkept : ¬ (s.erc.slots.get .sequence).isPending = true := by
      show ¬ s.erc.slots.sequence.isPending = true
      cases hslot : s.erc.slots.sequence with
      | pending r => exact absurd hslot (hne r)
      | _ => nofun
    exact (if_neg hkept).symm

/-- Everything pending but PROTECT is gone; the rest stands. -/
structure AllRefused (s u : State) : Prop where
  ssq : u.ssq = s.ssq
  cpa : u.cpa = s.cpa
  fcl : u.fcl = s.fcl
  outer : u.outer = s.outer
  protect : u.erc.slots.protect = s.erc.slots.protect
  urgentList : u.nsp.urgentList = s.nsp.urgentList
  sequence : u.erc.slots.sequence.isPending = false
  notch : u.erc.slots.notch.isPending = false
  poll : u.erc.slots.poll.isPending = false

theorem allRefused_inhibitPending {s : State} (h : s.estop = true) (he : s.ssq.engine ≠ .cranking) : AllRefused s (inhibitPending s) := by
  have hestop : (withdraw .sequence s).estop = true := (estop_of_outer (outer_withdraw _ _)).trans h
  have hothers := othersRefused (withdraw .sequence s)
  rw [inhibitPending_eq, inhibitSequence_of_estop h he]
  refine ⟨hothers.ssq.trans (withdraw_ssq _ _), hothers.cpa.trans (withdraw_cpa _ _), hothers.fcl.trans (withdraw_fcl _ _),
    hothers.outer.trans (outer_withdraw _ _), hothers.protect.trans (withdraw_slots_ne (c' := .protect) (by decide) s),
    hothers.urgentList.trans (congrArg Nsp.urgentList (withdraw_nsp .sequence s)), ?_, hothers.notch hestop, hothers.poll⟩
  rw [hothers.sequence]; exact withdraw_not_pending .sequence s

/-! ## The refusal before the assertion (R139) -/

/-- What the refusal leaves that is taken first, when it brings no failed attempt. -/
structure FirstRefused (s q : State) : Prop where
  ssq : ∃ l b, q.ssq = { s.ssq with seqList := l, releasePending := b }
    ∧ (b = s.ssq.releasePending ∨ (b = true ∧ ∃ r, s.erc.slots.sequence = .pending r ∧ r.order = .disengage))
  cpa : q.cpa = s.cpa
  fcl : q.fcl = s.fcl
  lmn : q.lmn = s.lmn
  protect : q.erc.slots.protect = s.erc.slots.protect

theorem firstRefused_of_ssq {s q : State} (hssq : q.ssq = s.ssq) (hcpa : q.cpa = s.cpa) (hfcl : q.fcl = s.fcl) (hlmn : q.lmn = s.lmn)
    (hprotect : q.erc.slots.protect = s.erc.slots.protect) : FirstRefused s q :=
  ⟨⟨s.ssq.seqList, s.ssq.releasePending, hssq, Or.inl rfl⟩, hcpa, hfcl, hlmn, hprotect⟩

theorem firstRefused_inhibitSequence {s : State} (h : ∀ r, s.erc.slots.sequence = .pending r → r.order = .engage → s.ssq.engine ≠ .cranking) :
    FirstRefused s (inhibitSequence s) := by
  unfold inhibitSequence; split
  next r hr =>
    rcases seqEnding_refused (o := r.order) (s := setSlot .sequence .empty s) (h r hr) with hs | ⟨ho, hs⟩ <;> rw [hs]
    · exact firstRefused_of_ssq rfl rfl rfl rfl rfl
    · by_cases hestop : (setSlot .sequence .empty s).estop = true
      · rw [addSeq_of_estop hestop]; exact firstRefused_of_ssq rfl rfl rfl rfl rfl
      · unfold addSeq; rw [if_neg hestop]
        exact ⟨⟨_, true, rfl, Or.inr ⟨rfl, r, hr, ho⟩⟩, rfl, rfl, rfl, rfl⟩
  next => exact firstRefused_of_ssq rfl rfl rfl rfl rfl

theorem firstRefused_refuseFirst {s : State} (h : ¬ engageRefusedFirst s) : FirstRefused s (refuseFirst s) := by
  unfold refuseFirst; split
  · split
    next hfirst =>
      have hseq := firstRefused_inhibitSequence (s := useFree s) fun r hr ho he => h ⟨he, ⟨r, hr, ho⟩, hfirst⟩
      have hothers := othersRefused (inhibitSequence (useFree s))
      rw [inhibitPending_eq]
      exact ⟨by rw [hothers.ssq]; exact hseq.ssq, hothers.cpa.trans hseq.cpa, hothers.fcl.trans hseq.fcl,
        (lmn_of_outer hothers.outer).trans hseq.lmn, hothers.protect.trans hseq.protect⟩
    next => exact firstRefused_of_ssq rfl rfl rfl rfl rfl
  · exact firstRefused_of_ssq rfl rfl rfl rfl rfl

/-- An ENGAGE refused first is a failed attempt. -/
theorem refuseFirst_of_engage {s : State} (h : engageRefusedFirst s) :
    refuseFirst s = refuseOthers (failedAttempt .starterFail (setSlot .sequence .empty (useFree s))) := by
  obtain ⟨he, ⟨r, hr, ho⟩, hfirst⟩ := h
  have hmeets : s.meetsRequest = true := by unfold State.meetsRequest; rw [hr]; rfl
  have hseq : inhibitSequence (useFree s) = failedAttempt .starterFail (setSlot .sequence .empty (useFree s)) := by
    unfold inhibitSequence
    rw [show (useFree s).erc.slots.sequence = .pending r from hr]
    show seqEnding r.order .inhibited (setSlot .sequence .empty (useFree s)) = _
    rw [ho]; exact if_pos he
  unfold refuseFirst; rw [if_pos hmeets, if_pos hfirst, inhibitPending_eq, hseq]

/-! ## The reaction under ESTOP -/

/-- The engine stands for an ESTOP. -/
def Downed (s : State) : Prop := s.ssq.engine = .stopped ∨ s.ssq.engine = .shutdown ∨ s.ssq.engine = .lockedOut

theorem Downed.ne_cranking {s : State} (h : Downed s) : s.ssq.engine ≠ .cranking := by
  rcases h with h | h | h <;> rw [h] <;> decide

/-- Under ESTOP the deciding blocks can do no more than refuse a start. -/
theorem decideBlocks_of_estop (old : State) {s : State} (h : Downed s) (he : s.estop = true) :
    decideBlocks old s = upkept s ∨ decideBlocks old s = raiseFault .startRefused (upkept s) := by
  rcases h with h | h | h
  · exact decideBlocks_of_stopped old h (refusesStart_iff.mpr (Or.inr (Or.inr (Or.inr he))))
  · exact Or.inl (decideBlocks_of_calm old (.of_engine (Or.inl h)))
  · exact Or.inl (decideBlocks_of_calm old (.of_engine (Or.inr (Or.inl h))))

/-- The deciding blocks' part of the reaction under ESTOP. -/
structure Upheld (s u : State) : Prop where
  ssq : u.ssq = s.ssq
  cpa : u.cpa = s.cpa
  erc : u.erc = s.erc
  urgentList : u.nsp.urgentList = s.nsp.urgentList
  outer : u.outer = s.outer
  faults : ∀ k, k ≠ .demandDisagree → k ≠ .startRefused → u.faultActive k = s.faultActive k

theorem upheld_decideBlocks (old : State) {s : State} (h : Downed s) (he : s.estop = true) : Upheld s (decideBlocks old s) := by
  obtain ⟨x, hx⟩ := upkept_nsp s
  rcases decideBlocks_of_estop old h he with hd | hd <;> rw [hd]
  · exact ⟨upkept_ssq s, upkept_cpa s, upkept_erc s, by rw [hx], outer_upkept s, fun k hk _ => upkept_faultActive hk s⟩
  · exact ⟨(raiseFault_ssq _ _).trans (upkept_ssq s), (raiseFault_cpa _ _).trans (upkept_cpa s), (raiseFault_erc _ _).trans (upkept_erc s),
      by rw [raiseFault_nsp, hx], (outer_raiseFault _ _).trans (outer_upkept s),
      fun k hk hr => (faultActive_raiseFault_ne hr _).trans (upkept_faultActive hk s)⟩

theorem pumpProtect_seqList (s : State) : (pumpProtect s).ssq.seqList = s.ssq.seqList := by
  have hnoted (o : Order) (u : State) : (notePosted o u).ssq.seqList = u.ssq.seqList := by cases o <;> rfl
  unfold pumpProtect; repeat' split
  · rw [post_ssq, hnoted]
  · rw [post_ssq]
  · rfl
  · rfl

theorem pumpSequence_of_nil {s : State} (h : s.ssq.seqList = []) : pumpSequence s = s := by
  unfold pumpSequence; rw [h]; exact ite_self _

/-- Under ESTOP the step test posts nothing. -/
theorem stepTest_erc_of_estop {s : State} (h : s.estop = true) : (stepTest s).erc = s.erc := by
  rcases stepTest_cases s with ⟨-, hs⟩ | ⟨-, hs⟩ | ⟨-, hs⟩ | ⟨-, -, -, hs⟩ <;> rw [hs]
  · unfold startUp; simp only []; rw [if_pos (by rw [setStep_estop]; exact h)]; rfl
  · unfold startDown; simp only []; rw [if_pos (by rw [setStep_estop]; exact h)]; rfl
  · unfold startRetry; simp only []; rw [if_pos (by rw [setStep_estop]; exact h)]; rfl

/-- What a reaction under ESTOP leaves, the sequence list empty. -/
structure HeldDown (s t : State) : Prop where
  ssq : t.ssq = { s.ssq with seqList := [], protList := t.ssq.protList, pumpHeld := t.ssq.pumpHeld }
  cpa : t.cpa = s.cpa
  faults : ∀ k, k ≠ .demandDisagree → k ≠ .startRefused → t.faultActive k = s.faultActive k
  outer : t.outer = s.outer
  slots : ∀ c, c ≠ .protect → t.erc.slots.get c = s.erc.slots.get c

theorem heldDown_react (old : State) {s : State} (h : Downed s) (he : s.estop = true) (hlist : s.ssq.seqList = []) :
    HeldDown s (react old s) := by
  have hup := upheld_decideBlocks old h he
  generalize hw : decideBlocks old s = w at hup
  have hcrank : w.ssq.engine ≠ .cranking := by rw [hup.ssq]; exact Downed.ne_cranking h
  have hestop : w.estop = true := (estop_of_outer hup.outer).trans he
  have hposted := posted_postOrders old (s := w) (Or.inr hcrank)
  have hnil : (pumpProtect w).ssq.seqList = [] := by rw [pumpProtect_seqList, hup.ssq]; exact hlist
  have hpost : postOrders old w = if stepTrigger old (pumpProtect w) then stepTest (pumpProtect w) else pumpProtect w := by
    unfold postOrders; rw [pumpSequence_of_nil hnil]
  have hprotect : (pumpProtect w).estop = true := (posted_pumpProtect w).estop.trans hestop
  have hafter : (postOrders old w).erc = (pumpProtect w).erc ∧ (postOrders old w).ssq.seqList = [] := by
    rw [hpost]; split
    · exact ⟨stepTest_erc_of_estop hprotect, by rw [(stepTest_leaves _).1]; exact hnil⟩
    · exact ⟨rfl, hnil⟩
  unfold react; rw [hw]
  refine ⟨?_, hposted.cpa.trans hup.cpa, fun k hk hr => (faultActive_of_fcl hposted.fcl k).trans (hup.faults k hk hr),
    hposted.outer.trans hup.outer, fun c hc => ?_⟩
  · have hssq := hposted.ssq
    rw [hafter.2, hup.ssq] at hssq
    exact hssq
  · rw [hafter.1, pumpProtect_slots_ne hc, hup.erc]

/-- The protective orders on their way under ESTOP. -/
theorem ordersWait_of_estop {s u : State} (old : State) (h : Downed u) (he : u.estop = true)
    (hslot : u.erc.slots.protect = s.erc.slots.protect) (hlist : u.ssq.protList = protectiveOrders s) (hurgent : u.nsp.urgentList = []) :
    ProtectiveOrdersWait (protectiveOrders s) s (react old u) := by
  have hup := upheld_decideBlocks old h he
  unfold react
  exact protectiveOrdersWait_of_postOrders old (Or.inr (by rw [hup.ssq]; exact Downed.ne_cranking h)) (by rw [hup.erc]; exact hslot)
    (by rw [hup.ssq]; exact hlist) (hup.urgentList.trans hurgent) fun o ho => protectiveOrders_ne_setSpeed ho

end Sys2Proof.Machine
end

section
/-! Obligation O28: the ESTOP assertion in every engine state (R95, R138, R139). -/

namespace Sys2Proof.Machine

/-! ## The Start Sequencer's assertion (R95) -/

/-- EMERGENCY_STOP raised, and the sequence order list emptied. -/
def emptied (s : State) : State :=
  { raiseFault .emergencyStop s with ssq := { (raiseFault .emergencyStop s).ssq with seqList := [] } }

theorem emptied_ssq (s : State) : (emptied s).ssq = { s.ssq with seqList := [] } := by
  show { (raiseFault .emergencyStop s).ssq with seqList := [] } = _
  rw [raiseFault_ssq]

theorem emptied_engine (s : State) : (emptied s).ssq.engine = s.ssq.engine := by rw [emptied_ssq]

theorem emptied_outer (s : State) : (emptied s).outer = s.outer := outer_raiseFault .emergencyStop s

theorem emptied_active (s : State) : (emptied s).faultActive .emergencyStop = true := raiseFault_active .emergencyStop s

theorem emptied_faults {k : FaultKind} (h : k ≠ .emergencyStop) (s : State) : (emptied s).faultActive k = s.faultActive k :=
  faultActive_raiseFault_ne h s

theorem emptied_shutdownOf (s : State) : shutdownOf (emptied s) = shutdownOf s :=
  shutdownOf_of_same (lmn_of_outer (emptied_outer s))
    (lockoutActive_of_faults fun _ hk => emptied_faults (fun h => by subst h; cases hk) s)

theorem emptied_orders (s : State) : protectiveOrders (emptied s) = protectiveOrders s :=
  protectiveOrders_of_ssq (by rw [emptied_ssq]) (by rw [emptied_ssq]) (by rw [emptied_ssq])

theorem ssqEstop_eq (s : State) : ssqEstop s = match s.ssq.engine with
    | .stopped | .lockedOut => emptied s
    | .shutdown => setReason .manual (protectiveSequence false (clearFuel (emptied s)))
    | _ => protectiveShutdown (emptied s) := by
  rw [← emptied_engine s]; rfl

theorem ssqEstop_of_standing {s : State} (h : s.ssq.engine = .stopped ∨ s.ssq.engine = .lockedOut) : ssqEstop s = emptied s := by
  rw [ssqEstop_eq]; rcases h with h | h <;> rw [h]

theorem ssqEstop_of_shutdown {s : State} (h : s.ssq.engine = .shutdown) :
    ssqEstop s = setReason .manual (protectiveSequence false (clearFuel (emptied s))) := by rw [ssqEstop_eq, h]

theorem ssqEstop_of_turning {s : State} (hs : s.ssq.engine ≠ .stopped) (hl : s.ssq.engine ≠ .lockedOut) (hd : s.ssq.engine ≠ .shutdown) :
    ssqEstop s = protectiveShutdown (emptied s) := by
  rw [ssqEstop_eq]; split
  · next h => exact absurd h hs
  · next h => exact absurd h hl
  · next h => exact absurd h hd
  · rfl

/-- The protective sequence keeps the attempts, and so does a shutdown that the turning engine holds in SHUTDOWN. -/
theorem protectiveShutdown_attempts {s : State} (h : s.lmn.silence = false) : (protectiveShutdown s).ssq.attempts = s.ssq.attempts := by
  have hguarded := guarded_protectiveSequence false (clearFuel s)
  have hlmn : (enter .shutdown (setReason .manual (protectiveSequence false (clearFuel s)))).lmn = s.lmn :=
    lmn_of_outer ((outer_enter _ _).trans hguarded.outer)
  have hturning : ¬ (enter .shutdown (setReason .manual (protectiveSequence false (clearFuel s)))).lmn.silence = true := by
    rw [hlmn, h]; decide
  have hact : protectiveShutdown s = enter .shutdown (setReason .manual (protectiveSequence false (clearFuel s))) := if_neg hturning
  rw [hact, enter_attempts (by decide) (by decide)]
  show (protectiveSequence false (clearFuel s)).ssq.attempts = _
  rw [hguarded.ssq]; rfl

/-- What the assertion leaves in every engine state. -/
structure Asserted (s u : State) : Prop where
  downed : Downed u
  fault : u.faultActive .emergencyStop = true
  seqList : u.ssq.seqList = []
  outer : u.outer = s.outer

/-- An engine that the assertion takes to its shutdown. -/
structure Felled (s u : State) : Prop where
  engine : u.ssq.engine = if s.ssq.engine = .shutdown then .shutdown else shutdownOf s
  stopReason : u.ssq.stopReason = .manual
  fuelOrder : u.ssq.fuelOrder = false
  claim : u.cpa.claim = if s.ssq.engine = .shutdown then s.cpa.claim else none
  lastCause : u.ssq.lastCause = s.ssq.lastCause
  attempts : s.lmn.silence = false → u.ssq.attempts = s.ssq.attempts
  protList : u.ssq.protList = protectiveOrders s
  protect : u.erc.slots.protect = s.erc.slots.protect
  urgentList : u.nsp.urgentList = []
  faults : ∀ k, k ≠ .emergencyStop → k ≠ .startRefused → k ≠ .speedDeviation → u.faultActive k = s.faultActive k

theorem emptied_erc (s : State) : (emptied s).erc = s.erc := raiseFault_erc .emergencyStop s

theorem emptied_cpa (s : State) : (emptied s).cpa = s.cpa := raiseFault_cpa .emergencyStop s

theorem asserted_felled_of_turning {s : State} (hs : s.ssq.engine ≠ .stopped) (hl : s.ssq.engine ≠ .lockedOut)
    (hd : s.ssq.engine ≠ .shutdown) : Asserted s (ssqEstop s) ∧ Felled s (ssqEstop s) := by
  have h := protected_protectiveShutdown (emptied s)
  have hattempts : s.lmn.silence = false → (protectiveShutdown (emptied s)).ssq.attempts = s.ssq.attempts := fun hsilence => by
    rw [protectiveShutdown_attempts (by rw [lmn_of_outer (emptied_outer s)]; exact hsilence), emptied_ssq]
  rw [ssqEstop_of_turning hs hl hd]
  generalize protectiveShutdown (emptied s) = u at h hattempts
  have hengine : u.ssq.engine = shutdownOf s := h.engine.trans (emptied_shutdownOf s)
  refine ⟨⟨?_, (h.faults _ (by decide) (by decide)).trans (emptied_active s), h.seqList, h.outer.trans (emptied_outer s)⟩,
    by rw [if_neg hd]; exact hengine, h.stopReason, h.fuelOrder, by rw [if_neg hd]; exact h.claim, ?_, hattempts,
    h.protList.trans (emptied_orders s), h.protect.trans (by rw [emptied_erc]), h.urgentList,
    fun k hk hr hdev => (h.faults k hr hdev).trans (emptied_faults hk s)⟩
  · unfold Downed; rw [hengine]
    rcases shutdownOf_cases s with hc | hc | hc <;> rw [hc] <;> decide
  · rw [h.lastCause, emptied_ssq]

theorem asserted_felled_of_shutdown {s : State} (hd : s.ssq.engine = .shutdown) : Asserted s (ssqEstop s) ∧ Felled s (ssqEstop s) := by
  have h := guarded_protectiveSequence false (clearFuel (emptied s))
  have hlist : (clearFuel (emptied s)).protectiveList false = protectiveOrders s :=
    (protectiveList_eq (clearFuel (emptied s))).trans (emptied_orders s)
  rw [hlist] at h
  have hssq : (setReason .manual (protectiveSequence false (clearFuel (emptied s)))).ssq = { s.ssq with
      fuelOrder := false, stopReason := .manual, seqList := [], protList := protectiveOrders s
      releasePending := s.ssq.releasePending || (protectiveOrders s).contains .disengage } := by
    show { (protectiveSequence false (clearFuel (emptied s))).ssq with stopReason := .manual } = _
    rw [h.ssq, show (clearFuel (emptied s)).ssq = { (emptied s).ssq with fuelOrder := false } from rfl, emptied_ssq]
  have hfcl : (setReason .manual (protectiveSequence false (clearFuel (emptied s)))).fcl = (emptied s).fcl := h.fcl
  have hcpa : (setReason .manual (protectiveSequence false (clearFuel (emptied s)))).cpa = (emptied s).cpa := h.cpa
  have houter : (setReason .manual (protectiveSequence false (clearFuel (emptied s)))).outer = (emptied s).outer := h.outer
  have hurgent : (setReason .manual (protectiveSequence false (clearFuel (emptied s)))).nsp.urgentList = [] := h.urgentList
  have hprotect : (setReason .manual (protectiveSequence false (clearFuel (emptied s)))).erc.slots.protect = (emptied s).erc.slots.protect :=
    h.slots .protect (by decide)
  rw [ssqEstop_of_shutdown hd]
  generalize setReason .manual (protectiveSequence false (clearFuel (emptied s))) = u at hssq hfcl hcpa houter hurgent hprotect
  refine ⟨⟨?_, (faultActive_of_fcl hfcl _).trans (emptied_active s), by rw [hssq], houter.trans (emptied_outer s)⟩,
    ?_, by rw [hssq], by rw [hssq], ?_, by rw [hssq], fun _ => by rw [hssq], by rw [hssq], hprotect.trans (by rw [emptied_erc]), hurgent,
    fun k hk _ _ => (faultActive_of_fcl hfcl k).trans (emptied_faults hk s)⟩
  · unfold Downed; rw [hssq]; exact Or.inr (Or.inl hd)
  · rw [hssq, if_pos hd]; exact hd
  · rw [hcpa, emptied_cpa, if_pos hd]

theorem asserted_ssqEstop (s : State) : Asserted s (ssqEstop s) := by
  by_cases hstand : s.ssq.engine = .stopped ∨ s.ssq.engine = .lockedOut
  · rw [ssqEstop_of_standing hstand]
    refine ⟨?_, emptied_active s, by rw [emptied_ssq], emptied_outer s⟩
    unfold Downed; rw [emptied_engine]
    exact hstand.elim Or.inl fun h => Or.inr (Or.inr h)
  · obtain ⟨hs, hl⟩ := not_or.mp hstand
    by_cases hd : s.ssq.engine = .shutdown
    · exact (asserted_felled_of_shutdown hd).1
    · exact (asserted_felled_of_turning hs hl hd).1

theorem felled_ssqEstop {s : State} (hs : s.ssq.engine ≠ .stopped) (hl : s.ssq.engine ≠ .lockedOut) : Felled s (ssqEstop s) := by
  by_cases hd : s.ssq.engine = .shutdown
  · exact (asserted_felled_of_shutdown hd).2
  · exact (asserted_felled_of_turning hs hl hd).2

/-! ## The command -/

/-- The state in which the Start Sequencer takes the assertion: the refusal made first if it is, and the level set. -/
def estopLevel (s : State) : State := setLevel .estop true (refuseFirst (stopStability .estop s))

/-- The state before the reaction. -/
def estopTaken (s : State) : State := inhibitPending (ssqEstop (estopLevel s))

theorem exec_estopEdge {s : State} (htimer : (s.lmn.lines.get .estop).timer.isSome = true)
    (hlevel : (s.lmn.lines.get .estop).level ≠ some true) (hpin : s.pins.lines.get .estop = true) :
    exec (.lineStabilityExpiry .estop) s = .next (react s (estopTaken s)) := by
  have htaken : takeLevel .estop true (stopStability .estop s) = estopAssertion (stopStability .estop s) := by
    unfold takeLevel; exact if_pos rfl
  rw [exec_lineStabilityExpiry_of_ne htimer hpin hlevel, htaken]; rfl

theorem estop_estopLevel (s : State) : (estopLevel s).estop = true := rfl

/-- What every assertion leaves before the reaction, and after it. -/
theorem estopTaken_view (s : State) : AllRefused (ssqEstop (estopLevel s)) (estopTaken s) ∧ HeldDown (estopTaken s) (react s (estopTaken s))
    ∧ Downed (estopTaken s) ∧ (estopTaken s).estop = true := by
  have hasserted := asserted_ssqEstop (estopLevel s)
  have hestop : (ssqEstop (estopLevel s)).estop = true := (estop_of_outer hasserted.outer).trans (estop_estopLevel s)
  have hrefused : AllRefused (ssqEstop (estopLevel s)) (estopTaken s) :=
    allRefused_inhibitPending hestop (Downed.ne_cranking hasserted.downed)
  have hdowned : Downed (estopTaken s) := by unfold Downed; rw [hrefused.ssq]; exact hasserted.downed
  have hestop' : (estopTaken s).estop = true := (estop_of_outer hrefused.outer).trans hestop
  exact ⟨hrefused, heldDown_react s hdowned hestop' (by rw [hrefused.ssq]; exact hasserted.seqList), hdowned, hestop'⟩

theorem estop_always (s : State) : (react s (estopTaken s)).fuelRun = false ∧ (react s (estopTaken s)).estop = true
    ∧ (react s (estopTaken s)).faultActive .emergencyStop = true ∧ (react s (estopTaken s)).ssq.seqList = []
    ∧ (react s (estopTaken s)).erc.slots.sequence.isPending = false
    ∧ (react s (estopTaken s)).erc.slots.notch.isPending = false ∧ (react s (estopTaken s)).erc.slots.poll.isPending = false := by
  have hasserted := asserted_ssqEstop (estopLevel s)
  obtain ⟨hrefused, hheld, -, hestop⟩ := estopTaken_view s
  generalize estopTaken s = z at hrefused hheld hestop
  have hestop' : (react s z).estop = true := (estop_of_outer hheld.outer).trans hestop
  refine ⟨by unfold State.fuelRun; rw [hestop']; simp, hestop', ?_, by rw [hheld.ssq], ?_, ?_, ?_⟩
  · rw [hheld.faults _ (by decide) (by decide), faultActive_of_fcl hrefused.fcl]; exact hasserted.fault
  · rw [show (react s z).erc.slots.sequence = z.erc.slots.sequence from hheld.slots .sequence (by decide)]; exact hrefused.sequence
  · rw [show (react s z).erc.slots.notch = z.erc.slots.notch from hheld.slots .notch (by decide)]; exact hrefused.notch
  · rw [show (react s z).erc.slots.poll = z.erc.slots.poll from hheld.slots .poll (by decide)]; exact hrefused.poll

theorem estop_standing {s : State} (h : s.ssq.engine = .stopped ∨ s.ssq.engine = .lockedOut) :
    (react s (estopTaken s)).ssq.engine = s.ssq.engine ∧ (react s (estopTaken s)).ssq.stopReason = s.ssq.stopReason := by
  have hnot : ¬ engageRefusedFirst (stopStability .estop s) := fun hr => by
    have hc : s.ssq.engine = .cranking := hr.1
    rcases h with h | h <;> exact nomatch hc.symm.trans h
  obtain ⟨l, b, hssq, -⟩ := (firstRefused_refuseFirst hnot).ssq
  have hlevel : (estopLevel s).ssq = { s.ssq with seqList := l, releasePending := b } := hssq
  have hact := ssqEstop_of_standing (s := estopLevel s) (by rw [hlevel]; exact h)
  obtain ⟨hrefused, hheld, -, -⟩ := estopTaken_view s
  rw [hact] at hrefused
  rw [hheld.ssq, hrefused.ssq, emptied_ssq, hlevel]
  exact ⟨rfl, rfl⟩

/-- What the felling leaves after the reaction. -/
structure FelledAfter (s t : State) : Prop where
  engine : t.ssq.engine = if s.ssq.engine = .shutdown then .shutdown else shutdownOf s
  stopReason : t.ssq.stopReason = .manual
  fuelOrder : t.ssq.fuelOrder = false
  claim : t.cpa.claim = if s.ssq.engine = .shutdown then s.cpa.claim else none
  lastCause : t.ssq.lastCause = s.ssq.lastCause
  attempts : s.lmn.silence = false → t.ssq.attempts = s.ssq.attempts
  urgentList : t.nsp.urgentList = []
  crankFail : t.faultActive .crankFail = s.faultActive .crankFail
  ordersWait : ProtectiveOrdersWait (protectiveOrders s) s t

theorem felled_react {s : State} (hs : (estopLevel s).ssq.engine ≠ .stopped) (hl : (estopLevel s).ssq.engine ≠ .lockedOut) :
    FelledAfter (estopLevel s) (react s (estopTaken s)) := by
  have hfelled := felled_ssqEstop hs hl
  obtain ⟨hrefused, hheld, hdowned, hestop⟩ := estopTaken_view s
  generalize estopTaken s = z at hrefused hheld hdowned hestop
  have hlist : z.ssq.protList = protectiveOrders (estopLevel s) := by rw [hrefused.ssq]; exact hfelled.protList
  have hurgent : z.nsp.urgentList = [] := hrefused.urgentList.trans hfelled.urgentList
  have hcarries : Carries z.nsp.completed z := ⟨rfl, hurgent⟩
  refine ⟨?_, ?_, ?_, ?_, ?_, fun hsilence => ?_, (hcarries.react s).2, ?_,
    ordersWait_of_estop s hdowned hestop (hrefused.protect.trans hfelled.protect) hlist hurgent⟩
  · rw [hheld.ssq, hrefused.ssq]; exact hfelled.engine
  · rw [hheld.ssq, hrefused.ssq]; exact hfelled.stopReason
  · rw [hheld.ssq, hrefused.ssq]; exact hfelled.fuelOrder
  · rw [hheld.cpa, hrefused.cpa]; exact hfelled.claim
  · rw [hheld.ssq, hrefused.ssq]; exact hfelled.lastCause
  · rw [hheld.ssq, hrefused.ssq]; exact hfelled.attempts hsilence
  · rw [hheld.faults _ (by decide) (by decide), faultActive_of_fcl hrefused.fcl]
    exact hfelled.faults _ (by decide) (by decide) (by decide)

/-- The level set does not change where a shutdown ends. -/
theorem shutdownOf_estopLevel {s q : State} (hq : estopLevel s = setLevel .estop true q) (hlmn : q.lmn.silence = s.lmn.silence)
    (hlock : q.lockoutActive = s.lockoutActive) : shutdownOf (estopLevel s) = shutdownOf s := by
  rw [hq]
  have hsilence : (setLevel .estop true q).lmn.silence = s.lmn.silence := hlmn
  have hlock' : (setLevel .estop true q).lockoutActive = s.lockoutActive := hlock
  unfold shutdownOf; rw [hsilence, hlock']

/-- Where the refusal is no failed attempt the engine falls as it stood. -/
theorem estop_felled {s : State} (hs : s.ssq.engine ≠ .stopped) (hl : s.ssq.engine ≠ .lockedOut) (hfirst : ¬ engageRefusedFirst s) :
    FelledAfter (estopLevel s) (react s (estopTaken s)) ∧ (estopLevel s).ssq.engine = s.ssq.engine ∧ (estopLevel s).cpa = s.cpa
      ∧ shutdownOf (estopLevel s) = shutdownOf s ∧ (estopLevel s).erc.slots.protect = s.erc.slots.protect
      ∧ (s.ssq.releasePending = true ∨ (∀ r, s.erc.slots.sequence = .pending r → r.order ≠ .disengage) →
          protectiveOrders (estopLevel s) = protectiveOrders s) := by
  have hrefused := firstRefused_refuseFirst (s := stopStability .estop s) hfirst
  obtain ⟨l, b, hssq, hb⟩ := hrefused.ssq
  have hlevel : (estopLevel s).ssq = { s.ssq with seqList := l, releasePending := b } := hssq
  have hengine : (estopLevel s).ssq.engine = s.ssq.engine := by rw [hlevel]
  refine ⟨felled_react (by rw [hengine]; exact hs) (by rw [hengine]; exact hl), hengine, hrefused.cpa, ?_, hrefused.protect, fun h => ?_⟩
  · refine shutdownOf_estopLevel rfl ?_ (lockoutActive_of_faults fun k _ => faultActive_of_fcl hrefused.fcl k)
    rw [hrefused.lmn]; rfl
  · have hrelease : b = s.ssq.releasePending := by
      rcases hb with hb | ⟨hb, r, hr, ho⟩
      · exact hb
      · rcases h with h | h
        · rw [hb, h]
        · exact absurd ho (h r hr)
    exact protectiveOrders_of_ssq hengine (by rw [hlevel]; exact hrelease) (by rw [hlevel])

/-! ## An ENGAGE refused first -/

/-- The failed attempt that an ENGAGE refused first is, as the assertion then meets it. -/
structure AttemptMet (s y : State) : Prop where
  rests : s.ssq.attempts < 2 → y.ssq.engine = .crankRest ∧ y.ssq.attempts = s.ssq.attempts + 1
  locks : 2 ≤ s.ssq.attempts → y.ssq.engine = .lockedOut ∧ y.ssq.attempts = 3 ∧ y.faultActive .crankLockout = true
  lastCause : y.ssq.lastCause = some .starterFail
  fuelOrder : y.ssq.fuelOrder = false
  claim : y.cpa.claim = none
  crankFail : y.faultActive .crankFail = true
  silence : y.lmn.silence = s.lmn.silence
  lockout : s.ssq.attempts < 2 → y.lockoutActive = s.lockoutActive

/-- An earlier failed attempt raises no lockout. -/
theorem failedAttempt_lockout {c : Cause} {s : State} (h : s.ssq.attempts < 2) : (failedAttempt c s).lockoutActive = s.lockoutActive := by
  obtain ⟨l, r, hssq⟩ := attemptCounted_ssq c s
  have hattempts : (attemptCounted c s).ssq.attempts = min 3 (s.ssq.attempts + 1) := by rw [hssq, ← satAdd_eq]
  have hnot : ¬ (attemptCounted c s).ssq.attempts = 3 := by omega
  rw [failedAttempt_eq, if_neg hnot]
  obtain ⟨l', r', hstop⟩ := addStopIfHeld_eq (enter .crankRest (attemptCounted c s))
  have hrest : (enterCrankRest (attemptCounted c s)).lockoutActive = (enter .crankRest (attemptCounted c s)).lockoutActive := by
    unfold enterCrankRest; rw [hstop]; rfl
  obtain ⟨l'', r'', horders⟩ := attemptOrders_eq s
  have hcounted : attemptCounted c s = raiseCrankFail c (countAttempt c (attemptOrders s)) := rfl
  rw [hrest, (kept_enter .crankRest _).lockoutActive]
  refine lockoutActive_of_faults fun k hk => ?_
  have hne : k ≠ .crankFail := fun h => by subst h; cases hk
  rw [hcounted, horders]
  exact faultActive_raiseFault_ne hne _

/-- The state in which the refused ENGAGE ends. -/
def engageTaken (s : State) : State := setSlot .sequence .empty (useFree (stopStability .estop s))

theorem attemptMet_estopLevel {s : State} (h : engageRefusedFirst s) : AttemptMet s (estopLevel s) := by
  have hmet := attempted_failedAttempt .starterFail (engageTaken s)
  have hlock := failedAttempt_lockout (c := .starterFail) (s := engageTaken s)
  have hothers := othersRefused (failedAttempt .starterFail (engageTaken s))
  have houter : (failedAttempt .starterFail (engageTaken s)).lmn.silence = s.lmn.silence := by
    rw [lmn_of_outer (outer_failedAttempt _ _)]; rfl
  have hfirst : refuseFirst (stopStability .estop s) = refuseOthers (failedAttempt .starterFail (engageTaken s)) :=
    refuseFirst_of_engage (s := stopStability .estop s) h
  have hssq : (estopLevel s).ssq = (refuseFirst (stopStability .estop s)).ssq := rfl
  have hcpa : (estopLevel s).cpa = (refuseFirst (stopStability .estop s)).cpa := rfl
  have hfcl : (estopLevel s).fcl = (refuseFirst (stopStability .estop s)).fcl := rfl
  have hsilence : (estopLevel s).lmn.silence = (refuseFirst (stopStability .estop s)).lmn.silence := rfl
  rw [hfirst] at hssq hcpa hfcl hsilence
  generalize failedAttempt .starterFail (engageTaken s) = v at hmet hlock hothers houter hssq hcpa hfcl hsilence
  have hfault (k : FaultKind) : (estopLevel s).faultActive k = v.faultActive k := faultActive_of_fcl (hfcl.trans hothers.fcl) k
  refine ⟨fun hlow => ?_, fun hhigh => ?_, ?_, ?_, ?_, (hfault _).trans hmet.crankFail, ?_, fun hlow => ?_⟩
  · obtain ⟨he, ha, -⟩ := hmet.rests hlow
    rw [hssq, hothers.ssq]; exact ⟨he, ha⟩
  · obtain ⟨he, ha, hf⟩ := hmet.locks hhigh
    rw [hssq, hothers.ssq, hfault]; exact ⟨he, ha, hf⟩
  · rw [hssq, hothers.ssq]; exact hmet.lastCause
  · rw [hssq, hothers.ssq]; exact hmet.fuelOrder
  · rw [hcpa, hothers.cpa]; exact hmet.claim
  · rw [hsilence, lmn_of_outer hothers.outer]; exact houter
  · exact (lockoutActive_of_faults fun k _ => hfault k).trans (hlock hlow)

theorem estop_attempt_rests {s : State} (h : engageRefusedFirst s) (hlow : s.ssq.attempts < 2) :
    (react s (estopTaken s)).ssq.engine = shutdownOf s ∧ (react s (estopTaken s)).ssq.stopReason = .manual
      ∧ (s.lmn.silence = false → (react s (estopTaken s)).ssq.attempts = s.ssq.attempts + 1)
      ∧ (react s (estopTaken s)).ssq.lastCause = some .starterFail ∧ (react s (estopTaken s)).faultActive .crankFail = true
      ∧ (react s (estopTaken s)).cpa.claim = none ∧ (react s (estopTaken s)).ssq.fuelOrder = false := by
  have hmet := attemptMet_estopLevel h
  obtain ⟨he, ha⟩ := hmet.rests hlow
  have hafter := felled_react (s := s) (by rw [he]; decide) (by rw [he]; decide)
  have hnot : ¬ (estopLevel s).ssq.engine = .shutdown := by rw [he]; decide
  have hof : shutdownOf (estopLevel s) = shutdownOf s := by
    unfold shutdownOf; rw [hmet.silence, hmet.lockout hlow]
  refine ⟨?_, hafter.stopReason, fun hs => (hafter.attempts (hmet.silence.trans hs)).trans ha, hafter.lastCause.trans hmet.lastCause,
    hafter.crankFail.trans hmet.crankFail, ?_, hafter.fuelOrder⟩
  · rw [hafter.engine, if_neg hnot, hof]
  · rw [hafter.claim, if_neg hnot]

theorem estop_attempt_locks {s : State} (h : engageRefusedFirst s) (hhigh : 2 ≤ s.ssq.attempts) :
    (react s (estopTaken s)).ssq.engine = .lockedOut ∧ (react s (estopTaken s)).ssq.attempts = 3
      ∧ (react s (estopTaken s)).ssq.lastCause = some .starterFail ∧ (react s (estopTaken s)).faultActive .crankLockout = true
      ∧ (react s (estopTaken s)).cpa.claim = none ∧ (react s (estopTaken s)).ssq.fuelOrder = false := by
  have hmet := attemptMet_estopLevel h
  obtain ⟨he, ha, hf⟩ := hmet.locks hhigh
  have hact := ssqEstop_of_standing (s := estopLevel s) (Or.inr he)
  obtain ⟨hrefused, hheld, -, -⟩ := estopTaken_view s
  rw [hact] at hrefused
  rw [hheld.faults _ (by decide) (by decide), faultActive_of_fcl hrefused.fcl, emptied_faults (by decide), hheld.ssq, hheld.cpa,
    hrefused.ssq, hrefused.cpa, emptied_cpa, emptied_ssq]
  exact ⟨he, ha, hmet.lastCause, hf, hmet.claim, hmet.fuelOrder⟩

/-- Settles O28: the refusal, the assertion by engine state, and a reaction that ESTOP leaves nothing to decide. -/
theorem estopAssertionStopsTheEngine : Obligations.EstopAssertionStopsTheEngine := by
  intro s htimer hlevel hpin
  rw [exec_estopEdge htimer hlevel hpin]
  refine ⟨⟨_, rfl, estop_always s⟩, fun he => ⟨_, rfl, ?_⟩, fun he => ⟨_, rfl, ?_⟩, fun hclaim hs hl hfirst => ⟨_, rfl, ?_⟩,
    fun hs hl hfirst hrelease => ⟨_, rfl, ?_⟩, fun h => ⟨fun hlow => ⟨_, rfl, estop_attempt_rests h hlow⟩,
      fun hhigh => ⟨_, rfl, estop_attempt_locks h hhigh⟩⟩⟩
  · obtain ⟨hengine, hreason⟩ := estop_standing (s := s) (Or.inl he)
    exact ⟨hengine.trans he, hreason⟩
  · obtain ⟨hengine, hreason⟩ := estop_standing (s := s) (Or.inr he)
    exact ⟨hengine.trans he, hreason⟩
  · obtain ⟨hafter, hengine, hcpa, hof, -⟩ := estop_felled hs hl hfirst
    refine ⟨?_, hafter.stopReason, ?_, hafter.fuelOrder, hafter.urgentList⟩
    · rw [hafter.engine, hengine, hof]
    · rw [hafter.claim, hengine, hcpa]
      by_cases hd : s.ssq.engine = .shutdown
      · have hnone : s.cpa.claim.isSome = false := by rw [hclaim, hd]; rfl
        rw [if_pos hd]; exact Option.isNone_iff_eq_none.mp (by simpa using hnone)
      · exact if_neg hd
  · obtain ⟨hafter, -, -, -, hprotect, horders⟩ := estop_felled hs hl hfirst
    have hwait := hafter.ordersWait
    rw [horders hrelease] at hwait
    unfold ProtectiveOrdersWait at hwait ⊢
    rw [hprotect] at hwait; exact hwait

end Sys2Proof.Machine
end

section
/-! The ending of a transaction: its tag, the next grant, the health and the sensor record (R132, R133, R140, R144). -/

namespace Sys2Proof.Machine

/-! ## What the steps of an ending leave -/

theorem moves_clientActs (tr : Transaction) (e : Ending) {s : State} (hempty : (s.erc.slots.get tr.client).isEmpty = true) :
    Moves s (clientActs tr e s) := by
  unfold clientActs; split
  · split
    · exact moves_unloadEnding (.refl s)
    · exact moves_protEnding (.refl s)
  · exact moves_seqEnding (.refl s)
  next hc => exact moves_notchEnding (.refl s) (by rw [← hc]; exact hempty)
  · exact .refl s

section
variable {α : Type} {f : State → α} (hf : Unmoved f)
include hf

theorem clientEnding_unmoved (hslot : ∀ c v s, f (setSlot c v s) = f s) (tr : Transaction) (e : Ending) (s : State) :
    f (clientEnding tr e s) = f s := by
  rw [clientEnding_eq]
  exact (hf.moves (moves_clientActs tr e (by simp [setSlot, Slot.isEmpty]))).trans (hslot _ _ s)

theorem sensorStep_unmoved (hsensor : ∀ r s, f (setSensor r s) = f s) (hderates : ∀ s, f (updateDerates s) = f s) (tr : Transaction)
    (e : Ending) (s : State) : f (sensorStep tr e s) = f s := by
  unfold sensorStep; split
  next d0 d1 d2 =>
    have hupdate : f (sensorUpdate d0 d1 d2 s) = f s :=
      (hderates _).trans ((hf.moves (moves_ssqSensorUpdate (.refl _))).trans (hsensor (readRecord d0 d1 d2) s))
    split
    · exact hupdate
    · rfl
  · rfl

theorem becomeFailed_unmoved (hrecord : ∀ r s, f (setRecordState r s) = f s) (hderates : ∀ s, f (stopDerateTimers s) = f s) (d : Device)
    (s : State) : f (becomeFailed d s) = f s := by
  have hstale : f (if d = .sensors ∧ s.erc.sensor.state = .valid then setRecordState .stale s else s) = f s := by
    split
    · exact hrecord _ s
    · rfl
  have hssq (u : State) : f (nspDeviceFailed d (ssqDeviceFailed d u)) = f u := by
    have hmoved : f (ssqDeviceFailed d u) = f u := hf.moves (moves_ssqDeviceFailed (.refl u))
    cases d with
    | load => exact (hf.moves (moves_urgentTest (.refl _))).trans hmoved
    | sensors => exact (hderates _).trans hmoved
    | _ => exact hmoved
  exact (hf.raise _ _).trans ((hssq _).trans hstale)

theorem healthStep_unmoved (hset : ∀ d x s, f (setHealth d x s) = f s) (hrecord : ∀ r s, f (setRecordState r s) = f s)
    (hderates : ∀ s, f (stopDerateTimers s) = f s) (tr : Transaction) (e : Ending) (s : State) : f (healthStep tr e s) = f s := by
  have hchanged (d : Device) (x : Health) : f (changeHealth d x s) = f s := by
    unfold changeHealth; simp only []; repeat' split
    · exact (becomeFailed_unmoved hf hrecord hderates d _).trans (hset _ _ s)
    · exact (hf.clear _ _).trans (hset _ _ s)
    · exact hset _ _ s
  have htested (c : Prop) [Decidable c] (u : State) : f (if c then autostopTest u else u) = f u := by
    split
    · exact hf.moves (moves_autostopTest (.refl u))
    · rfl
  have hreturn (old u : State) : f (sensorsReturn old u) = f u := by
    unfold sensorsReturn; split
    · exact hrecord _ u
    · rfl
  unfold healthStep; simp only []; split
  · exact (htested _ _).trans (hchanged _ _)
  · exact (hreturn _ _).trans ((htested _ _).trans (hchanged _ _))

end

/-- The tag of the next transaction, and the count of late replies. -/
def tags (s : State) : BitVec 4 × Nat := (s.erc.tag, s.erc.lateReply)

theorem unmoved_tags : Unmoved tags := unmoved_devices.comp fun x => (x.1, x.2.2.2.2.2.2)

theorem ended_tags (tr : Transaction) (e : Ending) (s : State) : tags (ended tr e s) = tags s :=
  (clientEnding_unmoved unmoved_tags (fun _ _ _ => rfl) tr e _).trans
    ((sensorStep_unmoved unmoved_tags (fun _ _ => rfl) (fun _ => rfl) tr e _).trans
      (healthStep_unmoved unmoved_tags (fun _ _ _ => rfl) (fun _ _ => rfl) (fun _ => rfl) tr e s))

theorem ended_health (tr : Transaction) (e : Ending) (s : State) : (ended tr e s).erc.health
    = s.erc.health.set tr.request.order.device ((s.erc.health.get tr.request.order.device).after e) :=
  (clientEnding_unmoved unmoved_health (fun _ _ _ => rfl) tr e _).trans
    ((sensorStep_unmoved unmoved_health (fun _ _ => rfl) (fun _ => rfl) tr e _).trans (healthStep_health tr e s))

theorem ended_read_sensor {tr : Transaction} (hread : tr.request.order = .read) (d0 d1 d2 : Byte) (s : State) :
    (ended tr (.accept d0 d1 d2) s).erc.sensor = readRecord d0 d1 d2 := by
  have hstep (u : State) : sensorStep tr (.accept d0 d1 d2) u = updateDerates (ssqSensorUpdate (setSensor (readRecord d0 d1 d2) u)) :=
    if_pos hread
  refine (clientEnding_unmoved unmoved_sensor (fun _ _ _ => rfl) tr _ _).trans ?_
  rw [hstep]
  exact unmoved_sensor.moves (moves_ssqSensorUpdate (.refl _))

/-! ## The grant that ends it (R132, R133) -/

/-- The channel idle again, the next tag drawn. -/
def channelIdle (s : State) : State := { s with erc := { s.erc with sequencer := .idle, tag := s.erc.tag + 1, replyTimer := none } }

theorem enterIdle_cases (s : State) : (firstPending s = none ∧ enterIdle s = channelIdle s)
    ∨ ∃ c r, firstPending s = some c ∧ s.erc.slots.get c = .pending r ∧ enterIdle s = { channelIdle s with erc := { (channelIdle s).erc with
        current := some ⟨c, r, s.erc.tag + 1⟩, sinceSent := 0, slots := s.erc.slots.set c (.inFlight r), sequencer := .sending } } := by
  have hpend : firstPending (channelIdle s) = firstPending s := rfl
  have hunfold : enterIdle s = match firstPending s with
      | some c => grantSlot c (channelIdle s)
      | none => channelIdle s := by rw [← hpend]; rfl
  cases hfirst : firstPending s with
  | none => exact Or.inl ⟨rfl, by rw [hunfold, hfirst]⟩
  | some c =>
    have hpending : (s.erc.slots.get c).isPending = true := by
      unfold firstPending at hfirst
      exact List.find?_some (p := fun c => (s.erc.slots.get c).isPending) hfirst
    cases hslot : s.erc.slots.get c with
    | pending r =>
      refine Or.inr ⟨c, r, rfl, hslot, ?_⟩
      rw [hunfold, hfirst]
      show grantSlot c (channelIdle s) = _
      unfold grantSlot
      rw [show (channelIdle s).erc.slots.get c = .pending r from hslot]; rfl
    | empty => rw [hslot] at hpending; cases hpending
    | inFlight r => rw [hslot] at hpending; cases hpending

theorem enterIdle_kept_erc (s : State) : (enterIdle s).erc.tag = s.erc.tag + 1 ∧ (enterIdle s).erc.health = s.erc.health
    ∧ (enterIdle s).erc.lateReply = s.erc.lateReply ∧ (enterIdle s).erc.sensor = s.erc.sensor := by
  rcases enterIdle_cases s with ⟨-, h⟩ | ⟨c, r, -, -, h⟩ <;> rw [h] <;> exact ⟨rfl, rfl, rfl, rfl⟩

/-- The first pending client in the order of the grants. -/
theorem firstPending_none {s : State} (h : firstPending s = none) (c : Client) : (s.erc.slots.get c).isPending = false := by
  unfold firstPending at h
  rw [List.find?_eq_none] at h
  have hc := h c (by cases c <;> decide)
  exact Bool.not_eq_true _ |>.mp hc

theorem firstPending_before {s : State} {c d : Client} (h : firstPending s = some c) (hlt : grantRank d < grantRank c) :
    (s.erc.slots.get d).isPending = false := by
  unfold firstPending at h
  simp only [List.find?_cons, List.find?_nil] at h
  by_contra hpending
  have hpending' : (s.erc.slots.get d).isPending = true := by simpa using hpending
  cases d with
  | protect => rw [hpending'] at h; cases h; exact absurd hlt (lt_irrefl _)
  | sequence =>
    rw [hpending'] at h
    cases hp : (s.erc.slots.get .protect).isPending <;> rw [hp] at h <;> cases h
    · exact absurd hlt (lt_irrefl _)
    · exact absurd hlt (by decide)
  | notch =>
    rw [hpending'] at h
    cases hp : (s.erc.slots.get .protect).isPending <;> cases hq : (s.erc.slots.get .sequence).isPending <;> rw [hp, hq] at h <;> cases h
    · exact absurd hlt (lt_irrefl _)
    · exact absurd hlt (by decide)
    · exact absurd hlt (by decide)
    · exact absurd hlt (by decide)
  | poll => exact absurd hlt (by cases c <;> decide)

theorem grantsTheFirst_enterIdle (s : State) : GrantsTheFirst (enterIdle s) := by
  rcases enterIdle_cases s with ⟨hnone, h⟩ | ⟨c, r, hfirst, hslot, h⟩
  · rw [h]
    exact Or.inl ⟨rfl, fun c => firstPending_none hnone c⟩
  · rw [h]
    refine Or.inr ⟨⟨c, r, s.erc.tag + 1⟩, rfl, rfl, PerClient.get_set s.erc.slots c _, rfl, fun d hd => ?_⟩
    have hne : d ≠ c := fun he => by subst he; exact absurd hd (lt_irrefl _)
    show ((s.erc.slots.set c (.inFlight r)).get d).isPending = false
    rw [PerClient.get_set_ne s.erc.slots _ hne]
    exact firstPending_before hfirst hd

theorem ending_accounts {cmd : Instr} {tr : Transaction} {e : Ending} {s : State} (hends : EndsWith cmd tr e s) :
    ∃ t, exec cmd s = .next t ∧ t.erc.tag = s.erc.tag + 1 ∧ GrantsTheFirst t
      ∧ t.erc.health.get tr.request.order.device = healthAfter (s.erc.health.get tr.request.order.device) e
      ∧ (∀ d, d ≠ tr.request.order.device → t.erc.health.get d = s.erc.health.get d)
      ∧ t.erc.lateReply = s.erc.lateReply
      ∧ (∀ d0 d1 d2, e = .accept d0 d1 d2 → tr.request.order = .read →
          t.erc.sensor = ⟨(d0.toNat : Int) - 50, (d1.toNat : Int) - 50, d2.getLsbD 0, 0, .valid⟩) := by
  obtain ⟨l, hexec⟩ := exec_ending hends
  have htags : tags (react (setReplyLine l s) (ended tr e (setReplyLine l s))) = tags s :=
    (unmoved_tags.react _ _).trans (ended_tags tr e (setReplyLine l s))
  have hhealth : (react (setReplyLine l s) (ended tr e (setReplyLine l s))).erc.health
      = s.erc.health.set tr.request.order.device ((s.erc.health.get tr.request.order.device).after e) :=
    (unmoved_health.react _ _).trans (ended_health tr e (setReplyLine l s))
  have hsensor (d0 d1 d2 : Byte) (he : e = .accept d0 d1 d2) (hread : tr.request.order = .read) :
      (react (setReplyLine l s) (ended tr e (setReplyLine l s))).erc.sensor = readRecord d0 d1 d2 := by
    subst he; exact (unmoved_sensor.react _ _).trans (ended_read_sensor hread d0 d1 d2 _)
  generalize react (setReplyLine l s) (ended tr e (setReplyLine l s)) = u at hexec htags hhealth hsensor
  obtain ⟨htag, hkept, hlate, hrecord⟩ := enterIdle_kept_erc u
  obtain ⟨htag', hlate'⟩ := Prod.mk.injEq .. ▸ htags
  refine ⟨_, hexec, htag.trans (by rw [htag']), grantsTheFirst_enterIdle u, ?_, fun d hd => ?_, hlate.trans hlate', fun d0 d1 d2 he hread => ?_⟩
  · rw [hkept, hhealth, PerDevice.get_set, Health.after_eq]
  · rw [hkept, hhealth, PerDevice.get_set_ne _ _ hd]
  · rw [hrecord, hsensor d0 d1 d2 he hread]; rfl

end Sys2Proof.Machine
end

section
/-! The low oil a READ shows, and the third transport failure of a device (R144, R149, R152). -/

namespace Sys2Proof.Machine

/-! ## Protective orders, past the grant that ends a transaction -/

theorem ordersWait_enterIdle {l : List Order} {s u : State} (hempty : s.erc.slots.protect = .empty) (h : ProtectiveOrdersWait l s u) :
    ProtectiveOrdersWait l s (enterIdle u) := by
  unfold ProtectiveOrdersWait at h ⊢
  rw [if_pos hempty] at h ⊢
  rw [enterIdle_ssq]
  exact ⟨(enterIdle_request .protect u).trans h.1, h.2⟩

theorem BroughtDown.carried {k : FaultKind} {s u v : State} (h : BroughtDown k s u) (hssq : v.ssq = u.ssq) (hfcl : v.fcl = u.fcl)
    (hprotect : v.erc.slots.protect = u.erc.slots.protect) (hurgent : v.nsp.urgentList = u.nsp.urgentList) : BroughtDown k s v where
  fault := (faultActive_of_fcl hfcl k).trans h.fault
  calm := h.calm.of_ssq hssq
  fuelOrder := by rw [hssq]; exact h.fuelOrder
  stopReason := by rw [hssq]; exact h.stopReason
  protect := hprotect.trans h.protect
  protList := by rw [hssq]; exact h.protList
  urgentList := hurgent.trans h.urgentList

/-- What has brought the engine down shows after the reaction and the grant. -/
structure DownAfter (k : FaultKind) (s u t : State) : Prop where
  fault : t.faultActive k = true
  engine : t.ssq.engine = u.ssq.engine
  stopReason : t.ssq.stopReason = .manual
  fuelOrder : t.ssq.fuelOrder = false
  orders : s.erc.slots.protect = .empty → ProtectiveOrdersWait (protectiveOrders s) s t

theorem BroughtDown.ending {k : FaultKind} (hk : k ≠ .demandDisagree) {s u : State} (h : BroughtDown k s u) (old : State) :
    DownAfter k s u (enterIdle (react old u)) := by
  have hreact := react_of_calm old h.calm
  have horders := h.ordersWait old
  generalize react old u = t at hreact horders
  refine ⟨?_, ?_, ?_, ?_, fun hempty => ordersWait_enterIdle hempty horders⟩
  · rw [faultActive_of_fcl (enterIdle_fcl t), hreact.faults k hk, h.fault]
  · rw [enterIdle_ssq, hreact.engine]
  · rw [enterIdle_ssq, hreact.stopReason, h.stopReason]
  · rw [enterIdle_ssq, hreact.fuelOrder, h.fuelOrder]

/-! ## Low oil -/

theorem ssqSensorUpdate_oilLow {s : State} (he : s.ssq.engine = .idleWarm ∨ s.ssq.engine = .running) (hoil : s.erc.sensor.oilLow = true)
    (hturning : s.lmn.silence = false) : ssqSensorUpdate s = protectiveShutdown (raiseFault .oilLow s) := by
  have hdown : (protectiveShutdown (raiseFault .oilLow s)).ssq.engine = .shutdown :=
    (protected_protectiveShutdown _).engine.trans (shutdownOf_of_turning
      ((congrArg Lmn.silence (lmn_of_outer (outer_raiseFault .oilLow s))).trans hturning))
  have hacts : (s.erc.sensor.oilLow && (decide (s.ssq.engine = .idleWarm) || decide (s.ssq.engine = .running))) = true := by
    rw [hoil]; rcases he with he | he <;> rw [he] <;> rfl
  unfold ssqSensorUpdate; simp only []
  rw [if_pos hacts]
  generalize protectiveShutdown (raiseFault .oilLow s) = p at hdown
  rw [autostopTest_of_ne (by rw [hdown]; decide), triggerTest_of_ne (by rw [hdown]; decide) (by rw [hdown]; decide)]

theorem read_oilLow {cmd : Instr} {tr : Transaction} {d0 d1 d2 : Byte} {s : State} (hends : EndsWith cmd tr (.accept d0 d1 d2) s)
    (hclient : tr.client = .poll) (hread : tr.request.order = .read) (hoil : d2.getLsbD 0 = true)
    (he : s.ssq.engine = .idleWarm ∨ (s.ssq.engine = .running ∧ s.ssq.idleElapsed = false)) (hturning : s.lmn.silence = false) :
    ∃ t, exec cmd s = .next t ∧ t.faultActive .oilLow = true ∧ t.ssq.engine = .shutdown ∧ t.ssq.stopReason = .manual
      ∧ t.ssq.fuelOrder = false ∧ (s.erc.slots.protect = .empty → ProtectiveOrdersWait (protectiveOrders s) s t) := by
  have hidle : s.ssq.engine ≠ .running ∨ s.ssq.idleElapsed = false := by
    rcases he with he | ⟨-, he⟩
    · exact Or.inl (by rw [he]; decide)
    · exact Or.inr he
  have hengine : s.ssq.engine = .idleWarm ∨ s.ssq.engine = .running := he.imp_right And.left
  obtain ⟨old, v, hexec, hnoted, -⟩ := exec_readAccept hends hread hclient hidle
  have hssq : (setSensor (readRecord d0 d1 d2) v).ssq = s.ssq := hnoted.ssq
  have hlmn : (setSensor (readRecord d0 d1 d2) v).lmn = s.lmn := lmn_of_outer hnoted.outer
  have hslots : (setSensor (readRecord d0 d1 d2) v).erc.slots = s.erc.slots := hnoted.slots
  have hrecord : (setSensor (readRecord d0 d1 d2) v).erc.sensor.oilLow = true := hoil
  generalize setSensor (readRecord d0 d1 d2) v = w at hssq hlmn hslots hrecord hexec
  rw [ssqSensorUpdate_oilLow (by rw [hssq]; exact hengine) hrecord (by rw [hlmn]; exact hturning)] at hexec
  have hdown : BroughtDown .oilLow s (protectiveShutdown (raiseFault .oilLow w)) :=
    broughtDown_protectiveShutdown (by decide) (by decide) (raiseFault_active .oilLow w) (by rw [raiseFault_erc, hslots])
      (protectiveOrders_of_ssq (by rw [raiseFault_ssq, hssq]) (by rw [raiseFault_ssq, hssq]) (by rw [raiseFault_ssq, hssq]))
  have hshut : (protectiveShutdown (raiseFault .oilLow w)).ssq.engine = .shutdown :=
    (protected_protectiveShutdown _).engine.trans (shutdownOf_of_turning
      ((congrArg Lmn.silence (lmn_of_outer (outer_raiseFault .oilLow w))).trans (by rw [hlmn]; exact hturning)))
  generalize protectiveShutdown (raiseFault .oilLow w) = p at hdown hshut hexec
  have hafter := (hdown.carried (v := setSlot .poll .empty (updateDerates p)) rfl rfl rfl rfl).ending (by decide) old
  exact ⟨_, hexec, hafter.fault, hafter.engine.trans hshut, hafter.stopReason, hafter.fuelOrder, hafter.orders⟩

end Sys2Proof.Machine
end

section
/-! The third transport failure of a device and what it brings down (R149, R152, R153). -/

namespace Sys2Proof.Machine

/-! ## Orders past the freed slot -/

theorem setSlot_protect_congr (c : Client) (v : Slot) {s u : State} (h : u.erc.slots.protect = s.erc.slots.protect) :
    (setSlot c v u).erc.slots.protect = (setSlot c v s).erc.slots.protect := by cases c <;> first | exact h | rfl

theorem setSlot_protect_empty (c : Client) {s : State} (h : s.erc.slots.protect = .empty) :
    (setSlot c .empty s).erc.slots.protect = .empty := by cases c <;> first | exact h | rfl

/-- Of the state before, the orders that wait read an empty PROTECT slot alone. -/
theorem ordersWait_of_empty {l : List Order} {a s t : State} (ha : a.erc.slots.protect = .empty) (hs : s.erc.slots.protect = .empty)
    (h : ProtectiveOrdersWait l a t) : ProtectiveOrdersWait l s t := by
  unfold ProtectiveOrdersWait at h ⊢
  rw [if_pos ha] at h; rw [if_pos hs]; exact h

/-! ## The governor and the starter -/

section
variable {cmd : Instr} {d : Device} {tr : Transaction} {e : Ending} {s : State} (hends : EndsWith cmd tr e s)
  (hthird : ThirdFailure d tr e s)
include hends hthird

/-- A device that fails shows its fault after the client, the reaction and the grant. -/
theorem thirdFailure_active (hd : d ≠ .sensors) : ∃ t, exec cmd s = .next t ∧ t.faultActive (.deviceFailed d) = true := by
  obtain ⟨old, v, hexec, -⟩ := exec_thirdFailure hends hthird hd
  refine ⟨_, hexec, ?_⟩
  have hraised : (setSlot tr.client .empty (becomeFailed d v)).faultActive (.deviceFailed d) = true := raiseFault_active _ _
  have hempty : ((setSlot tr.client .empty (becomeFailed d v)).erc.slots.get tr.client).isEmpty = true := by
    simp [setSlot, Slot.isEmpty]
  generalize setSlot tr.client .empty (becomeFailed d v) = u at hraised hempty ⊢
  rw [faultActive_of_fcl (enterIdle_fcl _)]
  exact moves_keep_active rfl (moves_react (moves_clientActs tr e hempty)) hraised

end

theorem governor_thirdFailure {cmd : Instr} {tr : Transaction} {e : Ending} {s : State} (hends : EndsWith cmd tr e s)
    (hthird : ThirdFailure .governor tr e s) (hs : s.ssq.engine ≠ .stopped) (hd : s.ssq.engine ≠ .shutdown)
    (hl : s.ssq.engine ≠ .lockedOut) (hturning : s.lmn.silence = false) :
    ∃ t, exec cmd s = .next t ∧ t.ssq.engine = .shutdown ∧ t.ssq.stopReason = .manual ∧ t.ssq.fuelOrder = false
      ∧ (s.erc.slots.protect = .empty → ProtectiveOrdersWait (protectiveOrders s) s t) := by
  obtain ⟨old, v, hexec, hssq, -, -, -, -, houter, hslots, -⟩ := exec_thirdFailure hends hthird (by decide)
  obtain ⟨hdevice, htransport, -⟩ := hthird
  have hfails : becomeFailed .governor v = raiseFault (.deviceFailed .governor) (protectiveShutdown v) := by
    have hact : ssqDeviceFailed .governor v = protectiveShutdown v :=
      if_neg (by rw [hssq]; rintro (h | h | h); exacts [hs h, hd h, hl h])
    rw [← hact]; rfl
  have hp := protected_protectiveShutdown v
  have hengine : (protectiveShutdown v).ssq.engine = .shutdown :=
    hp.engine.trans (shutdownOf_of_turning (by rw [lmn_of_outer houter]; exact hturning))
  have horders : protectiveOrders v = protectiveOrders s :=
    protectiveOrders_of_ssq (by rw [hssq]) (by rw [hssq]) (by rw [hssq])
  rw [hfails] at hexec
  have hdown : BroughtDown (.deviceFailed .governor) (setSlot tr.client .empty v)
      (setSlot tr.client .empty (raiseFault (.deviceFailed .governor) (protectiveShutdown v))) := by
    have hraised := raiseFault_ssq (.deviceFailed .governor) (protectiveShutdown v)
    have hfault := raiseFault_active (.deviceFailed .governor) (protectiveShutdown v)
    have hprotect : (raiseFault (.deviceFailed .governor) (protectiveShutdown v)).erc.slots.protect = v.erc.slots.protect := by
      rw [raiseFault_erc, hp.protect]
    have hurgent : (raiseFault (.deviceFailed .governor) (protectiveShutdown v)).nsp.urgentList = [] := by
      rw [raiseFault_nsp, hp.urgentList]
    generalize raiseFault (.deviceFailed .governor) (protectiveShutdown v) = w at hraised hfault hprotect hurgent
    refine ⟨hfault, hp.calm.of_ssq hraised, ?_, ?_, setSlot_protect_congr _ _ hprotect, ?_, hurgent⟩
    · rw [← hp.fuelOrder, ← hraised]; rfl
    · rw [← hp.stopReason, ← hraised]; rfl
    · rw [show protectiveOrders (setSlot tr.client .empty v) = protectiveOrders v from rfl, ← hp.protList, ← hraised]; rfl
  have hstill : (setSlot tr.client .empty (raiseFault (.deviceFailed .governor) (protectiveShutdown v))).ssq.engine = .shutdown :=
    (congrArg Ssq.engine (raiseFault_ssq (.deviceFailed .governor) (protectiveShutdown v))).trans hengine
  generalize setSlot tr.client .empty (raiseFault (.deviceFailed .governor) (protectiveShutdown v)) = w at hdown hstill hexec
  have hacts : BroughtDown (.deviceFailed .governor) (setSlot tr.client .empty v) (clientActs tr e w) ∧ (clientActs tr e w).ssq = w.ssq := by
    rcases clientActs_transport htransport (by rw [hdevice]; decide) w with h | h <;> rw [h]
    · exact ⟨hdown, rfl⟩
    · have honly := notchOnly_notchEnding e w
      exact ⟨hdown.carried honly.ssq honly.fcl (honly.slots .protect (by decide)) (notchEnding_urgentList e w), honly.ssq⟩
  have hafter := hacts.1.ending (by decide) old
  refine ⟨_, hexec, ?_, hafter.stopReason, hafter.fuelOrder, fun hempty => ?_⟩
  · rw [hafter.engine, hacts.2, hstill]
  · have hfreed := setSlot_protect_empty tr.client ((congrArg PerClient.protect hslots).trans hempty)
    have hwait := hafter.orders hfreed
    rw [show protectiveOrders (setSlot tr.client .empty v) = protectiveOrders v from rfl, horders] at hwait
    exact ordersWait_of_empty hfreed hempty hwait

/-! ## The starter, its release still pending -/

/-- Locked out with the release of the starter still pending. -/
def HeldFast (s : State) : Prop := s.ssq.engine = .lockedOut ∧ s.ssq.fuelOrder = false ∧ s.ssq.releasePending = true

theorem HeldFast.of_ssq {s t : State} (h : HeldFast s) (hssq : t.ssq = s.ssq) : HeldFast t := by unfold HeldFast; rw [hssq]; exact h

theorem addSeq_releasePending {o : Order} {s : State} (h : s.ssq.releasePending = true) : (addSeq o s).ssq.releasePending = true := by
  unfold addSeq; split
  · exact h
  · cases o <;> first | exact h | rfl

theorem HeldFast.addSeq (o : Order) {s : State} (h : HeldFast s) : HeldFast (addSeq o s) := by
  obtain ⟨hengine, hfuel, hpending⟩ := h
  have hkept := addSeq_releasePending (o := o) hpending
  obtain ⟨l, r, hadd⟩ := addSeq_eq o s
  rw [hadd] at hkept ⊢
  exact ⟨hengine, hfuel, hkept⟩

theorem HeldFast.seqEnding {o : Order} {e : Ending} (he : e.transport = true) {s : State} (h : HeldFast s) :
    HeldFast (seqEnding o e s) := by
  have hengine : s.ssq.engine = .lockedOut := h.1
  have haccepted : e.accepted = false := by cases e <;> first | rfl | cases he
  cases o with
  | run => unfold Machine.seqEnding; rw [haccepted, Bool.false_and, if_neg (by decide)]; exact h
  | status => cases e <;> first | exact h | cases he
  | engage => unfold Machine.seqEnding; simp only []; rw [if_neg (by rw [hengine]; decide)]; exact h
  | disengage => unfold Machine.seqEnding; simp only []; rw [if_pos he]; exact h.addSeq .disengage
  | _ => exact h

theorem HeldFast.clientActs {tr : Transaction} {e : Ending} (he : e.transport = true) {s : State} (h : HeldFast s) :
    HeldFast (clientActs tr e s) := by
  have haccepted : e.accepted = false := by cases e <;> first | rfl | cases he
  unfold Machine.clientActs; split
  · split
    · unfold unloadEnding; rw [haccepted, Bool.and_false]; exact h
    · unfold protEnding; split
      · exact ⟨h.1, h.2.1, rfl⟩
      · exact h.seqEnding he
  · exact h.seqEnding he
  · exact h.of_ssq (notchOnly_notchEnding e s).ssq
  · exact h

theorem HeldFast.react (old : State) {s : State} (h : HeldFast s) : HeldFast (react old s) := by
  obtain ⟨hengine, hfuel, hpending⟩ := h
  have hreact := react_of_calm old (.of_engine (Or.inr (Or.inl hengine)))
  refine ⟨hreact.engine.trans hengine, hreact.fuelOrder.trans hfuel, ?_⟩
  rw [hreact.ssq]; exact hpending

/-- The protective orders without the release that the starter has refused (R101). -/
def stuckOrders (s : State) : List Order := (if s.ssq.pumpHeld = true then [.stop] else []) ++ [.unload, .fuelOff]

structure Stuck (s u : State) : Prop where
  fault : u.faultActive .starterStuck = true
  engine : u.ssq.engine = .lockedOut
  fuelOrder : u.ssq.fuelOrder = false
  releasePending : u.ssq.releasePending = s.ssq.releasePending
  protList : u.ssq.protList = stuckOrders s
  urgentList : u.nsp.urgentList = []
  protect : u.erc.slots.protect = s.erc.slots.protect

theorem protectiveList_stuck (s : State) : s.protectiveList true = stuckOrders s := by
  simp only [State.protectiveList, stuckOrders, Bool.not_true, Bool.and_false, Bool.false_eq_true, if_false, List.nil_append]

theorem stuckOrders_keep (s : State) : (stuckOrders s).contains .disengage = false := by
  unfold stuckOrders; split <;> rfl

theorem stuck_starterStuck (s : State) : Stuck s (starterStuck s) := by
  have hguarded := guarded_protectiveSequence true (clearFuel (raiseFault .starterStuck s))
  have hssq : (clearFuel (raiseFault .starterStuck s)).ssq = { s.ssq with fuelOrder := false } :=
    congrArg (fun q : Ssq => { q with fuelOrder := false }) (raiseFault_ssq .starterStuck s)
  have hlist : (clearFuel (raiseFault .starterStuck s)).protectiveList true = stuckOrders s := by
    rw [protectiveList_stuck]; unfold stuckOrders; rw [hssq]
  have hfault : (clearFuel (raiseFault .starterStuck s)).faultActive .starterStuck = true := raiseFault_active .starterStuck s
  have herc : (clearFuel (raiseFault .starterStuck s)).erc = s.erc := raiseFault_erc .starterStuck s
  rw [hlist] at hguarded
  have hunfold : starterStuck s = if (protectiveSequence true (clearFuel (raiseFault .starterStuck s))).ssq.engine = .lockedOut
      then protectiveSequence true (clearFuel (raiseFault .starterStuck s))
      else enter .lockedOut (protectiveSequence true (clearFuel (raiseFault .starterStuck s))) := rfl
  rw [hunfold]
  generalize clearFuel (raiseFault .starterStuck s) = c at hguarded hssq hfault herc
  have hssq' : (protectiveSequence true c).ssq
      = { s.ssq with fuelOrder := false, seqList := [], protList := stuckOrders s, releasePending := s.ssq.releasePending } := by
    rw [hguarded.ssq, hssq, stuckOrders_keep, Bool.or_false]
  have hfault' : (protectiveSequence true c).faultActive .starterStuck = true := (faultActive_of_fcl hguarded.fcl _).trans hfault
  have hslot : (protectiveSequence true c).erc.slots.protect = s.erc.slots.protect := by
    rw [← herc]; exact hguarded.slots .protect (by decide)
  have hurgent := hguarded.urgentList
  generalize protectiveSequence true c = p at hssq' hfault' hslot hurgent
  have hstuck {u : State} (hkept : Kept p u) (hengine : u.ssq.engine = .lockedOut) (hfuel : u.ssq.fuelOrder = false) : Stuck s u :=
    ⟨(hkept.faults _ (by decide) (by decide)).trans hfault', hengine, hfuel, by rw [hkept.releasePending, hssq'],
      by rw [hkept.protList, hssq'], hkept.urgentList.trans hurgent, (hkept.slots .protect (by decide)).trans hslot⟩
  split
  next h => exact hstuck (.refl p) h (by rw [hssq'])
  next => exact hstuck (kept_enter .lockedOut p) (engine_enter .lockedOut p) (enter_standing (Or.inr (Or.inl rfl)) p).1

theorem heldFast_starterStuck {s : State} (h : s.ssq.releasePending = true) : HeldFast (starterStuck s) :=
  have hstuck := stuck_starterStuck s
  ⟨hstuck.engine, hstuck.fuelOrder, hstuck.releasePending.trans h⟩

theorem starter_thirdFailure {cmd : Instr} {tr : Transaction} {e : Ending} {s : State} (hends : EndsWith cmd tr e s)
    (hthird : ThirdFailure .starter tr e s) (hpending : s.ssq.releasePending = true) :
    ∃ t, exec cmd s = .next t ∧ t.faultActive .starterStuck = true ∧ t.ssq.engine = .lockedOut ∧ t.ssq.fuelOrder = false
      ∧ t.ssq.releasePending = true := by
  obtain ⟨old, v, hexec, hssq, -⟩ := exec_thirdFailure hends hthird (by decide)
  obtain ⟨-, htransport, -⟩ := hthird
  have hfails : becomeFailed .starter v = raiseFault (.deviceFailed .starter) (starterStuck v) := by
    have hact : ssqDeviceFailed .starter v = starterStuck v := if_pos (by rw [hssq]; exact hpending)
    rw [← hact]; rfl
  have hstuck := stuck_starterStuck v
  have hfast := heldFast_starterStuck (s := v) (by rw [hssq]; exact hpending)
  rw [hfails] at hexec
  have hraised : HeldFast (setSlot tr.client .empty (raiseFault (.deviceFailed .starter) (starterStuck v))) :=
    hfast.of_ssq (raiseFault_ssq _ _)
  have hfault : (setSlot tr.client .empty (raiseFault (.deviceFailed .starter) (starterStuck v))).faultActive .starterStuck = true :=
    (faultActive_raiseFault_ne (by decide) _).trans hstuck.fault
  have hempty : ((setSlot tr.client .empty (raiseFault (.deviceFailed .starter) (starterStuck v))).erc.slots.get tr.client).isEmpty = true := by
    simp [setSlot, Slot.isEmpty]
  generalize setSlot tr.client .empty (raiseFault (.deviceFailed .starter) (starterStuck v)) = u at hraised hfault hempty hexec
  obtain ⟨hengine, hfuel, hkept⟩ := (hraised.clientActs (tr := tr) htransport).react old
  have hstands := moves_keep_active (k := .starterStuck) rfl (moves_react (old := old) (moves_clientActs tr e hempty)) hfault
  refine ⟨_, hexec, ?_, ?_, ?_, ?_⟩
  · rw [faultActive_of_fcl (enterIdle_fcl _)]; exact hstands
  · rw [enterIdle_ssq]; exact hengine
  · rw [enterIdle_ssq]; exact hfuel
  · rw [enterIdle_ssq]; exact hkept

end Sys2Proof.Machine
end

section
/-! The third transport failure of the load device and of the sensors, and what a third failure brings in all (R152, R153). -/

namespace Sys2Proof.Machine

/-! ## The load device -/

theorem after_failed {h : Health} {e : Ending} (he : e.transport = true) (hi : e ≠ .inhibited) (hcount : h.consecutive = 2) :
    (h.after e).failed = true := by
  have hbegins := (begins_iff h e).mpr ⟨he, hi, hcount⟩
  rw [Bool.and_eq_true] at hbegins; exact hbegins.1

theorem notchEnding_of_none {e : Ending} {s : State} (h : s.nsp.step = none) : notchEnding e s = s := by
  unfold notchEnding; rw [h]

theorem setSlot_not_pending (c d : Client) {s : State} (h : (s.erc.slots.get d).isPending = false) :
    ((setSlot c .empty s).erc.slots.get d).isPending = false := by
  show ((s.erc.slots.set c .empty).get d).isPending = false
  by_cases hd : d = c
  · subst hd; rw [PerClient.get_set]; rfl
  · rw [PerClient.get_set_ne _ _ hd]; exact h

theorem Unloading.freed {s : State} (h : Unloading s) (k : FaultKind) (c : Client) : Unloading (setSlot c .empty (raiseFault k s)) := by
  rw [raiseFault_eq]
  exact ⟨h.completed, h.step, setSlot_not_pending c .notch h.notch, h.hold, h.owed, h.watch, h.urgent, h.engine⟩

theorem enterIdle_not_pending {c : Client} {s : State} (h : (s.erc.slots.get c).isPending = false) :
    ((enterIdle s).erc.slots.get c).isPending = false := by
  rcases enterIdle_cases s with ⟨-, hs⟩ | ⟨d, r, -, -, hs⟩ <;> rw [hs]
  · exact h
  · show ((s.erc.slots.set d (.inFlight r)).get c).isPending = false
    by_cases hd : c = d
    · subst hd; rw [PerClient.get_set]; rfl
    · rw [PerClient.get_set_ne _ _ hd]; exact h

theorem enterIdle_cap (s : State) : (enterIdle s).cap = s.cap := by
  rcases enterIdle_cases s with ⟨-, h⟩ | ⟨d, r, -, -, h⟩ <;> rw [h] <;> rfl

theorem urgentUnload_enterIdle {a t : State} (h : UrgentUnload a t) : UrgentUnload a (enterIdle t) := by
  obtain ⟨hcompleted, hstep, hnotch, hhold, howed, hwatch, hcap, hlist, hdwell⟩ := h
  unfold UrgentUnload
  rw [enterIdle_nsp, enterIdle_cap]
  refine ⟨hcompleted, hstep, enterIdle_not_pending (c := .notch) hnotch, hhold, howed, hwatch, hcap, hlist.imp_right fun hl => ⟨hl.1, ?_⟩, hdwell⟩
  exact (congrArg (Option.map Request.order) (enterIdle_request .protect t)).trans hl.2

theorem load_thirdFailure {cmd : Instr} {tr : Transaction} {e : Ending} {s : State} (hends : EndsWith cmd tr e s)
    (hthird : ThirdFailure .load tr e s) (he : s.ssq.engine = .running) (hdue : 0 < s.nsp.completed ∨ s.nsp.step ≠ none) :
    ∃ t, exec cmd s = .next t ∧ UrgentUnload s t := by
  obtain ⟨old, v, hexec, hssq, -, hnsp, -, -, -, -, -, -, hhealth⟩ := exec_thirdFailure hends hthird (by decide)
  obtain ⟨hdevice, htransport, hcount⟩ := hthird
  have hfails : becomeFailed .load v = raiseFault (.deviceFailed .load) (urgentUnload v) := by
    rw [← urgentTest_of_due (by rw [hssq, he]) (by rw [hnsp]; exact hdue)]; rfl
  have hfailed : (v.erc.health.get .load).failed = true := by
    rw [hhealth, PerDevice.get_set]; exact after_failed htransport (EndsWith.ne_inhibited hends) hcount
  have hhealth' : (setSlot tr.client .empty (raiseFault (.deviceFailed .load) (urgentUnload v))).erc.health = v.erc.health := by
    rw [← hfails]; exact becomeFailed_health .load v
  have hunloading := (unloading_urgentUnload (s := v) (by rw [hssq, he])).freed (.deviceFailed .load) tr.client
  have hssq' : (setSlot tr.client .empty (raiseFault (.deviceFailed .load) (urgentUnload v))).ssq = s.ssq :=
    (raiseFault_ssq _ _).trans ((urgentUnload_ssq v).trans hssq)
  have hdwell : (setSlot tr.client .empty (raiseFault (.deviceFailed .load) (urgentUnload v))).nsp.dwell = some 0 :=
    congrArg Nsp.dwell (raiseFault_nsp _ _)
  rw [hfails] at hexec
  generalize setSlot tr.client .empty (raiseFault (.deviceFailed .load) (urgentUnload v)) = w at hexec hhealth' hunloading hssq' hdwell
  have hacts : clientActs tr e w = w := by
    rcases clientActs_transport htransport (by rw [hdevice]; decide) w with h | h
    · exact h
    · rw [h, notchEnding_of_none hunloading.step]
  rw [hacts] at hexec
  have hcap : (react old w).cap = 0 := by
    refine cap_of_held (Or.inr (Or.inr (Or.inr ?_)))
    have hkept : (react old w).erc.health = w.erc.health := unmoved_health.react old w
    unfold State.deviceFailed; rw [hkept, hhealth', hfailed]
  refine ⟨_, hexec, urgentUnload_enterIdle (urgentUnload_react old hunloading hcap fun hs hi => ?_)⟩
  rw [hssq']; exact ⟨he, hs, hi, hdwell⟩

/-! ## The sensors -/

theorem sensorsReturn_of_sound {old s : State} (h : old.deviceFailed .sensors = false) : sensorsReturn old s = s := by
  unfold sensorsReturn; rw [h]; rfl

theorem sensorStep_of_transport {tr : Transaction} {e : Ending} (he : e.transport = true) (s : State) : sensorStep tr e s = s := by
  cases e <;> first | rfl | cases he

/-- After the failure of the sensors nothing is left of the health step but the autostop test. -/
theorem moves_sensorsFailure {tr : Transaction} {e : Ending} {s : State} (hdevice : tr.request.order.device = .sensors)
    (he : e.transport = true) (hi : e ≠ .inhibited) (hcount : (s.erc.health.get .sensors).consecutive = 2) :
    Moves (becomeFailed .sensors (setHealth .sensors ((s.erc.health.get .sensors).after e) s)) (healthStep tr e s) := by
  have hsound : s.deviceFailed .sensors = false := by
    unfold State.deviceFailed Health.failed; rw [hcount]; rfl
  have haccepted : e.accepted = false := by cases e <;> first | rfl | cases he
  unfold healthStep; simp only []
  rw [hdevice, changeHealth_third he hi hcount, haccepted, if_neg (by decide), sensorsReturn_of_sound hsound]
  exact moves_ite (.refl _) (moves_autostopTest (.refl _))

theorem becomeFailed_sensors_stale {s : State} (h : s.erc.sensor.state = .valid) : (becomeFailed .sensors s).erc.sensor.state = .stale := by
  have hstale : becomeFailed .sensors s = raiseFault (.deviceFailed .sensors) (stopDerateTimers (setRecordState .stale s)) := by
    unfold becomeFailed; simp only []; rw [if_pos ⟨trivial, h⟩]; rfl
  rw [hstale, raiseFault_erc]; rfl

theorem becomeFailed_sensors_derates (k : Derate) (s : State) :
    (becomeFailed .sensors s).nsp.derates.get k = ⟨(s.nsp.derates.get k).applied, none, none⟩ := by
  have hstopped (u : State) : (stopDerateTimers u).nsp.derates.get k = ⟨(u.nsp.derates.get k).applied, none, none⟩ := by cases k <;> rfl
  have hfails : (becomeFailed .sensors s).nsp
      = (stopDerateTimers (if Device.sensors = .sensors ∧ s.erc.sensor.state = .valid then setRecordState .stale s else s)).nsp :=
    raiseFault_nsp _ _
  rw [hfails, hstopped]; split <;> rfl

theorem sensors_thirdFailure {cmd : Instr} {tr : Transaction} {e : Ending} {s : State} (hends : EndsWith cmd tr e s)
    (hthird : ThirdFailure .sensors tr e s) :
    ∃ t, exec cmd s = .next t ∧ t.faultActive (.deviceFailed .sensors) = true
      ∧ (s.erc.sensor.state = .valid → t.erc.sensor.state = .stale)
      ∧ ∀ k, t.nsp.derates.get k = ⟨(s.nsp.derates.get k).applied, none, none⟩ := by
  obtain ⟨l, hexec⟩ := exec_ending hends
  obtain ⟨hdevice, htransport, hcount⟩ := hthird
  have hfailure := moves_sensorsFailure (s := setReplyLine l s) hdevice htransport (EndsWith.ne_inhibited hends) hcount
  have hended : ended tr e (setReplyLine l s) = clientActs tr e (setSlot tr.client .empty (healthStep tr e (setReplyLine l s))) := by
    unfold ended; rw [sensorStep_of_transport htransport, clientEnding_eq]
  have hfault := moves_keep_active (k := .deviceFailed .sensors) rfl hfailure (raiseFault_active _ _)
  have hrecord (hvalid : s.erc.sensor.state = .valid) : (healthStep tr e (setReplyLine l s)).erc.sensor.state = .stale := by
    rw [show (healthStep tr e (setReplyLine l s)).erc.sensor = _ from unmoved_sensor.moves hfailure]
    exact becomeFailed_sensors_stale hvalid
  have hderates (k : Derate) : (healthStep tr e (setReplyLine l s)).nsp.derates.get k = ⟨(s.nsp.derates.get k).applied, none, none⟩ := by
    rw [show (healthStep tr e (setReplyLine l s)).nsp.derates = _ from unmoved_derates.moves hfailure]
    exact becomeFailed_sensors_derates k _
  rw [hended] at hexec
  generalize healthStep tr e (setReplyLine l s) = h at hexec hfault hrecord hderates
  have hacts : Moves (setSlot tr.client .empty h) (react (setReplyLine l s) (clientActs tr e (setSlot tr.client .empty h))) :=
    moves_react (moves_clientActs tr e (by simp [setSlot, Slot.isEmpty]))
  have hsensor : (react (setReplyLine l s) (clientActs tr e (setSlot tr.client .empty h))).erc.sensor = h.erc.sensor :=
    (unmoved_sensor.moves hacts :)
  have hnsp : (react (setReplyLine l s) (clientActs tr e (setSlot tr.client .empty h))).nsp.derates = h.nsp.derates :=
    (unmoved_derates.moves hacts :)
  have hstands := moves_keep_active (k := .deviceFailed .sensors) rfl hacts hfault
  generalize react (setReplyLine l s) (clientActs tr e (setSlot tr.client .empty h)) = t at hexec hsensor hnsp hstands
  refine ⟨_, hexec, (faultActive_of_fcl (enterIdle_fcl t) _).trans hstands, fun hvalid => ?_, fun k => ?_⟩
  · rw [(enterIdle_kept_erc t).2.2.2, hsensor, hrecord hvalid]
  · rw [enterIdle_nsp, hnsp, hderates k]

/-! ## Every device -/

/-- What the third failure of a device in a row brings. -/
theorem thirdFailure_acts {cmd : Instr} {d : Device} {tr : Transaction} {e : Ending} {s : State} (hends : EndsWith cmd tr e s)
    (hthird : ThirdFailure d tr e s) :
    ∃ t, exec cmd s = .next t ∧ t.faultActive (.deviceFailed d) = true
      ∧ (d = .governor → s.ssq.engine ≠ .stopped → s.ssq.engine ≠ .shutdown → s.ssq.engine ≠ .lockedOut →
          s.lmn.silence = false → t.ssq.engine = .shutdown ∧ t.ssq.stopReason = .manual ∧ t.ssq.fuelOrder = false
            ∧ (s.erc.slots.protect = .empty → ProtectiveOrdersWait (protectiveOrders s) s t))
      ∧ (d = .starter → s.ssq.releasePending = true →
          t.faultActive .starterStuck = true ∧ t.ssq.engine = .lockedOut ∧ t.ssq.fuelOrder = false
            ∧ t.ssq.releasePending = true)
      ∧ (d = .load → s.ssq.engine = .running → 0 < s.nsp.completed ∨ s.nsp.step ≠ none → UrgentUnload s t)
      ∧ (d = .sensors → (s.erc.sensor.state = .valid → t.erc.sensor.state = .stale)
          ∧ ∀ k, t.nsp.derates.get k = ⟨(s.nsp.derates.get k).applied, none, none⟩) := by
  have hactive : ∃ t, exec cmd s = .next t ∧ t.faultActive (.deviceFailed d) = true := by
    by_cases hd : d = .sensors
    · subst hd
      obtain ⟨t, hexec, hfault, -⟩ := sensors_thirdFailure hends hthird
      exact ⟨t, hexec, hfault⟩
    · exact thirdFailure_active hends hthird hd
  obtain ⟨t, hexec, hfault⟩ := hactive
  have hsame {u : State} (hu : exec cmd s = .next u) : u = t := by rw [hexec] at hu; cases hu; rfl
  refine ⟨t, hexec, hfault, ?_, ?_, ?_, ?_⟩
  · rintro rfl hs hd hl hturning
    obtain ⟨u, hu, hdown⟩ := governor_thirdFailure hends hthird hs hd hl hturning
    rw [← hsame hu]; exact hdown
  · rintro rfl hpending
    obtain ⟨u, hu, hstuck⟩ := starter_thirdFailure hends hthird hpending
    rw [← hsame hu]; exact hstuck
  · rintro rfl he hdue
    obtain ⟨u, hu, hunload⟩ := load_thirdFailure hends hthird he hdue
    rw [← hsame hu]; exact hunload
  · rintro rfl
    obtain ⟨u, hu, -, hstale, hderates⟩ := sensors_thirdFailure hends hthird
    rw [← hsame hu]; exact ⟨hstale, hderates⟩

end Sys2Proof.Machine
end

section
/-! What a reaction leaves of the orders that wait, and the answer to the starter's release (R149, R153). -/

namespace Sys2Proof.Machine

/-! ## The orders that wait, through the decisions -/

/-- The lists and what is pending stand, but for what the decisions add; without CRANKING no release is added. -/
structure OrdersStand (s u : State) : Prop where
  uncranked : u.ssq.engine ≠ .cranking
  releasePending : u.ssq.releasePending = s.ssq.releasePending
  protList : u.ssq.protList = s.ssq.protList
  urgentList : u.nsp.urgentList = s.nsp.urgentList
  protect : u.erc.slots.protect = s.erc.slots.protect
  waits : ∀ o, o ≠ .run → o ≠ .status → Waits o s → Waits o u
  owed : s.nsp.governorOwed = false → u.nsp.governorOwed = false
  outer : u.outer = s.outer

theorem OrdersStand.trans {a b c : State} (h : OrdersStand a b) (g : OrdersStand b c) : OrdersStand a c where
  uncranked := g.uncranked
  releasePending := g.releasePending.trans h.releasePending
  protList := g.protList.trans h.protList
  urgentList := g.urgentList.trans h.urgentList
  protect := g.protect.trans h.protect
  waits o hr hs hw := g.waits o hr hs (h.waits o hr hs hw)
  owed ho := g.owed (h.owed ho)
  outer := g.outer.trans h.outer

theorem OrdersStand.refl {s : State} (h : s.ssq.engine ≠ .cranking) : OrdersStand s s :=
  ⟨h, rfl, rfl, rfl, rfl, fun _ _ _ hw => hw, fun ho => ho, rfl⟩

/-- What leaves the lists, the slots and the Notch Stepper leaves the orders. -/
theorem ordersStand_of_same {s u : State} (h : s.ssq.engine ≠ .cranking) (hengine : u.ssq.engine = s.ssq.engine)
    (hlists : u.ssq.releasePending = s.ssq.releasePending ∧ u.ssq.protList = s.ssq.protList ∧ u.ssq.seqList = s.ssq.seqList)
    (hnsp : u.nsp.urgentList = s.nsp.urgentList ∧ u.nsp.governorOwed = s.nsp.governorOwed) (herc : u.erc = s.erc)
    (houter : u.outer = s.outer) : OrdersStand s u where
  uncranked := by rw [hengine]; exact h
  releasePending := hlists.1
  protList := hlists.2.1
  urgentList := hnsp.1
  protect := by rw [herc]
  waits _ _ _ hw := Waits.of_same hw hlists.2.2 (by rw [herc])
  owed ho := hnsp.2.trans ho
  outer := houter

theorem enter_owed {n : EngineState} {s : State} (h : s.nsp.governorOwed = false) : (enter n s).nsp.governorOwed = false := by
  have hleave : (nspOnLeave s.ssq.engine n s).nsp.governorOwed = false := by
    unfold nspOnLeave; repeat' split
    · rw [endWatch_nsp]; exact h
    · rw [endWatch_nsp]
    · rw [endWatch_nsp]
    · exact h
  by_cases hn : n = .running
  · subst hn; rw [enterRunning_nsp]; exact hleave
  · rw [enter_nsp_of_ne hn]; exact hleave

variable {s : State}

theorem ordersStand_enter {n : EngineState} (hn : n ≠ .cranking) : OrdersStand s (enter n s) where
  uncranked := by rw [engine_enter]; exact hn
  releasePending := enter_releasePending n s
  protList := enter_protList n s
  urgentList := enter_urgentList n s
  protect := (kept_enter n s).slots .protect (by decide)
  waits _ _ _ hw := Waits.enter hw n
  owed := enter_owed
  outer := (kept_enter n s).outer

theorem ordersStand_setReason (r : StopReason) (h : s.ssq.engine ≠ .cranking) : OrdersStand s (setReason r s) :=
  ordersStand_of_same h rfl ⟨rfl, rfl, rfl⟩ ⟨rfl, rfl⟩ rfl rfl

theorem ordersStand_addSeq {o : Order} (ho : o ≠ .disengage) (h : s.ssq.engine ≠ .cranking) : OrdersStand s (addSeq o s) := by
  have hpending : (addSeq o s).ssq.releasePending = s.ssq.releasePending := by
    unfold addSeq; split
    · rfl
    · cases o <;> first | rfl | exact absurd rfl ho
  have hwaits (k : Order) (hr : k ≠ .run) (hs : k ≠ .status) (hw : Waits k s) : Waits k (addSeq o s) :=
    Waits.addSeq hw (fun hd => absurd hd ho) fun _ => ⟨hr, hs⟩
  obtain ⟨l, r, hadd⟩ := addSeq_eq o s
  rw [hadd] at hpending hwaits ⊢
  exact ⟨h, hpending, rfl, rfl, rfl, hwaits, fun howed => howed, rfl⟩

theorem ordersStand_raise (k : FaultKind) (h : s.ssq.engine ≠ .cranking) : OrdersStand s (raiseFault k s) := by
  rw [raiseFault_eq]; exact ordersStand_of_same h rfl ⟨rfl, rfl, rfl⟩ ⟨rfl, rfl⟩ rfl rfl

theorem ordersStand_upkept (h : s.ssq.engine ≠ .cranking) : OrdersStand s (upkept s) := by
  obtain ⟨x, hx⟩ := upkept_nsp s
  refine ordersStand_of_same h (by rw [upkept_ssq]) ?_ ?_ (upkept_erc s) (outer_upkept s)
  · rw [upkept_ssq]; exact ⟨rfl, rfl, rfl⟩
  · rw [hx]; exact ⟨rfl, rfl⟩

theorem ordersStand_idleUpkeep (h : s.ssq.engine ≠ .cranking) : OrdersStand s (idleUpkeep s) := by
  obtain ⟨x, y, hs⟩ := idleUpkeep_eq s
  rw [hs]; exact ordersStand_of_same h rfl ⟨rfl, rfl, rfl⟩ ⟨rfl, rfl⟩ rfl rfl

/-- A branch of a decision that enters a state and gives its reason. -/
theorem ordersStand_enterReason {n : EngineState} (hn : n ≠ .cranking) (r : StopReason) : OrdersStand s (setReason r (enter n s)) :=
  (ordersStand_enter hn).trans (ordersStand_setReason r (ordersStand_enter hn).uncranked)

theorem ordersStand_ite {c : Prop} [Decidable c] {u : State} (h : s.ssq.engine ≠ .cranking) (hu : OrdersStand s u) :
    OrdersStand s (if c then u else s) := by
  split
  · exact hu
  · exact .refl h

theorem ordersStand_stopToCooldown (h : s.ssq.engine ≠ .cranking) : OrdersStand s (stopToCooldown s) := by
  unfold stopToCooldown; exact ordersStand_ite h (ordersStand_enterReason (by decide) .manual)

theorem ordersStand_startRequest (h : s.ssq.engine ≠ .cranking) : OrdersStand s (startRequest s) := by
  unfold startRequest; split
  · split
    · exact ordersStand_enter (by decide)
    · exact ordersStand_raise .startRefused h
  · exact ordersStand_enterReason (by decide) .manual
  · exact .refl h

theorem ordersStand_triggerTest (h : s.ssq.engine ≠ .cranking) : OrdersStand s (triggerTest s) := by
  unfold triggerTest; split
  · split
    · exact ordersStand_startRequest h
    · exact ordersStand_enterReason (by decide) .manual
    · exact .refl h
  · exact .refl h

theorem ordersStand_clashTest (h : s.ssq.engine ≠ .cranking) : OrdersStand s (clashTest s) := by
  unfold clashTest; split
  · have hcounted : OrdersStand s { s with cpa := { s.cpa with permitClash := sat16 s.cpa.permitClash } } :=
      ordersStand_of_same h rfl ⟨rfl, rfl, rfl⟩ ⟨rfl, rfl⟩ rfl rfl
    unfold yieldPermit; simp only []; split
    · exact (hcounted.trans (ordersStand_addSeq (by decide) hcounted.uncranked)).trans (ordersStand_enter (by decide))
    next hc => exact absurd hc h
    · exact hcounted
  · exact .refl h

theorem ordersStand_grantTest (h : s.ssq.engine ≠ .cranking) : OrdersStand s (grantTest s) := by
  unfold grantTest; split
  · have hentered : OrdersStand s (enter .prelube s) := ordersStand_enter (by decide)
    exact hentered.trans (ordersStand_addSeq (by decide) hentered.uncranked)
  · exact .refl h

theorem ordersStand_contention (h : s.ssq.engine ≠ .cranking) : OrdersStand s (contention s) := by
  unfold contention; split
  · split
    · exact ordersStand_enterReason (by decide) .manual
    · exact .refl h
  · exact .refl h

theorem ordersStand_autostopTest (h : s.ssq.engine ≠ .cranking) : OrdersStand s (autostopTest s) := by
  unfold autostopTest; split
  · exact ordersStand_enterReason (by decide) .auto
  · exact .refl h

theorem ordersStand_decideBlocks (old : State) (h : s.ssq.engine ≠ .cranking) : OrdersStand s (decideBlocks old s) :=
  decideBlocks_keep (P := OrdersStand s) (fun _ hu => hu.trans (ordersStand_upkept hu.uncranked))
    (fun _ hu => hu.trans (ordersStand_idleUpkeep hu.uncranked)) (fun _ hu => hu.trans (ordersStand_stopToCooldown hu.uncranked))
    (fun _ hu => hu.trans (ordersStand_triggerTest hu.uncranked)) (fun _ hu => hu.trans (ordersStand_clashTest hu.uncranked))
    (fun _ hu => hu.trans (ordersStand_grantTest hu.uncranked)) (fun _ hu => hu.trans (ordersStand_contention hu.uncranked))
    (fun _ hu => hu.trans (ordersStand_autostopTest hu.uncranked)) old (.refl h)

end Sys2Proof.Machine
end

section
/-! The answer to the starter's release, and the ends of the urgent unload's orders (R116, R153). -/

namespace Sys2Proof.Machine

/-! ## What a reaction to an ending leaves of the orders -/

/-- What a reaction leaves of what waits, whatever the engine state. -/
structure OrdersLeft (s u : State) : Prop where
  releasePending : u.ssq.releasePending = s.ssq.releasePending
  protList : u.ssq.protList = s.ssq.protList
  urgentList : u.nsp.urgentList = s.nsp.urgentList
  protect : u.erc.slots.protect = s.erc.slots.protect
  waits : ∀ o, o ≠ .run → o ≠ .status → Waits o s → Waits o u
  owed : s.nsp.governorOwed = false → u.nsp.governorOwed = false
  outer : u.outer = s.outer
  ready : s.estop = false → u.estop = false

theorem OrdersStand.left {s u : State} (h : OrdersStand s u) : OrdersLeft s u :=
  ⟨h.releasePending, h.protList, h.urgentList, h.protect, h.waits, h.owed, h.outer, fun hestop => (estop_of_outer h.outer).trans hestop⟩

/-- In CRANKING nothing is decided while the table stands; elsewhere no decision touches what waits. -/
theorem ordersLeft_decideBlocks {old s : State} (htable : s.table = old.table) (hengine : s.ssq.engine = old.ssq.engine) :
    OrdersLeft s (decideBlocks old s) := by
  by_cases hc : s.ssq.engine = .cranking
  · obtain ⟨x, hx⟩ := upkept_nsp s
    have hstill : clashTrigger old (upkept s) = false :=
      clashTrigger_of_same ((upkept_table s).trans htable) (by rw [upkept_ssq, hengine])
    rw [decideBlocks_of_unyielding (Or.inr hc) (Or.inl hstill)]
    refine ⟨by rw [upkept_ssq], by rw [upkept_ssq], by rw [hx], by rw [upkept_erc], fun o _ _ hw => ?_, fun ho => by rw [hx]; exact ho,
      outer_upkept s, fun he => (upkept_estop s).trans he⟩
    exact Waits.of_same hw (by rw [upkept_ssq]) (by rw [upkept_erc])
  · exact (ordersStand_decideBlocks old hc).left

theorem stepTest_lists (s : State) : (stepTest s).nsp.urgentList = s.nsp.urgentList ∧ (stepTest s).nsp.governorOwed = s.nsp.governorOwed := by
  have hpost (r : Request) (u : State) : (post .notch r u).nsp = u.nsp := by rw [post_nsp]
  rcases stepTest_cases s with ⟨-, hs⟩ | ⟨-, hs⟩ | ⟨-, hs⟩ | ⟨-, -, -, hs⟩ <;> rw [hs]
  · unfold startUp; simp only []; split
    · exact ⟨rfl, rfl⟩
    · rw [postSpeed, hpost]; exact ⟨rfl, rfl⟩
  · unfold startDown; simp only []; split
    · exact ⟨rfl, rfl⟩
    · rw [postLoad, hpost]; exact ⟨rfl, rfl⟩
  · unfold startRetry; simp only []; split
    · exact ⟨rfl, rfl⟩
    · rw [postSpeed, hpost]; exact ⟨rfl, rfl⟩
  · exact ⟨rfl, rfl⟩

theorem postOrders_lists (old : State) {s : State} (hestop : s.estop = false) :
    (postOrders old s).nsp.urgentList = (pumpProtect s).nsp.urgentList ∧ (postOrders old s).nsp.governorOwed = s.nsp.governorOwed := by
  obtain ⟨l, hl⟩ := pumpProtect_nsp s
  have hpumped : (pumpSequence (pumpProtect s)).nsp = (pumpProtect s).nsp := (pumpSequence_leaves (pumpProtect_ready (Or.inl hestop))).1
  have howed : (pumpProtect s).nsp.governorOwed = s.nsp.governorOwed := by rw [hl]
  unfold postOrders; simp only []; split
  · rw [(stepTest_lists _).1, (stepTest_lists _).2, hpumped]; exact ⟨rfl, howed⟩
  · rw [hpumped]; exact ⟨rfl, howed⟩

section
variable {old s : State} (htable : s.table = old.table) (hengine : s.ssq.engine = old.ssq.engine) (hestop : s.estop = false)
include htable hengine hestop

/-- A reaction to an ending is the posting of the orders after decisions that leave them. -/
theorem react_as_posting : ∃ d, react old s = postOrders old d ∧ OrdersLeft s d ∧ d.estop = false :=
  have hleft := ordersLeft_decideBlocks htable hengine
  ⟨decideBlocks old s, rfl, hleft, hleft.ready hestop⟩

theorem react_release : (react old s).ssq.releasePending = s.ssq.releasePending
    ∧ (∀ o, o ≠ .run → o ≠ .status → Waits o s → Waits o (react old s)) := by
  obtain ⟨d, hreact, hleft, hready⟩ := react_as_posting htable hengine hestop
  have hposted := posted_postOrders old (Or.inl hready)
  rw [hreact]
  refine ⟨?_, fun o hr hs hw => hposted.waits hready o (hleft.waits o hr hs hw)⟩
  rw [hposted.ssq]; exact hleft.releasePending

/-- The first order of the protective list is posted to the PROTECT slot where it is free. -/
theorem react_posts_protective {o : Order} {rest : List Order} (hslot : s.erc.slots.protect = .empty)
    (hlist : s.ssq.protList = o :: rest) (ho : o ≠ .setSpeed) :
    (react old s).erc.slots.protect.request = some ⟨o, 0, .ssq⟩ := by
  obtain ⟨d, hreact, hleft, hready⟩ := react_as_posting htable hengine hestop
  obtain ⟨x, hpump, hx⟩ := pumpProtect_of_prot (hleft.protect.trans hslot) (hleft.protList.trans hlist)
  rw [hreact, (postOrders_protect (Or.inl hready) old).1, hpump, hx ho]
  exact post_request .protect _ _

/-- The next order of the urgent unload is posted where no protective order waits. -/
theorem react_posts_urgent {o : Order} {rest : List Order} (hslot : s.erc.slots.protect = .empty) (hlist : s.ssq.protList = [])
    (hurgent : s.nsp.urgentList = o :: rest) :
    (react old s).erc.slots.protect.request = some ⟨o, s.listArg o, .nsp⟩ ∧ (react old s).nsp.urgentList = rest := by
  obtain ⟨d, hreact, hleft, hready⟩ := react_as_posting htable hengine hestop
  have harg : d.listArg o = s.listArg o := by
    unfold State.listArg State.row State.engineClass; rw [mpt_of_outer hleft.outer]
  rw [hreact, (postOrders_protect (Or.inl hready) old).1, (postOrders_lists old hready).1,
    pumpProtect_of_urgent (hleft.protect.trans hslot) (hleft.protList.trans hlist) (hleft.urgentList.trans hurgent), harg, post_nsp]
  exact ⟨post_request .protect _ _, rfl⟩

theorem react_owed (howed : s.nsp.governorOwed = false) : (react old s).nsp.governorOwed = false := by
  obtain ⟨d, hreact, hleft, hready⟩ := react_as_posting htable hengine hestop
  rw [hreact, (postOrders_lists old hready).2]; exact hleft.owed howed

end

/-! ## A reaction with nothing to decide -/

/-- While table, position, link, claim and reading stand, and no stop is in progress, the engine state stands. -/
structure Undisturbed (old s : State) : Prop where
  table : s.table = old.table
  lmn : s.lmn = old.lmn
  mpt : s.mpt = old.mpt
  holds : s.cpa.holds = old.cpa.holds
  claim : s.cpa.claim = old.cpa.claim
  reading : s.nsp.reading = old.nsp.reading
  engine : s.ssq.engine = old.ssq.engine
  clc : s.clc = old.clc
  settled : LinkSettled s

theorem Undisturbed.upkept_clc {old s : State} (h : Undisturbed old s) : (upkept s).clc = old.clc :=
  (moves_clc_of_settled (moves_upkept s) h.settled).trans h.clc

theorem grantTrigger_of_undisturbed {old s : State} (h : Undisturbed old s) : grantTrigger old (upkept s) = false := by
  have houter := outer_upkept s
  have htable : (upkept s).table = old.table := (table_of_outer houter).trans h.table
  have hmpt : (upkept s).mpt = old.mpt := (mpt_of_outer houter).trans h.mpt
  have hlmn : (upkept s).lmn = old.lmn := (lmn_of_outer houter).trans h.lmn
  have hholds : (upkept s).cpa.holds = old.cpa.holds := (holds_of_outer houter).trans h.holds
  have hclaim : (upkept s).cpa.claim = old.cpa.claim := by rw [upkept_cpa]; exact h.claim
  have hengine : (upkept s).ssq.engine = old.ssq.engine := by rw [upkept_ssq]; exact h.engine
  have hclc := h.upkept_clc
  generalize upkept s = u at htable hmpt hlmn hholds hclaim hengine hclc
  have hown : u.ownPosition = old.ownPosition := by unfold State.ownPosition; rw [hmpt]
  have hlist : u.claimList = old.claimList := by
    unfold State.claimList State.ownClaim State.peerClaims State.others State.entry; rw [hown, hclaim, htable]
  have huse : u.permitInUse = old.permitInUse := by
    unfold State.permitInUse State.holdRunning State.others State.entry; rw [hown, htable, hholds]
  have hestop : u.estop = old.estop := by unfold State.estop; rw [hlmn]
  unfold grantTrigger
  simp only [hengine, hclc, hlist, huse, hestop, ne_eq, not_true_eq_false, decide_false, Bool.or_self]

theorem engine_idleUpkeep (s : State) : (idleUpkeep s).ssq.engine = s.ssq.engine := by
  obtain ⟨x, y, hx⟩ := idleUpkeep_ssq s
  rw [hx]

/-- In RUNNING the clock of the autostop alone is kept up. -/
theorem decideBlocks_of_undisturbed {old s : State} (h : Undisturbed old s) (he : s.ssq.engine = .running)
    (hstop : s.ssq.stopInProgress = false) : decideBlocks old s = idleUpkeep (upkept s) := by
  have hengine : (idleUpkeep (upkept s)).ssq.engine = .running := by rw [engine_idleUpkeep, upkept_ssq]; exact he
  have hclear : (idleUpkeep (upkept s)).ssq.stopInProgress = false := by
    obtain ⟨x, y, hx⟩ := idleUpkeep_ssq (upkept s)
    rw [hx, upkept_ssq]; exact hstop
  have htrigger : autostopTrigger old (idleUpkeep (upkept s)) = false := by
    obtain ⟨x, y, hx⟩ := idleUpkeep_eq (upkept s)
    have htable : (idleUpkeep (upkept s)).table = old.table := by rw [hx]; exact (upkept_table s).trans h.table
    have hmpt : (idleUpkeep (upkept s)).mpt = old.mpt := by rw [hx]; exact (upkept_mpt s).trans h.mpt
    have hclc : (idleUpkeep (upkept s)).clc = old.clc := by rw [hx]; exact h.upkept_clc
    unfold autostopTrigger
    simp only [runningNow_of_same htable hmpt, cooldownSeen_of_same htable hmpt, hclc, ne_eq, not_true_eq_false, decide_false,
      Bool.or_self]
  rw [decideBlocks_eq]
  generalize idleUpkeep (upkept s) = u at hengine hclear htrigger
  simp only [stopToCooldown_of_clear hclear]
  rw [ite_test (triggerTest_of_ne (s := u) (by rw [hengine]; decide) (by rw [hengine]; decide)),
    ite_test (clashTest_of_ne (s := u) (by rw [hengine]; decide) (by rw [hengine]; decide)),
    ite_test (grantTest_of_ne (s := u) (by rw [hengine]; decide)), ite_test (contention_of_ne (s := u) (by rw [hengine]; decide)),
    htrigger]
  rfl

theorem react_engine_of_undisturbed {old s : State} (h : Undisturbed old s) (hestop : s.estop = false)
    (hstop : s.ssq.stopInProgress = false) : (react old s).ssq.engine = s.ssq.engine := by
  have hposted {d : State} (hd : decideBlocks old s = d) (hengine : d.ssq.engine = s.ssq.engine) (hc : s.ssq.engine ≠ .cranking) :
      (react old s).ssq.engine = s.ssq.engine := by
    unfold react; rw [hd]
    exact (posted_postOrders old (Or.inr (by rw [hengine]; exact hc))).engine.trans hengine
  cases he : s.ssq.engine with
  | shutdown => rw [← he]; exact (react_of_calm old (.of_engine (Or.inl he))).engine
  | lockedOut => rw [← he]; exact (react_of_calm old (.of_engine (Or.inr (Or.inl he)))).engine
  | crankRest => rw [← he]; exact (react_of_calm old (.of_engine (Or.inr (Or.inr (Or.inl he))))).engine
  | firing => rw [← he]; exact (react_of_calm old (.of_engine (Or.inr (Or.inr (Or.inr (Or.inl he)))))).engine
  | idleWarm => rw [← he]; exact (react_of_calm old (.of_engine (Or.inr (Or.inr (Or.inr (Or.inr he)))))).engine
  | prelube => rw [← he]; exact (react_of_still (Or.inl he) h.table h.engine).engine
  | cranking => rw [← he]; exact (react_of_still (Or.inr ⟨he, hestop⟩) h.table h.engine).engine
  | stopped => rw [← he]; exact (react_of_waiting (Or.inl he) h.table h.mpt h.reading).engine
  | cooldown => rw [← he]; exact (react_of_waiting (Or.inr he) h.table h.mpt h.reading).engine
  | claiming =>
    have hdecided : decideBlocks old s = upkept s := by
      rw [decideBlocks_of_claiming old he, grantTrigger_of_undisturbed h]; rfl
    rw [← he]; exact hposted hdecided (by rw [upkept_ssq]) (by rw [he]; decide)
  | running =>
    rw [← he]; exact hposted (decideBlocks_of_undisturbed h he hstop) (by rw [engine_idleUpkeep, upkept_ssq]) (by rw [he]; decide)

/-! ## The answer to the release (R153) -/

theorem clientActs_release {tr : Transaction} (h : releasesStarter tr) {e : Ending} (he : e.transport = false) (s : State) :
    clientActs tr e s = disengageAnswered e s := by
  obtain ⟨horder, hclient | ⟨hclient, hproducer⟩⟩ := h
  · rw [clientActs_sequence hclient, horder]; unfold seqEnding; simp only [he, Bool.false_eq_true, if_false]
  · unfold clientActs; rw [hclient]; simp only [hproducer]
    unfold protEnding; rw [if_pos horder, he]; rfl

/-- Without a third failure the client of another order than READ acts on the state before, its slot freed. -/
theorem exec_ending_freed {cmd : Instr} {tr : Transaction} {e : Ending} {s : State} (hends : EndsWith cmd tr e s)
    (hnone : NoFailure tr e s) (hd : tr.request.order ≠ .read) :
    ∃ l v, exec cmd s = .next (enterIdle (react (setReplyLine l s) (clientActs tr e v)))
      ∧ Freed tr.client tr.request.order.device s v := by
  obtain ⟨l, hexec⟩ := exec_ending hends
  rw [ended_of_other hd] at hexec
  exact ⟨l, _, hexec, freed_of_noFailure hnone (fun h => hd (Order.device_eq_sensors.mp h)) l⟩

/-- The starter released (R153). -/
def released (s : State) : State := { s with ssq := { s.ssq with releasePending := false } }

section
variable {cmd : Instr} {tr : Transaction} {e : Ending} {s : State} (hends : EndsWith cmd tr e s) (hnone : NoFailure tr e s)
  (hrelease : releasesStarter tr)
include hends hnone hrelease

theorem exec_release : ∃ l v, exec cmd s = .next (enterIdle (react (setReplyLine l s) (clientActs tr e v)))
    ∧ Freed tr.client .starter s v := by
  have horder := hrelease.1
  obtain ⟨l, v, hexec, hfreed⟩ := exec_ending_freed hends hnone (by rw [horder]; decide)
  rw [horder] at hfreed
  exact ⟨l, v, hexec, hfreed⟩

theorem release_accepted (hestop : s.estop = false) (he : e.accepted = true) :
    ∃ t, exec cmd s = .next t ∧ t.ssq.releasePending = false := by
  obtain ⟨l, v, hexec, hfreed⟩ := exec_release hends hnone hrelease
  have hacts : clientActs tr e v = released v := by
    cases e with
    | accept => rw [clientActs_release hrelease rfl]; rfl
    | _ => cases he
  have hkept := (react_release (old := setReplyLine l s) (s := released v) (table_of_outer hfreed.outer :)
    (congrArg Ssq.engine hfreed.ssq :) (hfreed.estop.trans hestop)).1
  rw [hacts] at hexec
  refine ⟨_, hexec, ?_⟩
  rw [enterIdle_ssq, hkept]; rfl

theorem release_refused {c : ExcCode} (he : e = .exception c) : ∃ t, exec cmd s = .next t ∧ t.faultActive .starterStuck = true
    ∧ t.ssq.engine = .lockedOut ∧ t.ssq.fuelOrder = false ∧ t.ssq.releasePending = s.ssq.releasePending
    ∧ (tr.client = .sequence → s.erc.slots.protect = .empty → ProtectiveOrdersWait (stuckOrders s) s t) := by
  subst he
  obtain ⟨l, v, hexec, hfreed⟩ := exec_release hends hnone hrelease
  have hacts : clientActs tr (.exception c) v = starterStuck v := clientActs_release hrelease rfl v
  have hstuck := stuck_starterStuck v
  rw [hacts] at hexec
  generalize starterStuck v = u at hexec hstuck
  have hcalm : Calm u := .of_engine (Or.inr (Or.inl hstuck.engine))
  have hreact := react_of_calm (setReplyLine l s) hcalm
  have horders : stuckOrders v = stuckOrders s := by unfold stuckOrders; rw [hfreed.ssq]
  refine ⟨_, hexec, ?_, ?_, ?_, ?_, fun hclient hempty => ?_⟩
  · rw [faultActive_of_fcl (enterIdle_fcl _), hreact.faults _ (by decide), hstuck.fault]
  · rw [enterIdle_ssq, hreact.engine, hstuck.engine]
  · rw [enterIdle_ssq, hreact.fuelOrder, hstuck.fuelOrder]
  · rw [enterIdle_ssq, hreact.ssq, ← hfreed.ssq]; exact hstuck.releasePending
  · have hslot : u.erc.slots.protect = s.erc.slots.protect := by rw [hstuck.protect, hfreed.slots, hclient]; rfl
    refine ordersWait_enterIdle hempty (ordersWait_of_list ?_ _ hcalm hslot (hstuck.protList.trans horders) hstuck.urgentList)
    unfold stuckOrders; split <;> decide

end

/-- A transport ending asks the starter again (R153). -/
theorem clientActs_unanswered {tr : Transaction} (h : releasesStarter tr) {e : Ending} (he : e.transport = true) (s : State) :
    (tr.client = .sequence ∧ clientActs tr e s = addSeq .disengage s) ∨ (tr.client = .protect ∧ clientActs tr e s = addProtDisengage s) := by
  obtain ⟨horder, hclient | ⟨hclient, hproducer⟩⟩ := h
  · refine Or.inl ⟨hclient, ?_⟩
    rw [clientActs_sequence hclient, horder]; exact if_pos he
  · refine Or.inr ⟨hclient, ?_⟩
    unfold clientActs; rw [hclient]; simp only [hproducer]
    unfold protEnding; rw [if_pos horder, if_pos he]

/-- What asking again leaves. -/
structure AskedAgain (s u : State) : Prop where
  releasePending : u.ssq.releasePending = true
  engine : u.ssq.engine = s.ssq.engine
  stopInProgress : u.ssq.stopInProgress = s.ssq.stopInProgress
  nsp : u.nsp = s.nsp
  cpa : u.cpa = s.cpa
  clc : u.clc = s.clc
  outer : u.outer = s.outer

theorem askedAgain_addSeq {s : State} (hestop : s.estop = false) : AskedAgain s (addSeq .disengage s) := by
  have hpending : (addSeq .disengage s).ssq.releasePending = true := by unfold addSeq; rw [hestop]; rfl
  obtain ⟨l, r, hadd⟩ := addSeq_eq .disengage s
  rw [hadd] at hpending ⊢
  exact ⟨hpending, rfl, rfl, rfl, rfl, rfl, rfl⟩

theorem askedAgain_addProtDisengage (s : State) : AskedAgain s (addProtDisengage s) := ⟨rfl, rfl, rfl, rfl, rfl, rfl, rfl⟩

theorem release_unanswered {cmd : Instr} {tr : Transaction} {e : Ending} {s : State} (hends : EndsWith cmd tr e s)
    (hnone : NoFailure tr e s) (hrelease : releasesStarter tr) (hestop : s.estop = false) (he : e.transport = true) :
    ∃ t, exec cmd s = .next t ∧ t.ssq.releasePending = true
      ∧ (s.ssq.stopInProgress = false → linkUpdate s = s → t.ssq.engine = s.ssq.engine)
      ∧ (tr.client = .sequence → t.seqHas .disengage = true)
      ∧ (tr.client = .protect → s.ssq.protList = [] → t.erc.slots.protect.request = some ⟨.disengage, 0, .ssq⟩) := by
  obtain ⟨l, v, hexec, hfreed⟩ := exec_release hends hnone hrelease
  have hready : v.estop = false := hfreed.estop.trans hestop
  have hasked : AskedAgain v (clientActs tr e v) := by
    rcases clientActs_unanswered hrelease he v with ⟨-, h⟩ | ⟨-, h⟩ <;> rw [h]
    · exact askedAgain_addSeq hready
    · exact askedAgain_addProtDisengage v
  have hwaits (hclient : tr.client = .sequence) : Waits .disengage (clientActs tr e v) := by
    rcases clientActs_unanswered hrelease he v with ⟨-, h⟩ | ⟨hother, -⟩
    · rw [h]; exact waits_addSeq hready
    · rw [hclient] at hother; cases hother
  have hlist (hclient : tr.client = .protect) (hempty : s.ssq.protList = []) :
      (clientActs tr e v).ssq.protList = [.disengage] ∧ (clientActs tr e v).erc.slots.protect = .empty := by
    rcases clientActs_unanswered hrelease he v with ⟨hother, -⟩ | ⟨-, h⟩
    · rw [hclient] at hother; cases hother
    · rw [h]
      refine ⟨?_, by rw [show (addProtDisengage v).erc = v.erc from rfl, hfreed.slots, hclient]; rfl⟩
      show (if v.ssq.protList.contains .disengage then v.ssq.protList else .disengage :: v.ssq.protList) = _
      rw [hfreed.ssq, hempty]; rfl
  generalize clientActs tr e v = u at hexec hasked hwaits hlist
  have houter : u.outer = (setReplyLine l s).outer := hasked.outer.trans hfreed.outer
  have htable : u.table = (setReplyLine l s).table := table_of_outer houter
  have hengine : u.ssq.engine = (setReplyLine l s).ssq.engine := hasked.engine.trans (by rw [hfreed.ssq]; rfl)
  have hcalm : u.estop = false := (estop_of_outer houter).trans hestop
  obtain ⟨hpending, hkept⟩ := react_release htable hengine hcalm
  refine ⟨_, hexec, ?_, fun hstop hlink => ?_, fun hclient => ?_, fun hclient hempty => ?_⟩
  · rw [enterIdle_ssq, hpending, hasked.releasePending]
  · have hclc : u.clc = s.clc := hasked.clc.trans hfreed.clc
    have hsettled : LinkSettled s := by
      rw [linkUpdate_eq] at hlink
      exact congrArg (fun s : State => s.clc.linkState) hlink
    have hundisturbed : Undisturbed (setReplyLine l s) u :=
      ⟨htable, lmn_of_outer houter, mpt_of_outer houter, holds_of_outer houter, by rw [hasked.cpa, hfreed.cpa]; rfl,
        by rw [hasked.nsp, hfreed.nsp]; rfl, hengine, hclc, hsettled.of_clc hclc (houter.trans rfl)⟩
    rw [enterIdle_ssq, react_engine_of_undisturbed hundisturbed hcalm (by rw [hasked.stopInProgress, hfreed.ssq]; exact hstop), hengine]
    rfl
  · exact waits_iff.mp (waits_enterIdle (hkept _ (by decide) (by decide) (hwaits hclient)))
  · obtain ⟨hlist', hslot⟩ := hlist hclient hempty
    exact (enterIdle_request .protect _).trans (react_posts_protective htable hengine hcalm hslot hlist' (by decide))

end Sys2Proof.Machine
end

section
/-! The end of a step's order, and of the urgent unload's orders (R110 to R116, R120). -/

namespace Sys2Proof.Machine

/-! ## No step starts while one is in progress or has just ended -/

theorem upDwell_pos (n : Nat) : 0 < upDwell n := by unfold upDwell; split_ifs <;> decide

theorem dwellReached_of_fresh {s : State} (h : s.nsp.dwell = some 0) {ms : Nat} (hms : 0 < ms) : s.dwellReached ms = false := by
  unfold State.dwellReached; rw [h]; exact decide_eq_false (Nat.not_le.mpr hms)

theorem stepTest_of_fresh {s : State} (h : s.nsp.dwell = some 0) : stepTest s = s := by
  have hup : s.upStepDue = false := by
    unfold State.upStepDue; rw [dwellReached_of_fresh h (upDwell_pos _)]; simp only [Bool.and_false, Bool.false_and]
  have hdown : s.downStepDue = false := by
    unfold State.downStepDue; rw [dwellReached_of_fresh h (by decide), Bool.and_false]
  have hretry : s.retryDue = false := by
    unfold State.retryDue State.retryDwellReached; rw [dwellReached_of_fresh h (by decide), h]; exact Bool.and_false _
  rcases stepTest_cases s with ⟨hs, -⟩ | ⟨hs, -⟩ | ⟨hs, -⟩ | ⟨-, -, -, hs⟩
  · rw [hup] at hs; cases hs
  · rw [hdown] at hs; cases hs
  · rw [hretry] at hs; cases hs
  · exact hs

theorem stepTest_of_stepping {s : State} (h : s.nsp.step ≠ none) : stepTest s = s :=
  stepTest_of_busy (by
    have hsome : s.nsp.step.isNone = false := by
      cases hs : s.nsp.step with
      | none => exact absurd hs h
      | some x => rfl
    unfold State.freeToStep; rw [hsome]; rfl)

/-- A step in progress, or one just ended. -/
def Between (s : State) : Prop := s.nsp.dwell = some 0 ∨ s.nsp.step ≠ none

theorem stepTest_of_between {s : State} (h : Between s) : stepTest s = s := h.elim stepTest_of_fresh stepTest_of_stepping

/-- In RUNNING a reaction between steps leaves the Notch Stepper, but for the list of the unload and the clock of the disagreement. -/
theorem react_of_between (old : State) {s : State} (he : s.ssq.engine = .running) (hstop : s.ssq.stopInProgress = false)
    (hidle : s.ssq.idleElapsed = false) (h : Between s) :
    (∃ l y, (react old s).nsp = { s.nsp with urgentList := l, disagreeTimer := y })
      ∧ (react old s).erc.slots.notch = s.erc.slots.notch := by
  obtain ⟨x, hdecided⟩ := decideBlocks_of_running old he hstop hidle
  obtain ⟨y, hy⟩ := upkept_nsp s
  have hnsp : (setIdle x (upkept s)).nsp = { s.nsp with disagreeTimer := y } := hy
  have herc : (setIdle x (upkept s)).erc = s.erc := upkept_erc s
  have hengine : (setIdle x (upkept s)).ssq.engine ≠ .cranking := by
    show (upkept s).ssq.engine ≠ _
    rw [upkept_ssq, he]; decide
  unfold react; rw [hdecided]
  generalize setIdle x (upkept s) = d at hnsp herc hengine
  obtain ⟨l, hl⟩ := pumpProtect_nsp d
  obtain ⟨hpumped, -, hslots⟩ := pumpSequence_leaves (pumpProtect_ready (Or.inr hengine))
  have hnotch : (pumpSequence (pumpProtect d)).erc.slots.notch = s.erc.slots.notch := by
    rw [← herc]; exact (hslots .notch (by decide)).trans (pumpProtect_slots_ne (c := .notch) (by decide) d)
  have hbetween : Between (pumpSequence (pumpProtect d)) := by
    unfold Between; rw [hpumped, hl, hnsp]; exact h
  have hkept : postOrders old d = pumpSequence (pumpProtect d) := by
    unfold postOrders; simp only []; exact ite_test (stepTest_of_between hbetween)
  rw [hkept]
  exact ⟨⟨l, y, by rw [hpumped, hl, hnsp]⟩, hnotch⟩

/-! ## What an ending makes of the step in progress -/

theorem notchEnding_of_step {x : Step} {s : State} (h : s.nsp.step = some x) (e : Ending) : notchEnding e s
    = match x.direction, x.phase with
      | .up, .first => endUpFirst x e.accepted s
      | .up, .second => if x.restoring then endRestore e.accepted s else endUpSecond x e.accepted s
      | .down, .first => endDownFirst x e.accepted s
      | .down, .second => endDownSecond x e.accepted s
      | .retry, _ => endRetry x e.accepted s := by
  unfold notchEnding; rw [h] <;> rfl

section
variable {x : Step} {s : State}

theorem posted_notch (r : Request) (u : State) : (post .notch r u).nsp = u.nsp ∧ (post .notch r u).erc.slots.notch.request = some r :=
  ⟨by rw [post_nsp], post_request .notch r u⟩

theorem endUpFirst_accepted (hestop : s.estop = false) :
    endUpFirst x true s = postLoad x.toNotch (setStep (some { x with phase := .second }) (setOwed false s)) := by
  unfold endUpFirst; simp only [if_true]
  rw [if_neg (by rw [show (setStep (some { x with phase := .second }) (setOwed false s)).estop = s.estop from rfl, hestop]; decide)]

theorem endUpSecond_refused (hestop : s.estop = false) :
    endUpSecond x false s = postSpeed x.fromNotch (setStep (some { x with restoring := true }) s) := by
  unfold endUpSecond; simp only [Bool.false_eq_true, if_false]
  rw [if_neg (by rw [show (setStep (some { x with restoring := true }) s).estop = s.estop from rfl, hestop]; decide)]

theorem endDownFirst_accepted (hestop : s.estop = false) :
    endDownFirst x true s = postSpeed x.toNotch (setStep (some { x with phase := .second }) s) := by
  unfold endDownFirst; simp only [if_true]
  rw [if_neg (by rw [show (setStep (some { x with phase := .second }) s).estop = s.estop from rfl, hestop]; decide)]

/-- The end of a step's order, before the reaction (R110 to R116). -/
theorem stepEnds_notchEnding (e : Ending) (hstep : s.nsp.step = some x) (hestop : s.estop = false) :
    StepEnds x e.accepted s (notchEnding e s) ∧ Between (notchEnding e s) := by
  rw [notchEnding_of_step hstep]
  obtain ⟨direction, fromNotch, toNotch, phase, restoring⟩ := x
  generalize e.accepted = ok
  unfold StepEnds Between
  cases direction with
  | up =>
    cases phase with
    | first =>
      cases ok with
      | true =>
        obtain ⟨hnsp, hslot⟩ := posted_notch ⟨.setLoad, BitVec.ofNat 16 toNotch, .nsp⟩
          (setStep (some ⟨.up, fromNotch, toNotch, .second, restoring⟩) (setOwed false s))
        simp only [endUpFirst_accepted hestop]; unfold postLoad; rw [hnsp]
        exact ⟨⟨⟨rfl, hslot, rfl⟩, rfl⟩, Or.inr (fun h => nomatch h)⟩
      | false => exact ⟨⟨⟨rfl, rfl, rfl, rfl⟩, rfl⟩, Or.inl rfl⟩
    | second =>
      cases restoring with
      | true => exact ⟨⟨⟨rfl, rfl, rfl, rfl⟩, rfl⟩, Or.inl rfl⟩
      | false =>
        cases ok with
        | true => exact ⟨⟨⟨rfl, rfl, rfl, rfl⟩, rfl⟩, Or.inl rfl⟩
        | false =>
          obtain ⟨hnsp, hslot⟩ := posted_notch ⟨.setSpeed, BitVec.ofNat 16 (s.notchSpeed fromNotch), .nsp⟩
            (setStep (some ⟨.up, fromNotch, toNotch, .second, true⟩) s)
          simp only [endUpSecond_refused hestop, Bool.false_eq_true, if_false]; unfold postSpeed
          rw [show (setStep (some ⟨.up, fromNotch, toNotch, .second, true⟩) s).notchSpeed fromNotch = s.notchSpeed fromNotch from rfl, hnsp]
          exact ⟨⟨rfl, hslot, rfl⟩, Or.inr (fun h => nomatch h)⟩
  | down =>
    cases phase with
    | first =>
      cases ok with
      | true =>
        obtain ⟨hnsp, hslot⟩ := posted_notch ⟨.setSpeed, BitVec.ofNat 16 (s.notchSpeed toNotch), .nsp⟩
          (setStep (some ⟨.down, fromNotch, toNotch, .second, restoring⟩) s)
        simp only [endDownFirst_accepted hestop]; unfold postSpeed
        rw [show (setStep (some ⟨.down, fromNotch, toNotch, .second, restoring⟩) s).notchSpeed toNotch = s.notchSpeed toNotch from rfl, hnsp]
        exact ⟨⟨rfl, hslot, rfl⟩, Or.inr (fun h => nomatch h)⟩
      | false => exact ⟨⟨⟨rfl, rfl, rfl, rfl⟩, rfl⟩, Or.inl rfl⟩
    | second => cases ok <;> exact ⟨⟨⟨rfl, rfl, rfl, rfl⟩, rfl⟩, Or.inl rfl⟩
  | retry => cases ok <;> exact ⟨⟨⟨rfl, rfl, rfl, rfl⟩, rfl⟩, Or.inl rfl⟩

end

/-! ## Through the reaction -/

/-- Of the state before, a step's end reads the Notch Stepper and the class; of the state after, the Notch Stepper and the slot. -/
theorem stepEnds_of_same {x : Step} {ok : Bool} {s s' t t' : State} (hnsp : s'.nsp = s.nsp) (hmpt : s'.mpt = s.mpt)
    (hafter : ∃ l y, t'.nsp = { t.nsp with urgentList := l, disagreeTimer := y })
    (hslot : t'.erc.slots.notch.request = t.erc.slots.notch.request) (h : StepEnds x ok s t) : StepEnds x ok s' t' := by
  obtain ⟨l, y, hafter⟩ := hafter
  have hspeed (n : Nat) : s'.notchSpeed n = s.notchSpeed n := by unfold State.notchSpeed State.row State.engineClass; rw [hmpt]
  unfold StepEnds at h ⊢
  simp only [hnsp, hslot, hspeed, hafter] at h ⊢
  exact h

theorem step_ends {cmd : Instr} {tr : Transaction} {e : Ending} {x : Step} {s : State} (hends : EndsWith cmd tr e s)
    (hnone : NoFailure tr e s) (hclient : tr.client = .notch) (horder : tr.request.order = .setSpeed ∨ tr.request.order = .setLoad)
    (hstep : s.nsp.step = some x) (he : s.ssq.engine = .running) (hstop : s.ssq.stopInProgress = false)
    (hidle : s.ssq.idleElapsed = false) (hestop : s.estop = false) : ∃ t, exec cmd s = .next t ∧ StepEnds x e.accepted s t := by
  obtain ⟨l, v, hexec, hfreed⟩ := exec_ending_freed hends hnone (by rcases horder with h | h <;> rw [h] <;> decide)
  have hacts : clientActs tr e v = notchEnding e v := by unfold clientActs; rw [hclient]
  obtain ⟨hended, hbetween⟩ := stepEnds_notchEnding (s := v) e (by rw [hfreed.nsp]; exact hstep) (hfreed.estop.trans hestop)
  have honly := notchOnly_notchEnding e v
  rw [hacts] at hexec
  generalize notchEnding e v = u at hexec hended hbetween honly
  have hssq : u.ssq = s.ssq := honly.ssq.trans hfreed.ssq
  obtain ⟨hnsp, hnotch⟩ := react_of_between (setReplyLine l s) (by rw [hssq]; exact he) (by rw [hssq]; exact hstop)
    (by rw [hssq]; exact hidle) hbetween
  generalize react (setReplyLine l s) u = t at hexec hnsp hnotch
  refine ⟨_, hexec, stepEnds_of_same hfreed.nsp.symm (mpt_of_outer hfreed.outer).symm ?_ ?_ hended⟩
  · rw [enterIdle_nsp]; exact hnsp
  · exact (enterIdle_request .notch t).trans (congrArg Slot.request hnotch)

/-! ## The urgent unload's orders (R116) -/

section
variable {cmd : Instr} {tr : Transaction} {e : Ending} {s : State} (hends : EndsWith cmd tr e s) (hnone : NoFailure tr e s)
  (hclient : tr.client = .protect) (hproducer : tr.request.producer = .nsp)
include hends hnone hclient hproducer

omit hends hnone in
theorem clientActs_urgent (v : State) : clientActs tr e v = unloadEnding tr.request.order e v := by
  unfold clientActs; rw [hclient]; simp only [hproducer]

theorem unload_ends (hestop : s.estop = false) (hlist : s.ssq.protList = []) (horder : tr.request.order = .unload)
    (hurgent : s.nsp.urgentList = [.setSpeed]) : ∃ t, exec cmd s = .next t ∧ t.nsp.urgentList = []
      ∧ t.erc.slots.protect.request = some ⟨.setSpeed, BitVec.ofNat 16 s.row.idle, .nsp⟩ := by
  obtain ⟨l, v, hexec, hfreed⟩ := exec_ending_freed hends hnone (by rw [horder]; decide)
  have hacts : clientActs tr e v = v := by rw [clientActs_urgent hclient hproducer, horder]; rfl
  have hslot : v.erc.slots.protect = .empty := by rw [hfreed.slots, hclient]; rfl
  have harg : v.listArg .setSpeed = BitVec.ofNat 16 s.row.idle := by
    unfold State.listArg State.row State.engineClass; rw [mpt_of_outer hfreed.outer]; rfl
  obtain ⟨hrequest, hrest⟩ := react_posts_urgent (old := setReplyLine l s) (s := v) (table_of_outer hfreed.outer :)
    (congrArg Ssq.engine hfreed.ssq :) (hfreed.estop.trans hestop) hslot (by rw [hfreed.ssq]; exact hlist)
    (by rw [hfreed.nsp]; exact hurgent)
  rw [harg] at hrequest
  rw [hacts] at hexec
  refine ⟨_, hexec, ?_, (enterIdle_request .protect _).trans hrequest⟩
  rw [enterIdle_nsp, hrest]

theorem idleSpeed_accepted (hestop : s.estop = false) (horder : tr.request.order = .setSpeed) (he : e.accepted = true) :
    ∃ t, exec cmd s = .next t ∧ t.nsp.governorOwed = false := by
  obtain ⟨l, v, hexec, hfreed⟩ := exec_ending_freed hends hnone (by rw [horder]; decide)
  have hacts : clientActs tr e v = setOwed false v := by
    rw [clientActs_urgent hclient hproducer, horder]; unfold unloadEnding; rw [he]; rfl
  have howed := react_owed (old := setReplyLine l s) (s := setOwed false v) (table_of_outer hfreed.outer :)
    (congrArg Ssq.engine hfreed.ssq :) (hfreed.estop.trans hestop) rfl
  rw [hacts] at hexec
  refine ⟨_, hexec, ?_⟩
  rw [enterIdle_nsp, howed]

end

/-- Settles O45: every ending through its health step, its client, the reaction and the grant; the parts are lemmas above. -/
theorem transactionsEndWithTheirHealth : Obligations.TransactionsEndWithTheirHealth := by
  refine ⟨fun cmd tr e s hends => ending_accounts hends,
    fun cmd tr d0 d1 d2 s hends hclient hread hoil he hturning => read_oilLow hends hclient hread hoil he hturning,
    fun cmd d tr e s hends hthird => thirdFailure_acts hends hthird,
    fun cmd tr e s hends hnone hrelease hestop => ⟨fun he => release_accepted hends hnone hrelease hestop he,
      fun c he => release_refused hends hnone hrelease he, fun he => release_unanswered hends hnone hrelease hestop he⟩,
    fun cmd tr e x s hends hnone hclient horder hstep he hstop hidle hestop =>
      step_ends hends hnone hclient horder hstep he hstop hidle hestop,
    fun cmd tr e s hends hnone hclient hproducer hestop hlist =>
      ⟨fun horder hurgent => unload_ends hends hnone hclient hproducer hestop hlist horder hurgent,
        fun horder he => idleSpeed_accepted hends hnone hclient hproducer hestop horder he⟩⟩

end Sys2Proof.Machine
end

section
/-! A clash of two permits and the yielding of one (R66, R67). -/

namespace Sys2Proof.Machine

/-! ## The clash and its ruling -/

theorem liveOrStale_iff {e : Entry} : e.liveOrStale = true ↔ e.state = .live ∨ e.state = .stale := by
  simp [Entry.liveOrStale]

theorem holdsPermit_iff {e : EngineState} : e.holdsPermit = true ↔ e = .prelube ∨ e = .cranking ∨ e = .firing := by
  cases e <;> simp [EngineState.holdsPermit]

theorem mem_clashingPeers {s : State} {p : Fin 8} : p ∈ s.clashingPeers ↔ clashesWith s p := by
  unfold State.clashingPeers State.others clashesWith
  rw [allPositions_eq]
  simp only [List.mem_filter, List.mem_finRange, true_and, decide_eq_true_eq, Bool.and_eq_true, liveOrStale_iff, holdsPermit_iff]

theorem inClash_iff {s : State} :
    s.inClash = true ↔ (s.ssq.engine = .prelube ∨ s.ssq.engine = .cranking) ∧ ∃ p, clashesWith s p := by
  have hpeers : (!s.clashingPeers.isEmpty) = true ↔ ∃ p, clashesWith s p := by
    simp only [Bool.not_eq_true', List.isEmpty_eq_false_iff_exists_mem, mem_clashingPeers]
  unfold State.inClash
  rw [Bool.and_eq_true, hpeers, Bool.or_eq_true, decide_eq_true_eq, decide_eq_true_eq]

theorem laterThan_iff {own p : Fin 8} {a : Nat} {s : State} (hown : s.ownPosition = some own) (hclaim : s.cpa.claim = some a) :
    s.laterThan p = true ↔ ranksLater own a s p := by
  unfold State.laterThan ranksLater
  rw [hown, hclaim]
  cases (s.entry p).claim with
  | none => exact decide_eq_true_iff
  | some b =>
    show ClaimMember.earlier ⟨b, p⟩ ⟨a, own⟩ = true ↔ _
    rw [earlier_iff]; unfold ClaimBefore
    exact or_congr_right (and_congr_left fun _ => eq_comm)

theorem mustYield_iff {own : Fin 8} {a : Nat} {s : State} (hown : s.ownPosition = some own) (hclaim : s.cpa.claim = some a) :
    s.mustYield = true ↔ ∃ p, clashesWith s p ∧ ((s.entry p).engine = .firing ∨ ranksLater own a s p) := by
  unfold State.mustYield
  simp only [Bool.or_eq_true, List.any_eq_true, mem_clashingPeers, decide_eq_true_eq, laterThan_iff hown hclaim]
  constructor
  · rintro (⟨p, hp, hf⟩ | ⟨p, hp, hf⟩)
    · exact ⟨p, hp, Or.inl hf⟩
    · exact ⟨p, hp, Or.inr hf⟩
  · rintro ⟨p, hp, hf | hf⟩
    · exact Or.inl ⟨p, hp, hf⟩
    · exact Or.inr ⟨p, hp, hf⟩

/-! ## The yield -/

/-- The yield counted (R67). -/
def yieldCounted (s : State) : State := { s with cpa := { s.cpa with permitClash := sat16 s.cpa.permitClash } }

section
variable {s : State} (hclash : s.inClash = true) (hyield : s.mustYield = true)
include hclash hyield

theorem clashTest_prelube (he : s.ssq.engine = .prelube) : clashTest s = enter .claiming (addSeq .stop (yieldCounted s)) := by
  rw [clashTest_of_yield hclash hyield]; unfold yieldPermit; simp only [he]; rfl

theorem clashTest_cranking (he : s.ssq.engine = .cranking) : clashTest s = enterCrankRest (addSeq .disengage (yieldCounted s)) := by
  rw [clashTest_of_yield hclash hyield]; unfold yieldPermit; simp only [he]; rfl

theorem yield_prelube (he : s.ssq.engine = .prelube) : (clashTest s).ssq.engine = .claiming ∧ (clashTest s).cpa.claim = s.cpa.claim
    ∧ (clashTest s).cpa.permitClash = min 65535 (s.cpa.permitClash + 1) ∧ (clashTest s).outer = s.outer
    ∧ (s.estop = false → Waits .stop (clashTest s)) := by
  rw [clashTest_prelube hclash hyield he]
  have hwaits (hestop : s.estop = false) : Waits .stop (addSeq .stop (yieldCounted s)) := waits_addSeq hestop
  obtain ⟨l, r, hadd⟩ := addSeq_eq .stop (yieldCounted s)
  rw [hadd] at hwaits ⊢
  refine ⟨engine_enter _ _, ?_, ?_, (kept_enter _ _).outer, fun hestop => Waits.enter (hwaits hestop) .claiming⟩
  · rw [enter_claim]
    show claimOnEnter s.ssq.engine .claiming s.cpa.claim = _
    rw [he]; rfl
  · rw [enter_cpa]; rfl

omit hclash hyield in
/-- CRANK_REST takes the claim and the fuel away, and stops the pump where it is held. -/
theorem enterCrankRest_view : (enterCrankRest s).ssq.engine = .crankRest ∧ (enterCrankRest s).cpa.claim = none
    ∧ (enterCrankRest s).ssq.fuelOrder = false ∧ (enterCrankRest s).ssq.attempts = s.ssq.attempts
    ∧ (enterCrankRest s).ssq.rest = some 30000
    ∧ (s.estop = false → s.ssq.pumpHeld = true → Waits .stop (enterCrankRest s)) := by
  have hssq := enter_ssq_of_ne (n := .crankRest) (by decide) s
  have hclaim : (enter .crankRest s).cpa.claim = none := enter_claim .crankRest s
  have hfuel : (enter .crankRest s).ssq.fuelOrder = false := (enter_fuelOrder .crankRest s).trans (Bool.and_false _)
  have hstop (hestop : s.estop = false) (hheld : s.ssq.pumpHeld = true) : Waits .stop (addStopIfHeld (enter .crankRest s)) :=
    waits_addStopIfHeld ((kept_enter .crankRest s).estop.trans hestop) ((enter_pumpHeld .crankRest s).trans hheld)
  have hattempts : (enter .crankRest s).ssq.attempts = s.ssq.attempts := enter_attempts (by decide) (by decide) s
  have hrest : (enter .crankRest s).ssq.rest = some 30000 := by rw [hssq]; rfl
  have hengine := engine_enter .crankRest s
  unfold enterCrankRest
  generalize enter .crankRest s = w at hclaim hfuel hstop hattempts hrest hengine
  obtain ⟨l, r, hadd⟩ := addStopIfHeld_eq w
  rw [hadd] at hstop ⊢
  exact ⟨hengine, hclaim, hfuel, hattempts, hrest, hstop⟩

theorem yield_cranking (he : s.ssq.engine = .cranking) : (clashTest s).ssq.engine = .crankRest ∧ (clashTest s).cpa.claim = none
    ∧ (clashTest s).fuelRun = false ∧ (clashTest s).ssq.attempts = s.ssq.attempts ∧ (clashTest s).ssq.rest = some 30000
    ∧ (s.estop = false → Waits .disengage (clashTest s) ∧ (s.ssq.pumpHeld = true → Waits .stop (clashTest s))) := by
  have hwaits (hestop : s.estop = false) : Waits .disengage (addSeq .disengage (yieldCounted s)) := waits_addSeq hestop
  obtain ⟨l, r, hadd⟩ := addSeq_eq .disengage (yieldCounted s)
  have hssq : (addSeq .disengage (yieldCounted s)).ssq = { s.ssq with seqList := l, releasePending := r } := by rw [hadd]; rfl
  have hestop' : (addSeq .disengage (yieldCounted s)).estop = s.estop := by rw [hadd]; rfl
  rw [clashTest_cranking hclash hyield he]
  generalize addSeq .disengage (yieldCounted s) = w at hwaits hssq hestop'
  obtain ⟨hengine, hclaim, hfuel, hattempts, hrest, hstop⟩ := enterCrankRest_view (s := w)
  refine ⟨hengine, hclaim, ?_, by rw [hattempts, hssq], hrest, fun hestop => ⟨?_, fun hheld => ?_⟩⟩
  · unfold State.fuelRun; rw [hfuel]; rfl
  · exact Waits.enterCrankRest (hwaits hestop) (by decide)
  · exact hstop (hestop'.trans hestop) (by rw [hssq]; exact hheld)

end

end Sys2Proof.Machine
end

section
/-! A record that shows a clash: one yield, counted once (R66, R67). -/

namespace Sys2Proof.Machine

/-! ## A peer that holds the permit keeps the claim ungranted -/

theorem permitInUse_of_clash {s : State} {p : Fin 8} (h : clashesWith s p) : s.permitInUse = true := by
  obtain ⟨hown, hstate, hengine⟩ := h
  have hmem : p ∈ s.others := by
    unfold State.others; rw [allPositions_eq]; simpa using hown
  have hpeer : s.others.any (fun p => (s.entry p).liveOrStale && (s.entry p).engine.holdsPermit) = true :=
    List.any_eq_true.mpr ⟨p, hmem, by rw [liveOrStale_iff.mpr hstate, holdsPermit_iff.mpr hengine]; rfl⟩
  unfold State.permitInUse; rw [hpeer]; rfl

theorem grantTest_of_use {s : State} (h : s.permitInUse = true) : grantTest s = s := by
  have hnot : s.permitConditions = false := by
    unfold State.permitConditions; rw [h]; simp only [Bool.not_true, Bool.and_false, Bool.false_and]
  unfold grantTest; rw [hnot, Bool.and_false]; rfl

theorem clashesWith_of_outer {s u : State} (h : u.outer = s.outer) {p : Fin 8} (hp : clashesWith s p) : clashesWith u p := by
  unfold clashesWith State.ownPosition State.entry at hp ⊢
  rw [mpt_of_outer h, table_of_outer h]; exact hp

/-- While a peer holds the permit the claim stands ungranted. -/
theorem react_of_claimed (old : State) {s : State} {p : Fin 8} (he : s.ssq.engine = .claiming) (hp : clashesWith s p) :
    Undecided s (react old s) := by
  have hdecided : decideBlocks old s = upkept s := by
    rw [decideBlocks_of_claiming old he]
    exact ite_test (grantTest_of_use (permitInUse_of_clash (clashesWith_of_outer (outer_upkept s) hp)))
  unfold react; rw [hdecided]
  exact (undecided_upkept s).trans (posted_postOrders old (Or.inr (by rw [upkept_ssq, he]; decide))).undecided

/-! ## After the yield -/

/-- The permit given up, `n` yields counted. -/
structure GivenBack (n : Nat) (c : Option Nat) (s : State) : Prop where
  engine : s.ssq.engine = .claiming
  claim : s.cpa.claim = c
  count : s.cpa.permitClash = n

/-- A table with one entry written, and its phantom hold ended. -/
def entered (p : Fin 8) (e : Entry) (s : State) : State := endHold p (setEntry p e s)

theorem entered_entry (p : Fin 8) (e : Entry) (s : State) : (entered p e s).entry p = e := entry_setEntry p e s

theorem entered_clash_ne {p q : Fin 8} (hq : q ≠ p) {e : Entry} {s : State} (h : clashesWith s q) : clashesWith (entered p e s) q := by
  have hentry : (entered p e s).entry q = s.entry q := entry_setEntry_ne hq e s
  unfold clashesWith at h ⊢
  rw [hentry]; exact h

theorem refreshEntry_eq (p : Fin 8) (e : Entry) (s : State) : refreshEntry p e s = react s (clashTest (entered p e s)) := rfl

section
variable {n : Nat} {c : Option Nat}

theorem GivenBack.refreshed {s : State} (h : GivenBack n c s) {p q : Fin 8} {e : Entry} (hq : clashesWith (entered p e s) q) :
    GivenBack n c (refreshEntry p e s) := by
  have he : (entered p e s).ssq.engine = .claiming := h.engine
  have hclaim : (entered p e s).cpa.claim = c ∧ (entered p e s).cpa.permitClash = n := ⟨h.claim, h.count⟩
  rw [refreshEntry_eq, clashTest_of_ne (by rw [he]; decide) (by rw [he]; decide)]
  generalize entered p e s = w at he hclaim hq
  have hreact := react_of_claimed s he hq
  exact ⟨hreact.engine.trans he, by rw [hreact.cpa, hclaim.1], by rw [hreact.cpa, hclaim.2]⟩

/-- The direct sender's own clash outlasts the relays of its record. -/
theorem GivenBack.relayed {v : Fin 8} (ms : List Summary) {s : State} (h : GivenBack n c s) (hv : clashesWith s v) :
    GivenBack n c (relayedRefreshes v ms s) := by
  induction ms generalizing s with
  | nil => exact h
  | cons m ms ih =>
    have hnext : GivenBack n c (relayedRefresh v m s) ∧ clashesWith (relayedRefresh v m s) v := by
      have hown : (relayedRefresh v m s).ownPosition = s.ownPosition := (handed_relayedRefresh v m s).ownPosition
      have hentry : (relayedRefresh v m s).entry v = s.entry v := relayedRefresh_origin
      refine ⟨?_, by unfold clashesWith at hv ⊢; rw [hown, hentry]; exact hv⟩
      unfold relayedRefresh; split
      · exact h
      next hnot =>
        simp only []; split
        · exact h.refreshed (entered_clash_ne (fun he => hnot (Or.inr he.symm)) hv)
        · exact h
    exact ih hnext.1 hnext.2

end

end Sys2Proof.Machine
end

section
/-! The records that make the own unit yield (R66, R67; log entry 10). -/

namespace Sys2Proof.Machine

/-! ## One refresh in PRELUBE -/

theorem mustYield_of_firing {s : State} {p : Fin 8} (h : clashesWith s p) (hf : (s.entry p).engine = .firing) : s.mustYield = true := by
  have hany : s.clashingPeers.any (fun p => decide ((s.entry p).engine = .firing)) = true :=
    List.any_eq_true.mpr ⟨p, mem_clashingPeers.mpr h, decide_eq_true hf⟩
  unfold State.mustYield; rw [hany]; rfl

theorem exists_clash_of_mustYield {s : State} (h : s.mustYield = true) : ∃ p, clashesWith s p := by
  unfold State.mustYield at h
  rw [Bool.or_eq_true, List.any_eq_true, List.any_eq_true] at h
  rcases h with ⟨p, hp, -⟩ | ⟨p, hp, -⟩ <;> exact ⟨p, mem_clashingPeers.mp hp⟩

section
variable {s : State} (he : s.ssq.engine = .prelube)
include he

theorem givenBack_of_yield (old : State) {p : Fin 8} (hp : clashesWith s p) (hyield : s.mustYield = true) :
    GivenBack (min 65535 (s.cpa.permitClash + 1)) s.cpa.claim (react old (clashTest s))
      ∧ clashesWith (react old (clashTest s)) p := by
  obtain ⟨hengine, hclaim, hcount, houter, -⟩ := yield_prelube (inClash_iff.mpr ⟨Or.inl he, p, hp⟩) hyield he
  generalize clashTest s = u at hengine hclaim hcount houter
  have hreact := react_of_claimed old hengine (clashesWith_of_outer houter hp)
  exact ⟨⟨hreact.engine.trans hengine, by rw [hreact.cpa, hclaim], by rw [hreact.cpa, hcount]⟩,
    clashesWith_of_outer (hreact.outer.trans houter) hp⟩

/-- A refresh in PRELUBE yields once, or leaves PRELUBE and the count. -/
theorem refresh_prelube (old : State) : (∃ c, GivenBack (min 65535 (s.cpa.permitClash + 1)) c (react old (clashTest s)))
    ∨ ((react old (clashTest s)).ssq.engine = .prelube ∧ (react old (clashTest s)).cpa.permitClash = s.cpa.permitClash) := by
  cases hyield : s.mustYield with
  | true =>
    obtain ⟨p, hp⟩ := exists_clash_of_mustYield hyield
    exact Or.inl ⟨_, (givenBack_of_yield he old hp hyield).1⟩
  | false =>
    have hkeep : (upkept s).mustYield = false := (mustYield_of_same (outer_upkept s) (by rw [upkept_cpa])).trans hyield
    have hreact := react_of_unyielding (old := old) (Or.inl he) (Or.inr (clashTest_of_keep hkeep))
    rw [clashTest_of_keep hyield]
    exact Or.inr ⟨hreact.engine.trans he, by rw [hreact.cpa]⟩

end

theorem react_claiming_count (old : State) {s : State} (he : s.ssq.engine = .claiming) :
    (react old s).cpa.permitClash = s.cpa.permitClash := by
  have hgrant (u : State) : (grantTest u).cpa.permitClash = u.cpa.permitClash := by
    unfold grantTest; split
    · obtain ⟨l, r, hadd⟩ := addSeq_eq .run (enter .prelube u)
      unfold grantPermit; rw [hadd]
      show (enter .prelube u).cpa.permitClash = _
      rw [enter_cpa]
    · rfl
  have hdecided : (decideBlocks old s).cpa.permitClash = s.cpa.permitClash := by
    rw [decideBlocks_of_claiming old he]; split
    · rw [hgrant, upkept_cpa]
    · rw [upkept_cpa]
  have hcalm : (decideBlocks old s).ssq.engine ≠ .cranking := (decideBlocks_claims old (Or.inl he)).1.not_cranking
  unfold react
  rw [(posted_postOrders old (Or.inr hcalm)).cpa]; exact hdecided

/-! ## The record as a whole -/

theorem length_parseSummaries (n : Nat) (bs : List Byte) : (parseSummaries n bs).length = n := by
  induction n generalizing bs with
  | zero => rfl
  | succ n ih => exact congrArg (· + 1) (ih _)

/-- A record tells two relays at most. -/
theorem summaries_le_two {ws : List WireOctet} {r : Record} (h : acceptRecord ws = some r) : r.summaries.length ≤ 2 := by
  have hpass : PassesTests ws := by
    by_contra hnot
    rw [(acceptRecord_none_iff ws).mpr hnot] at h; cases h
  obtain ⟨m, -, hlength, haccept⟩ := (passesTests_iff ws).mp hpass
  rw [haccept] at h
  obtain rfl := Option.some.inj h
  show (parseSummaries (relayCount (ws.map dataBits)) _).length ≤ 2
  rw [length_parseSummaries]
  unfold recordLengthOk at hlength
  cases m <;> simp only [Bool.and_eq_true, decide_eq_true_eq, beq_iff_eq] at hlength <;> omega

theorem ignoresLink_of_prelube {s : State} (he : s.ssq.engine = .prelube) : IgnoresLink s :=
  fun c => react_of_still (s := withClc c s) (Or.inl he) rfl rfl

section
variable {ws : List WireOctet} {r : Record} {c : Committed} {s : State} (hr : s.inReset = false) (hf : framed ws.length s)
  (ha : acceptRecord ws = some r) (hm : r.mark ≠ .check) (hd : r.deferred = true) (hc : s.mpt.committed = some c)
  (hp : c.position ≠ r.origin) (he : s.ssq.engine = .prelube)
include hr hf ha hm hd hc hp he

/-- The record comes to the entry of its origin in PRELUBE, with the claim and the count of before. -/
theorem exec_record_prelube : ∃ u, exec (.recordTaken ws) s
      = .next (relayedRefreshes r.origin r.summaries (react (tagCounted r u) (clashTest (refreshedBy r u))))
    ∧ (refreshedBy r u).ssq.engine = .prelube ∧ (refreshedBy r u).cpa.claim = s.cpa.claim
    ∧ (refreshedBy r u).cpa.permitClash = s.cpa.permitClash ∧ (refreshedBy r u).ownPosition = some c.position
    ∧ ((refreshedBy r u).entry r.origin).state = .live ∧ ((refreshedBy r u).entry r.origin).engine = r.contents.engine
    ∧ ∀ q, q ≠ r.origin → (refreshedBy r u).entry q = s.entry q := by
  have hquiet := quiet_counted (ignoresLink_of_prelube he)
  refine ⟨counted s, exec_otherRecord hr hf ha hm hd hc (Ne.symm hp), ?_⟩
  generalize counted s = u at hquiet
  obtain ⟨hclaim, hcount⟩ := refreshedBy_claim r u
  have hown : u.ownPosition = some c.position := by unfold State.ownPosition; rw [hquiet.mpt, hc]; rfl
  refine ⟨by rw [refreshedBy_ssq, hquiet.engine, he], by rw [hclaim, hquiet.cpa], by rw [hcount, hquiet.cpa],
    (refreshedBy_ownPosition r u).trans hown, by rw [refreshedBy_entry]; rfl, by rw [refreshedBy_entry]; rfl, fun q hq => ?_⟩
  rw [refreshedBy_entry_ne r u hq]; unfold State.entry; rw [hquiet.table]

theorem record_firing (hfiring : r.contents.engine = .firing) :
    ∃ t, exec (.recordTaken ws) s = .next t ∧ t.ssq.engine = .claiming ∧ t.cpa.claim = s.cpa.claim
      ∧ t.cpa.permitClash = min 65535 (s.cpa.permitClash + 1) := by
  obtain ⟨u, hexec, hengine, hclaim, hcount, hown, hlive, hpeer, -⟩ := exec_record_prelube hr hf ha hm hd hc hp he
  generalize refreshedBy r u = w at hexec hengine hclaim hcount hown hlive hpeer
  have hclash : clashesWith w r.origin :=
    ⟨by rw [hown]; exact fun h => hp (Option.some.inj h), Or.inl hlive, Or.inr (Or.inr (hpeer.trans hfiring))⟩
  obtain ⟨hgiven, hstands⟩ := givenBack_of_yield hengine (tagCounted r u) hclash (mustYield_of_firing hclash (hpeer.trans hfiring))
  have hend := hgiven.relayed r.summaries hstands
  exact ⟨_, hexec, hend.engine, hend.claim.trans hclaim, hend.count.trans (by rw [hcount])⟩

end

/-! ## A relayed clash -/

theorem stateOfAge_of_fresh {n : Nat} (h : n ≤ 49) : stateOfAge n = .live ∨ stateOfAge n = .stale := by
  unfold stateOfAge; split_ifs
  · exact Or.inl rfl
  · exact Or.inr rfl

/-- One more relay after the yield may grant the claim, but counts nothing. -/
theorem GivenBack.relay_counts {n : Nat} {c : Option Nat} {s : State} (h : GivenBack n c s) (v : Fin 8) (m : Summary) :
    (relayedRefresh v m s).cpa.permitClash = n := by
  rcases relayedRefresh_cases v m s with hs | hs <;> rw [hs]
  · exact h.count
  · have hengine : (entered m.origin ((s.entry m.origin).relayed v m) s).ssq.engine = .claiming := h.engine
    have hcount : (entered m.origin ((s.entry m.origin).relayed v m) s).cpa.permitClash = n := h.count
    rw [refreshEntry_eq, clashTest_of_ne (by rw [hengine]; decide) (by rw [hengine]; decide)]
    exact (react_claiming_count s hengine).trans hcount

/-- A relay of a unit in FIRING that is applied: its entry shows the clash. -/
theorem relayed_clash {v own : Fin 8} {m : Summary} {s : State} (hown : s.ownPosition = some own) (hne : m.origin ≠ own)
    (hv : m.origin ≠ v) (hfiring : m.engine = .firing) (hage : m.age ≤ 48)
    (hpass : (s.entry m.origin).state = .absent ∨ m.age + 1 < (s.entry m.origin).age) : ∃ e, relayedRefresh v m s
      = refreshEntry m.origin e s ∧ clashesWith (entered m.origin e s) m.origin ∧ ((entered m.origin e s).entry m.origin).engine = .firing := by
  have hother : ¬ (s.ownPosition = some m.origin ∨ m.origin = v) := by
    rw [hown]; rintro (h | h)
    · exact hne (Option.some.inj h).symm
    · exact hv h
  have hpasses : (s.entry m.origin).passesAge m.age = true := by
    unfold Entry.passesAge; rw [Bool.or_eq_true, decide_eq_true_eq, decide_eq_true_eq]; exact hpass
  have hstate := stateOfAge_of_fresh (n := satAdd 63 m.age 1) (by rw [satAdd_eq]; omega)
  have hentry := entered_entry m.origin ((s.entry m.origin).relayed v m) s
  refine ⟨_, by unfold relayedRefresh; rw [if_neg hother]; exact if_pos hpasses, ⟨?_, ?_, ?_⟩, ?_⟩
  · show s.ownPosition ≠ _
    exact fun h => hother (Or.inl h)
  · rw [hentry]; exact hstate
  · rw [hentry]; exact Or.inr (Or.inr hfiring)
  · rw [hentry]; exact hfiring

theorem record_relayed {ws : List WireOctet} {r : Record} {c : Committed} {s : State} (hr : s.inReset = false)
    (hf : framed ws.length s) (ha : acceptRecord ws = some r) (hm : r.mark ≠ .check) (hd : r.deferred = true)
    (hc : s.mpt.committed = some c) (hp : c.position ≠ r.origin) (he : s.ssq.engine = .prelube) {m : Summary} {ms : List Summary}
    (hsum : r.summaries = m :: ms) (hown : m.origin ≠ c.position) (horigin : m.origin ≠ r.origin) (hfiring : m.engine = .firing)
    (hage : m.age ≤ 48) (hpass : (s.entry m.origin).state = .absent ∨ m.age + 1 < (s.entry m.origin).age) :
    ∃ t, exec (.recordTaken ws) s = .next t ∧ t.cpa.permitClash = min 65535 (s.cpa.permitClash + 1) := by
  obtain ⟨u, hexec, hengine, -, hcount, hposition, -, -, hothers⟩ := exec_record_prelube hr hf ha hm hd hc hp he
  have hlength := summaries_le_two ha
  have hfirst := refresh_prelube hengine (tagCounted r u)
  have houter : (react (tagCounted r u) (clashTest (refreshedBy r u))).outer = (refreshedBy r u).outer :=
    (outer_react _ _).trans (outer_clashTest _)
  have hown' : (react (tagCounted r u) (clashTest (refreshedBy r u))).ownPosition = some c.position := by
    rw [← hposition]; unfold State.ownPosition; rw [mpt_of_outer houter]
  have hentry : (react (tagCounted r u) (clashTest (refreshedBy r u))).entry m.origin = s.entry m.origin := by
    rw [← hothers m.origin horigin]; unfold State.entry; rw [table_of_outer houter]
  rw [hcount] at hfirst
  rw [hsum] at hexec hlength
  generalize react (tagCounted r u) (clashTest (refreshedBy r u)) = z at hexec hfirst hown' hentry
  obtain ⟨e, hrelay, hclash, hpeer⟩ := relayed_clash (v := r.origin) (m := m) hown' hown horigin hfiring hage (by rw [hentry]; exact hpass)
  have hgiven : ∃ c', GivenBack (min 65535 (s.cpa.permitClash + 1)) c' (relayedRefresh r.origin m z) := by
    rw [hrelay]
    rcases hfirst with ⟨c', hgiven⟩ | ⟨hstill, hsame⟩
    · exact ⟨c', hgiven.refreshed hclash⟩
    · have hengine' : (entered m.origin e z).ssq.engine = .prelube := hstill
      have hsame' : (entered m.origin e z).cpa.permitClash = s.cpa.permitClash := hsame
      have hyields := (givenBack_of_yield hengine' z hclash (mustYield_of_firing hclash hpeer)).1
      rw [hsame'] at hyields
      exact ⟨_, hyields⟩
  obtain ⟨c', hgiven⟩ := hgiven
  have hrest : relayedRefreshes r.origin (m :: ms) z = relayedRefreshes r.origin ms (relayedRefresh r.origin m z) := rfl
  rw [hrest] at hexec
  refine ⟨_, hexec, ?_⟩
  cases ms with
  | nil => exact hgiven.count
  | cons m' ms' =>
    obtain rfl : ms' = [] := List.eq_nil_of_length_eq_zero (by simp only [List.length_cons] at hlength; omega)
    exact hgiven.relay_counts r.origin m'

/-- Settles O23: the ruling and the yield from their lemmas; a record makes one yield, since a peer that holds the permit keeps the
claim ungranted, and two relays cannot both free the permit and show a new clash. -/
theorem yieldGivesThePermitUp : Obligations.YieldGivesThePermitUp := by
  refine ⟨fun s => inClash_iff, fun own a s hown hclaim => mustYield_iff hown hclaim, fun s hclash hyield => ⟨fun he => ?_, fun he => ?_⟩,
    fun ws r c s hr hf ha hm hd hc hp he => ⟨fun hfiring => record_firing hr hf ha hm hd hc hp he hfiring,
      fun m ms hsum hown horigin hfiring hage hpass =>
        record_relayed hr hf ha hm hd hc hp he hsum hown horigin hfiring hage hpass⟩⟩
  · obtain ⟨hengine, hclaim, -, -, hwaits⟩ := yield_prelube hclash hyield he
    exact ⟨hengine, hclaim, hwaits⟩
  · exact yield_cranking hclash hyield he

end Sys2Proof.Machine
end

section
/-! What comes before a reaction: no command grants the permit there, none starts a step, and a claim made there is new (R59, R110). -/

namespace Sys2Proof.Machine

/-- What the operations before a reaction are judged by: the engine state, the claim and the step in flight. -/
def State.startView (s : State) : EngineState × Option Nat × Option Step := (s.ssq.engine, s.cpa.claim, s.nsp.step)

/-- What the operations before a reaction keep: PRELUBE is not entered, a claim entered is of age 0, no step starts. -/
structure Prior (a s : State) : Prop where
  unpermitted : a.ssq.engine ≠ .prelube → s.ssq.engine ≠ .prelube
  claimed : a.ssq.engine ≠ .claiming → a.ssq.engine ≠ .prelube → s.ssq.engine = .claiming → s.cpa.claim = some 0
  step : a.nsp.step = none → s.nsp.step = none

theorem Prior.refl (s : State) : Prior s s := ⟨fun h => h, fun h _ hc => absurd hc h, fun h => h⟩

/-- An engine state that stands, with no step started. -/
theorem prior_of_engine {a t : State} (hengine : t.ssq.engine = a.ssq.engine) (hstep : a.nsp.step = none → t.nsp.step = none) :
    Prior a t :=
  ⟨fun h => by rw [hengine]; exact h, fun h _ hc => absurd (hengine.symm.trans hc) h, hstep⟩

section
variable {a s : State} {k : FaultKind} {cause : Cause} {o : Order} {e : Ending} {n m : EngineState} {i : Nat} {d : Device}
  {reason : StopReason} {b : Bool} (h : Prior a s)
include h

/-! ## The shared operations -/

/-- The parts of the state that it speaks of, the same. -/
theorem Prior.same {t : State} (hview : t.startView = s.startView) : Prior a t := by
  obtain ⟨hengine, hclaim, hstep⟩ : t.ssq.engine = s.ssq.engine ∧ t.cpa.claim = s.cpa.claim ∧ t.nsp.step = s.nsp.step := by
    simpa only [State.startView, Prod.mk.injEq] using hview
  exact ⟨fun hp => by rw [hengine]; exact h.unpermitted hp,
    fun hc hp ht => hclaim.trans (h.claimed hc hp (hengine.symm.trans ht)), fun hs => hstep.trans (h.step hs)⟩

theorem prior_ite {t : State} {c : Prop} [Decidable c] (ht : Prior a t) : Prior a (if c then t else s) := by
  split
  · exact ht
  · exact h

theorem prior_raise : Prior a (raiseFault k s) := by rw [raiseFault_eq]; exact h.same rfl

theorem prior_clear : Prior a (clearFault k s) := by
  unfold clearFault; split
  · exact h.same rfl
  · exact h

theorem prior_addSeq : Prior a (addSeq o s) := by
  obtain ⟨l, r, hadd⟩ := addSeq_eq o s
  rw [hadd]; exact h.same rfl

theorem prior_addStopIfHeld : Prior a (addStopIfHeld s) := prior_ite h (prior_addSeq h)

omit h in
theorem nspOnLeave_step (hs : s.nsp.step = none) : (nspOnLeave m n s).nsp.step = none := by
  unfold nspOnLeave; repeat' split
  · rw [endWatch_nsp]; exact hs
  · rw [endWatch_nsp]; rfl
  · rw [endWatch_nsp]; rfl
  · exact hs

omit h in
theorem enter_step (hs : s.nsp.step = none) : (enter n s).nsp.step = none := by
  by_cases hn : n = .running
  · subst hn; rw [enterRunning_nsp]; exact nspOnLeave_step hs
  · rw [enter_nsp_of_ne hn]; exact nspOnLeave_step hs

/-- A state entered that is not PRELUBE; CLAIMING is entered with a claim of age 0. -/
theorem prior_enter (hn : n ≠ .prelube) : Prior a (enter n s) where
  unpermitted _ := by rw [engine_enter]; exact hn
  claimed _ hp ht := by
    rw [engine_enter] at ht; subst ht
    rw [enter_claim]; exact if_neg (h.unpermitted hp)
  step hs := enter_step (h.step hs)

/-! ## The Start Sequencer -/

theorem prior_startRequest : Prior a (startRequest s) := by
  unfold startRequest; split
  · split
    · exact prior_enter h (by decide)
    · exact prior_raise h
  · exact (prior_enter h (n := .running) (by decide)).same rfl
  · exact h

theorem prior_triggerTest : Prior a (triggerTest s) := by
  unfold triggerTest; split
  · split
    · exact prior_startRequest h
    · exact (prior_enter h (n := .running) (by decide)).same rfl
    · exact h
  · exact h

theorem prior_enterStopped : Prior a (enterStopped s) := prior_triggerTest (prior_enter h (by decide))

theorem prior_shutdownEnd : Prior a (shutdownEnd s) := prior_ite (prior_enterStopped h) (prior_enter h (by decide))

theorem prior_enterShutdown : Prior a (enterShutdown s) :=
  prior_ite (prior_enter h (by decide)) (prior_shutdownEnd (prior_enter h (by decide)))

theorem prior_withdraw (c : Client) : Prior a (withdraw c s) := by
  unfold withdraw; split
  · exact h.same rfl
  · exact h

theorem prior_protectiveSequence : Prior a (protectiveSequence b s) := (prior_withdraw h .sequence).same rfl

theorem prior_protectiveShutdown : Prior a (protectiveShutdown s) :=
  prior_enterShutdown (Prior.same (s := protectiveSequence false (clearFuel s)) (prior_protectiveSequence (h.same rfl)) rfl)

theorem prior_stall : Prior a (stall s) := prior_protectiveShutdown (prior_raise h)

theorem prior_starterStuck : Prior a (starterStuck s) := by
  have hp : Prior a (protectiveSequence true (clearFuel (raiseFault .starterStuck s))) := prior_protectiveSequence ((prior_raise h).same rfl)
  unfold starterStuck; simp only []; split
  · exact hp
  · exact prior_enter hp (by decide)

theorem prior_prelubeFail : Prior a (prelubeFail s) :=
  prior_enterStopped (Prior.same (s := addSeq .stop (raiseFault .prelubeFail s)) (prior_addSeq (prior_raise h)) rfl)

theorem prior_failedAttempt : Prior a (failedAttempt cause s) := by
  have hordered : Prior a (attemptOrders s) := prior_addStopIfHeld (prior_ite h (prior_addSeq h))
  have hcounted : Prior a (attemptCounted cause s) :=
    Prior.same (s := raiseFault .crankFail (countAttempt cause (attemptOrders s))) (prior_raise (hordered.same rfl)) rfl
  rw [failedAttempt_eq]
  generalize attemptCounted cause s = u at hcounted
  split
  · exact prior_enter (prior_raise hcounted) (by decide)
  · exact prior_addStopIfHeld (prior_enter hcounted (by decide))

theorem prior_enterReason (hn : n ≠ .prelube) : Prior a (setReason reason (enter n s)) := (prior_enter h hn).same rfl

theorem prior_stopToCooldown : Prior a (stopToCooldown s) := by
  rcases stopToCooldown_cases s with hs | hs <;> rw [hs]
  · exact h
  · exact prior_enterReason h (by decide)

theorem prior_stopRequest : Prior a (stopRequest s) := by
  unfold stopRequest; split
  · exact h.same rfl
  · exact h.same rfl
  · exact h.same rfl
  · exact prior_enterStopped (Prior.same h rfl)
  · exact prior_enterStopped (Prior.same h rfl)
  · exact prior_enterStopped (Prior.same (s := addSeq .stop s) (prior_addSeq h) rfl)
  · exact prior_enterShutdown (Prior.same (s := crankingOrders s) (prior_addSeq (prior_addSeq (prior_addSeq h))) rfl)
  · exact prior_enterShutdown (Prior.same (s := addSeq .fuelOff s) (prior_addSeq h) rfl)
  · exact prior_enterReason h (by decide)
  · exact prior_stopToCooldown (h.same rfl)
  · exact h

theorem prior_autostopTest : Prior a (autostopTest s) := prior_ite h (prior_enterReason h (by decide))

theorem prior_ssqSag : Prior a (ssqSag s) := prior_ite h (prior_failedAttempt h)

theorem prior_ssqSilence : Prior a (ssqSilence s) := by
  unfold ssqSilence; split
  · exact h.same rfl
  · exact prior_ite h (prior_enter h (by decide))
  · exact prior_failedAttempt h
  · exact prior_stall h
  · exact prior_stall h
  · exact prior_stall h
  · exact prior_shutdownEnd h
  · exact h

theorem prior_enterIdleWarm : Prior a (enterIdleWarm s) :=
  prior_ite (prior_enter h (by decide)) (prior_enter (prior_enter h (by decide)) (by decide))

theorem prior_ssqGate : Prior a (ssqGate i s) := by
  unfold ssqGate; split
  · exact prior_ite h (prior_ite (h.same (by rfl)) (prior_ite h (h.same (by rfl))))
  · exact prior_ite h (prior_enterIdleWarm (prior_addSeq h))
  · exact prior_ite h (prior_stall h)
  · exact prior_ite h (prior_stall h)
  · exact prior_ite h (prior_stall h)
  · exact h

theorem prior_ssqOverspeed : Prior a (ssqOverspeed s) := by
  have hmarked : Prior a (markOverspeed s) := Prior.same (s := raiseFault .overspeed s) (prior_raise h) rfl
  rw [ssqOverspeed_eq]; split
  · exact prior_enter (hmarked.same rfl) (by decide)
  · exact prior_enter (hmarked.same rfl) (by decide)
  · exact hmarked
  · exact hmarked
  · exact prior_protectiveShutdown hmarked

theorem prior_ssqSensorUpdate : Prior a (ssqSensorUpdate s) := by
  unfold ssqSensorUpdate; simp only []
  exact prior_triggerTest (prior_autostopTest (prior_ite (prior_ite h (prior_enter h (by decide)))
    (prior_protectiveShutdown (prior_raise h))))

theorem prior_ssqDeviceFailed : Prior a (ssqDeviceFailed d s) := by
  cases d with
  | governor => exact prior_ite (prior_protectiveShutdown h) h
  | starter => exact prior_ite h (prior_starterStuck h)
  | prelube => exact prior_ite h (prior_prelubeFail h)
  | load => exact h
  | sensors => exact h

theorem prior_oilOk : Prior a (oilOk s) :=
  prior_ite (prior_addSeq (prior_enter h (by decide))) (prior_protectiveShutdown h)

theorem prior_disengageAnswered : Prior a (disengageAnswered e s) := by
  unfold disengageAnswered; split
  · exact h.same rfl
  · exact prior_starterStuck h
  · exact h

theorem prior_seqEnding : Prior a (seqEnding o e s) := by
  unfold seqEnding; split
  · exact prior_ite h (h.same rfl)
  · split
    · exact prior_ite h (prior_oilOk h)
    · exact h
  · exact prior_ite h (prior_ite (prior_failedAttempt h) (h.same rfl))
  · exact prior_ite (prior_disengageAnswered h) (prior_addSeq h)
  · exact h

theorem prior_protEnding : Prior a (protEnding o e s) :=
  prior_ite (prior_seqEnding h) (prior_ite (prior_disengageAnswered h) (h.same rfl))

theorem prior_unloadEnding : Prior a (unloadEnding o e s) := prior_ite h (h.same rfl)

/-! ## The Notch Stepper -/

/-- With no step in progress the ending of a NOTCH transaction is nothing. -/
theorem prior_notchEnding : Prior a (notchEnding e s) where
  unpermitted hp := by rw [(notchOnly_notchEnding e s).ssq]; exact h.unpermitted hp
  claimed hc hp ht := by
    rw [(notchOnly_notchEnding e s).ssq] at ht
    rw [(notchOnly_notchEnding e s).cpa]; exact h.claimed hc hp ht
  step hs := by rw [notchEnding_of_none (h.step hs)]; exact h.step hs

theorem prior_urgentTest : Prior a (urgentTest s) := by
  refine prior_ite h ⟨fun hp => ?_, fun hc hp ht => ?_, fun _ => rfl⟩
  · rw [urgentUnload_ssq]; exact h.unpermitted hp
  · rw [urgentUnload_ssq] at ht
    show (withdraw .notch s).cpa.claim = _
    rw [withdraw_cpa]; exact h.claimed hc hp ht

end

end Sys2Proof.Machine
end

section
/-! The acts of the commands before their reaction (R59, R110). -/

namespace Sys2Proof.Machine

section
variable {a s : State} {k : FaultKind} {cause : CommitCause} {o : Order} {e : Ending} {n i : Nat} {d : Device} {tr : Transaction}
  {x : Health} {c : Derate} {l : Line} {v : Bool} {old : State} (h : Prior a s)
include h

/-! ## The engine-room channel -/

theorem prior_becomeFailed : Prior a (becomeFailed d s) := by
  have hstale : Prior a (if d = .sensors ∧ s.erc.sensor.state = .valid then setRecordState .stale s else s) := prior_ite h (h.same rfl)
  unfold becomeFailed; simp only []
  generalize (if d = .sensors ∧ s.erc.sensor.state = .valid then setRecordState .stale s else s) = u at hstale
  have hssq : Prior a (ssqDeviceFailed d u) := prior_ssqDeviceFailed hstale
  refine prior_raise ?_
  cases d with
  | load => exact prior_urgentTest hssq
  | sensors => exact hssq.same rfl
  | _ => exact hssq

theorem prior_changeHealth : Prior a (changeHealth d x s) := by
  have hset : Prior a (setHealth d x s) := h.same rfl
  unfold changeHealth; simp only []; repeat' split
  · exact prior_becomeFailed hset
  · exact prior_clear hset
  · exact hset

theorem prior_sensorsReturn : Prior a (sensorsReturn old s) := prior_ite h (h.same rfl)

theorem prior_healthStep : Prior a (healthStep tr e s) := by
  have hchanged : Prior a (changeHealth tr.request.order.device ((s.erc.health.get tr.request.order.device).after e) s) :=
    prior_changeHealth h
  unfold healthStep; simp only []
  generalize changeHealth tr.request.order.device ((s.erc.health.get tr.request.order.device).after e) s = u at hchanged
  have htested := prior_ite (c := tr.request.order.device = .sensors ∧ healthChanged tr.request.order.device s u) hchanged
    (prior_autostopTest hchanged)
  exact prior_ite (prior_sensorsReturn htested) htested

theorem prior_sensorStep : Prior a (sensorStep tr e s) := by
  unfold sensorStep; split
  next d0 d1 d2 =>
    have hset : Prior a (setSensor (readRecord d0 d1 d2) s) := h.same rfl
    exact prior_ite h ((prior_ssqSensorUpdate hset).same rfl)
  · exact h

theorem prior_clientEnding : Prior a (clientEnding tr e s) := by
  have hfreed : Prior a (setSlot tr.client .empty s) := h.same rfl
  unfold clientEnding; simp only []
  generalize setSlot tr.client .empty s = u at hfreed
  split
  · split
    · exact prior_unloadEnding hfreed
    · exact prior_protEnding hfreed
  · exact prior_seqEnding hfreed
  · exact prior_notchEnding hfreed
  · exact hfreed

/-! ## The command lines -/

theorem prior_faultReset : Prior a (faultReset s) := by
  have hreset : Prior a (channelAndFaults s) := by
    refine Prior.same (s := ercFaultReset s) (prior_sensorsReturn ?_) rfl
    exact prior_changeHealth (prior_changeHealth (prior_changeHealth (prior_changeHealth (prior_changeHealth h))))
  exact prior_ite hreset (prior_enterStopped (Prior.same hreset rfl))

theorem prior_resetEdge : Prior a (resetEdge s) :=
  prior_ite (prior_faultReset h) (prior_ssqSilence (prior_faultReset (s := setSilence s) (h.same rfl)))

theorem prior_inhibitPending : Prior a (inhibitPending s) := by
  have hsequence : Prior a (inhibitSequence s) := by
    unfold inhibitSequence; split
    · exact prior_seqEnding (h.same rfl)
    · exact h
  rw [inhibitPending_eq]
  generalize inhibitSequence s = u at hsequence
  have hnotch : Prior a (inhibitNotch u) := by
    rcases inhibitNotch_cases u with hu | hu <;> rw [hu]
    · exact hsequence
    · exact prior_notchEnding (hsequence.same rfl)
  exact prior_withdraw hnotch .poll

theorem prior_refuseFirst : Prior a (refuseFirst s) :=
  have hused : Prior a (useFree s) := h.same rfl
  prior_ite h (prior_ite hused (prior_inhibitPending hused))

theorem prior_ssqEstop : Prior a (ssqEstop s) := by
  have hemptied : Prior a (emptied s) := Prior.same (s := raiseFault .emergencyStop s) (prior_raise h) rfl
  rw [ssqEstop_eq]; split
  · exact hemptied
  · exact hemptied
  · exact Prior.same (s := protectiveSequence false (clearFuel (emptied s))) (prior_protectiveSequence (hemptied.same rfl)) rfl
  · exact prior_protectiveShutdown hemptied

theorem prior_estopAssertion : Prior a (estopAssertion s) :=
  prior_inhibitPending (prior_ssqEstop (s := setLevel .estop true (refuseFirst s)) ((prior_refuseFirst h).same rfl))

theorem prior_estopRelease : Prior a (estopRelease s) := by
  have hcleared : Prior a (clearFault .emergencyStop (setLevel .estop false s)) := prior_clear (h.same rfl)
  exact prior_ite hcleared (prior_triggerTest hcleared)

theorem prior_takeLevel : Prior a (takeLevel l v s) := by
  cases l with
  | start => exact prior_ite (h.same (by rfl)) (prior_startRequest (s := setLevel .start v s) (h.same rfl))
  | stop => exact prior_ite (h.same (by rfl)) (prior_stopRequest (s := setLevel .stop v s) (h.same rfl))
  | freset => exact prior_ite (h.same (by rfl)) (prior_resetEdge (s := setLevel .freset v s) (h.same rfl))
  | runIso => exact prior_ite (h.same (by rfl)) (prior_urgentTest (s := setLevel .runIso v s) (h.same rfl))
  | estop => exact prior_ite (prior_ite (prior_estopRelease h) (h.same (by rfl))) (prior_estopAssertion h)

/-! ## Demand, derates, speed and battery -/

theorem prior_takeDemand : Prior a (takeDemand s) := prior_ite (prior_raise (h.same (by rfl))) (prior_clear (h.same (by rfl)))

theorem prior_applyDerate : Prior a (applyDerate c s) := by
  have hset : Prior a (derateSet c s) := prior_ite (h.same (by rfl)) (prior_raise (h.same (by rfl)))
  rw [applyDerate_eq]
  exact prior_ite hset (prior_urgentTest hset)

theorem prior_releaseDerate : Prior a (releaseDerate c s) := prior_ite (h.same (by rfl)) (prior_clear (h.same (by rfl)))

theorem prior_deliverGate : Prior a (deliverGate i s) :=
  prior_ite (prior_ssqGate h) (Prior.same (s := ssqOverspeed (setForce true s)) (prior_ssqOverspeed (h.same (by rfl))) rfl)

theorem prior_watchGate : Prior a (watchGate i s) := by
  unfold watchGate; simp only []
  refine prior_ite ?_ (prior_clear ?_) <;>
  · split
    · exact prior_ite h (h.same (by rfl))
    · exact h

theorem prior_detectSag : Prior a (detectSag n s) := by
  have hsag : Prior a (takeSag s) := prior_ssqSag (prior_raise (h.same (by rfl)))
  have hrecovery : Prior a (takeRecovery s) := prior_clear (h.same (by rfl))
  exact prior_ite (prior_ite (h.same (by rfl)) (prior_ite (h.same (by rfl)) hsag)) (prior_ite (h.same (by rfl)) (prior_ite (h.same (by rfl)) hrecovery))

/-! ## The clash -/

theorem prior_clashTest : Prior a (clashTest s) := by
  refine prior_ite h ?_
  unfold yieldPermit; simp only []; split
  · exact prior_enter (prior_addSeq (h.same rfl)) (by decide)
  · exact prior_addStopIfHeld (prior_enter (prior_addSeq (h.same rfl)) (by decide))
  · exact h.same rfl

end

end Sys2Proof.Machine
end

section
/-! The shape of a command: what comes before its reaction, the reaction, and what trails it (R59, R110). -/

namespace Sys2Proof.Machine

/-- What trails a reaction: the grant of a transaction, and the own window begun. -/
structure Trails (v t : State) : Prop where
  ssq : t.ssq = v.ssq
  nsp : t.nsp = v.nsp
  cpa : t.cpa = v.cpa
  lmn : t.lmn = v.lmn
  mpt : t.mpt = v.mpt
  linkState : t.clc.linkState = v.clc.linkState
  health : t.erc.health = v.erc.health
  active : t.fcl.active = v.fcl.active
  entries : ∀ p, v.ownPosition ≠ some p → t.entry p = v.entry p

theorem Trails.refl (v : State) : Trails v v := ⟨rfl, rfl, rfl, rfl, rfl, rfl, rfl, rfl, fun _ _ => rfl⟩

theorem trails_enterIdle (v : State) : Trails v (enterIdle v) := by
  rcases enterIdle_cases v with ⟨-, h⟩ | ⟨c, r, -, -, h⟩ <;> rw [h] <;> exact ⟨rfl, rfl, rfl, rfl, rfl, rfl, rfl, rfl, fun _ _ => rfl⟩

theorem beginOwnWindow_active (s : State) : (beginOwnWindow s).fcl.active = s.fcl.active := by
  unfold beginOwnWindow; repeat' split
  · rfl
  · exact sendRecord_active false s
  · rfl

theorem trails_beginOwnWindow (v : State) : Trails v (beginOwnWindow v) := by
  have hactive := beginOwnWindow_active v
  have hentries := (linkKept_beginOwnWindow v).entries
  have heq := beginOwnWindow_eq v
  generalize beginOwnWindow v = t at hactive hentries heq
  refine ⟨?_, ?_, ?_, ?_, ?_, ?_, ?_, hactive, hentries⟩ <;> rw [heq]

/-- The shapes of a command that is one event for the blocks. -/
inductive Shape (s : State) : State → Prop where
  | plain {t : State} (h : Prior s t) : Shape s t
  | reacted {old u t : State} (h : Prior s u) (ht : Trails (react old u) t) : Shape s t
  | sampled {old u : State} (h : Prior s u) : Shape s (react old (autostopTest (triggerTest (grantTest u))))
  | stepped {u : State} (h : Prior s u) : Shape s (stepTest u)

section
variable {s u old : State}

theorem Shape.react (h : Prior s u) : Shape s (react old u) := .reacted h (.refl _)

theorem shape_ite {c : Prop} [Decidable c] {t : State} (ht : Shape s t) (hu : Shape s u) : Shape s (if c then t else u) := by
  split
  · exact ht
  · exact hu

theorem shape_self : Shape s s := .plain (.refl s)

theorem Prior.shape (h : Prior s u) : Shape s u := .plain h

/-! ## The link -/

theorem closeWindow_withClc (hcheck : noCheckOnPair s) : ∃ c, closeWindow s = withClc c s ∧ c.linkState = s.clc.linkState := by
  obtain ⟨n, hn⟩ := closeWindow_quiet hcheck
  exact ⟨_, hn, rfl⟩

/-- The clocks of the link alone. -/
theorem Prior.clc (h : Prior s u) (c : Clc) : Prior s (withClc c u) := h.same rfl

theorem prior_boundaryWork (hengine : u.ssq.engine = s.ssq.engine) (hstep : u.nsp.step = s.nsp.step) : Prior s (boundaryWork u) := by
  rw [boundaryWork_eq]
  exact prior_of_engine hengine fun hs => hstep.trans hs

/-- Before a reaction, or just after it. -/
inductive Reached (s : State) : State → Prop where
  | before {v : State} (h : Prior s v) : Reached s v
  | after {old u : State} (h : Prior s u) : Reached s (Machine.react old u)

theorem Reached.shape {v : State} (h : Reached s v) : Shape s v := by
  cases h with
  | before h => exact h.shape
  | after h => exact Shape.react h

theorem Prior.beginOwnWindow {v : State} (h : Prior s v) : Prior s (beginOwnWindow v) := by
  have heq := beginOwnWindow_eq v
  generalize Machine.beginOwnWindow v = t at heq
  rw [heq]; exact h.same rfl

theorem Reached.beginOwnWindow {v : State} (h : Reached s v) : Shape s (beginOwnWindow v) := by
  cases h with
  | before h => exact h.beginOwnWindow.shape
  | after h => exact .reacted h (trails_beginOwnWindow _)

theorem reached_passZero (c : Clc) : Reached s (passZero (withClc c s)) := by
  unfold passZero; split
  · exact .before (((Prior.refl s).clc c).same rfl)
  · exact .after (prior_boundaryWork (s := s) (u := withClc c s) rfl rfl)

/-- The next window begun, before the own record is sent in it. -/
def windowBegun (s : State) : State :=
  if s.clc.windowIndex = 7 then passZero (setWindow (s.clc.windowIndex + 1) 0 s) else setWindow (s.clc.windowIndex + 1) 0 s

theorem advanceWindow_windowBegun (s : State) : advanceWindow s
    = if (windowBegun s).ownPosition = some (s.clc.windowIndex + 1) then beginOwnWindow (windowBegun s) else windowBegun s := rfl

theorem reached_windowBegun (c : Clc) : Reached s (windowBegun (withClc c s)) := by
  have hset : setWindow (c.windowIndex + 1) 0 (withClc c s) = withClc (setWindow (c.windowIndex + 1) 0 (withClc c s)).clc s := rfl
  unfold windowBegun; split
  · exact hset ▸ reached_passZero _
  · exact .before (((Prior.refl s).clc c).same rfl)

/-- A window that begins: at most one boundary, then the own window where it is the station's. -/
theorem shape_advanceWindow (c : Clc) : Shape s (advanceWindow (withClc c s)) := by
  have hreached := reached_windowBegun (s := s) c
  rw [advanceWindow_windowBegun]
  generalize windowBegun (withClc c s) = v at hreached
  exact shape_ite hreached.beginOwnWindow hreached.shape

theorem shape_expireWindow (b : Nat) (hcheck : noCheckOnPair s) : Shape s (expireWindow b s) := by
  obtain ⟨c, hclosed, -⟩ := closeWindow_withClc hcheck
  unfold expireWindow; simp only []
  rw [hclosed]
  exact shape_advanceWindow { c with busyUs := b, reception := s.receptionAtWindow b }

/-! ## A record -/

theorem handOn_direct {r : Record} (hsum : r.summaries = []) (u : State) :
    handOn r u = Machine.react (tagCounted r u) (clashTest (refreshedBy r u)) := by
  unfold handOn; rw [directRefresh_eq, hsum]; rfl

theorem prior_duplicatePosition (h : Prior s u) : Prior s (duplicatePosition u) := by
  have hraised : Prior s (raiseFault .duplicatePosition
      (mapCounters (fun c => { c with dupPositionSeen := sat16 c.dupPositionSeen }) u)) := prior_raise (h.same (by rfl))
  unfold duplicatePosition; simp only []
  generalize raiseFault .duplicatePosition
    (mapCounters (fun c => { c with dupPositionSeen := sat16 c.dupPositionSeen }) u) = v at hraised
  have htx : Prior s (if v.clc.tx = .deferring then setTx .idle v else v) := prior_ite hraised (hraised.same (by rfl))
  exact htx.same rfl

theorem prior_refreshedBy (r : Record) (h : Prior s u) : Prior s (refreshedBy r u) :=
  h.same (by unfold State.startView; rw [refreshedBy_ssq, (refreshedBy_claim r u).1, refreshedBy_nsp])

/-- A deferred record without relays: one refresh. -/
theorem shape_actOnRecord {r : Record} {us : Nat} (hdeferred : r.deferred = true) (hsum : r.summaries = []) (h : Prior s u) :
    Shape s (actOnRecord r us u) := by
  have hcompared (v : State) (hv : Prior s v) : Prior s (compareCheck r v) := hv.same rfl
  have hcounted : Prior s (mapCounters (fun c => { c with recordsGood := sat16 c.recordsGood }) u) := h.same rfl
  unfold actOnRecord; simp only [hdeferred, if_true]
  generalize mapCounters (fun c => { c with recordsGood := sat16 c.recordsGood }) u = v at hcounted
  split
  · exact shape_ite (hcompared v hcounted).shape hcounted.shape
  · refine shape_ite (shape_ite hcounted.shape (Shape.react (prior_duplicatePosition hcounted)))
      (shape_ite (hcompared v hcounted).shape ?_)
    rw [handOn_direct hsum]
    exact Shape.react (prior_clashTest (prior_refreshedBy r hcounted))

theorem prior_pairQuiet (hcheck : noCheckOnPair s) : Prior s (pairQuiet s) := by
  obtain ⟨x, hquiet⟩ := pairQuiet_of_noCheck hcheck
  rw [hquiet]; exact (Prior.refl s).same rfl

end

end Sys2Proof.Machine
end

section
/-! Every command that is one event has a shape (R59, R110). -/

namespace Sys2Proof.Machine

section
variable {s u old : State}

theorem shape_phaseExpiry {t : Timer} {own : EngineState} {act : State → State} (hact : Prior s (act s)) :
    Shape s (phaseExpiry t own act s) := shape_ite (Shape.react hact) shape_self

theorem prior_post (c : Client) (r : Request) (h : Prior s u) : Prior s (post c r u) := by rw [post_eq]; exact h.same rfl

theorem shape_stepTest (h : Prior s u) : Shape s (stepTest u) := .stepped h

theorem shape_transactionEnd {e : Ending} (h : Prior s u) : Shape s (transactionEnd e u) := by
  unfold transactionEnd; split
  · exact .plain (h.same (by unfold State.startView; rw [(trails_enterIdle u).ssq, (trails_enterIdle u).cpa, (trails_enterIdle u).nsp]))
  · exact .reacted (prior_clientEnding (prior_sensorStep (prior_healthStep h))) (trails_enterIdle _)

theorem shape_takeReply {ws : List WireOctet} (h : Prior s u) : Shape s (takeReply ws u) := by
  have hlate : Shape s (countLateReply u) := .plain (h.same (by rfl))
  unfold takeReply; repeat' split
  · exact hlate
  · exact shape_transactionEnd h
  · exact hlate
  · exact hlate

theorem shape_sampleEvent {n : Nat} (h : Prior s u) : Shape s (sampleEvent n u) :=
  .sampled (prior_detectSag (s := latch n u) (h.same (by rfl)))

theorem shape_commit {cause : CommitCause} (h : Prior s u) : Shape s (react old (commit cause u)) :=
  Shape.react (Prior.same (s := u) h rfl)

theorem shape_writeOctet {v : Byte} (h : Prior s u) : Shape s (writeOctet v u) := by
  unfold writeOctet; simp only []; split
  · exact .plain (h.same (by rfl))
  · exact shape_commit (h.same (by rfl))
  · exact .plain (h.same (by rfl))

theorem shape_readOctet (h : Prior s u) : Shape s (readOctet u) := by
  unfold readOctet; simp only []; split
  · exact .plain (h.same (by rfl))
  · exact .plain (h.same (by rfl))

theorem shape_addressed {addr : BitVec 7} {act : State → State} (hact : ∀ u, Prior s u → Shape s (act u)) :
    Shape s (addressed addr act s) :=
  shape_ite (hact _ ((Prior.refl s).same rfl)) (.plain ((Prior.refl s).same rfl))

/-! ## The engine's own timers -/

theorem prior_prelubeTick : Prior s (prelubeTick s) :=
  have hset : Prior s { s with ssq := { s.ssq with prelubeTick := some 500 } } := (Prior.refl s).same rfl
  prior_ite (prior_addSeq hset) hset

theorem prior_turnCheck : Prior s (turnCheck s) :=
  have hset : Prior s { s with ssq := { s.ssq with turnCheck := none } } := (Prior.refl s).same rfl
  prior_ite hset (prior_failedAttempt hset)

theorem prior_restOver : Prior s (restOver s) :=
  have hset : Prior s { s with ssq := { s.ssq with rest := none } } := (Prior.refl s).same rfl
  prior_ite hset (prior_enter hset (by decide))

theorem prior_idleOver : Prior s (idleOver s) := prior_autostopTest ((Prior.refl s).same rfl)

theorem prior_cooldownOver : Prior s (cooldownOver s) :=
  prior_enterShutdown (Prior.same (s := addSeq .fuelOff s) (prior_addSeq (.refl s)) rfl)

theorem shape_phaseCommand {c : Instr} {t : State} (hc : isPhaseCommand c = true) (hexec : exec c s = .next t) : Shape s t := by
  have h : Prior s s := .refl s
  cases c with
  | dwellClockReached m =>
    cases hexec; split
    · exact shape_ite shape_self (shape_stepTest (Prior.same h rfl))
    · exact shape_self
  | abandonHoldExpiry => cases hexec; exact shape_ite shape_self (shape_stepTest (Prior.same h rfl))
  | prelubeTick => cases hexec; exact shape_phaseExpiry prior_prelubeTick
  | prelubeTimerExpiry => cases hexec; exact shape_phaseExpiry (prior_prelubeFail h)
  | turnCheckExpiry => cases hexec; exact shape_phaseExpiry prior_turnCheck
  | crankTimerExpiry => cases hexec; exact shape_phaseExpiry (prior_failedAttempt h)
  | firingHoldExpiry => cases hexec; exact shape_phaseExpiry (prior_enter (prior_addSeq (prior_addSeq h)) (by decide))
  | restTimerExpiry => cases hexec; exact shape_phaseExpiry prior_restOver
  | firingTimerExpiry => cases hexec; exact shape_phaseExpiry (prior_failedAttempt h)
  | warmUpTimerExpiry => cases hexec; exact shape_phaseExpiry (prior_enter h (by decide))
  | autostopIdleTimerExpiry => cases hexec; exact shape_phaseExpiry prior_idleOver
  | cooldownTimerExpiry => cases hexec; exact shape_phaseExpiry prior_cooldownOver
  | _ => cases hc

/-! ## The link's own commands -/

theorem prior_sendRecord (b : Bool) (h : Prior s u) : Prior s (sendRecord b u) := by
  have hsent := sendRecord_eq b u
  generalize sendRecord b u = v at hsent
  rw [hsent]; exact h.same rfl

/-- A free choice used changes none of it. -/
theorem Shape.of_used {t : State} (h : Shape (useFree s) t) : Shape s t := by
  have hprior {v : State} (hv : Prior (useFree s) v) : Prior s v := ⟨hv.unpermitted, hv.claimed, hv.step⟩
  cases h with
  | plain h => exact .plain (hprior h)
  | reacted h ht => exact .reacted (hprior h) ht
  | sampled h => exact .sampled (hprior h)
  | stepped h => exact .stepped (hprior h)

theorem shape_linkCommand {c : Instr} {t : State} (hc : isLinkCommand c = true) (hone : OneEvent c s) (hexec : exec c s = .next t) :
    Shape s t := by
  obtain ⟨hcheck, hrecord⟩ := hone
  have h : Prior s s := .refl s
  have hsends : s.sendsCheck = false := noCheckOnPair_iff.mp hcheck
  cases c with
  | windowTimerExpiry b => cases hexec; exact shape_ite shape_self (shape_expireWindow b hcheck)
  | listeningEnd => cases hexec; exact shape_ite (shape_expireWindow _ (s := useFree s) hcheck).of_used shape_self
  | deferredSend => cases hexec; exact shape_ite (prior_sendRecord true (prior_pairQuiet hcheck)).shape shape_self
  | deferralTimeout => cases hexec; exact shape_ite (.plain (h.same (by rfl))) shape_self
  | checkRecordSent => cases hexec; rw [hsends]; exact shape_self
  | lineCheckEnd => cases hexec; rw [hsends]; exact shape_self
  | recordTaken octets =>
    cases hexec
    have hquiet := prior_pairQuiet hcheck
    refine shape_ite shape_self (shape_ite hquiet.shape ?_)
    cases haccept : acceptRecord octets with
    | some r =>
      obtain ⟨hdeferred, hsum⟩ := hrecord octets r rfl haccept
      exact shape_actOnRecord hdeferred hsum hquiet
    | none =>
      obtain ⟨v, hrejected, -⟩ := rejectRecord_eq (ws := octets) (s := pairQuiet s)
      exact .plain (by simp only []; rw [hrejected]; exact (hquiet.same (by rfl)))
  | phantomHoldExpiry p => cases hexec; exact shape_ite (Shape.react (h.same (by rfl))) shape_self
  | _ => cases hc

end

/-- Every command that is one event for the blocks. -/
theorem exec_shape {c : Instr} {s t : State} (hone : isLinkCommand c = true → OneEvent c s) (hexec : exec c s = .next t) :
    Shape s t := by
  have h : Prior s s := .refl s
  by_cases hlink : isLinkCommand c = true
  · exact shape_linkCommand hlink (hone hlink) hexec
  by_cases hphase : isPhaseCommand c = true
  · exact shape_phaseCommand hphase hexec
  cases c with
  | powerOnReset =>
    cases hexec
    exact .plain ⟨fun _ hp => (nomatch hp), fun _ _ hc => (nomatch hc), fun _ => rfl⟩
  | resetRelease p c f => cases hexec; exact shape_ite (Shape.react (h.same (by rfl))) shape_self
  | collision =>
    cases hexec; split
    · split
      · exact .plain (h.same (by rfl))
      · exact .plain (h.same (by rfl))
    · exact shape_self
  | lineLevelChange l v => cases hexec; exact shape_ite shape_self (shape_ite (.plain (h.same (by rfl))) (.plain (h.same (by rfl))))
  | lineStabilityExpiry l =>
    cases hexec
    have hstopped : Prior s
        { s with lmn := { s.lmn with lines := s.lmn.lines.set l { s.lmn.lines.get l with timer := none } } } := h.same rfl
    exact shape_ite shape_self (shape_ite (.plain hstopped) (Shape.react (prior_takeLevel hstopped)))
  | demandCodeChange code => cases hexec; exact shape_ite shape_self (shape_ite (.plain (h.same (by rfl))) (.plain (h.same (by rfl))))
  | demandStabilityExpiry => cases hexec; exact shape_ite shape_self (Shape.react (prior_takeDemand h))
  | disagreementTimerExpiry => cases hexec; exact shape_ite shape_self (.plain (prior_raise (h.same (by rfl))))
  | derateApplyTimerExpiry c => cases hexec; exact shape_ite shape_self (Shape.react (prior_applyDerate h))
  | derateReleaseTimerExpiry c => cases hexec; exact shape_ite shape_self (Shape.react (prior_releaseDerate h))
  | deviationWatchExpiry => cases hexec; exact shape_ite shape_self (.plain (prior_raise (h.same (by rfl))))
  | sendingEnd => cases hexec; exact shape_ite (.plain (h.same (by rfl))) shape_self
  | replyTaken octets =>
    cases hexec
    have hquiet : Prior s (replyQuiet s) := h.same rfl
    exact shape_ite shape_self (shape_ite (shape_takeReply hquiet) (.plain hquiet))
  | replyTimeout => cases hexec; exact shape_ite (shape_transactionEnd (h.same (by rfl))) shape_self
  | pollTimerExpiry =>
    cases hexec
    have hrestarted : Prior s { s with erc := { s.erc with pollTimer := some 250 } } := h.same rfl
    exact shape_ite shape_self (shape_ite (prior_post _ _ hrestarted).shape hrestarted.shape)
  | speedPulse sinceCounted => cases hexec; exact shape_ite (.plain (h.same (by rfl))) shape_self
  | gateEnd =>
    cases hexec
    exact shape_ite shape_self (Shape.react (prior_watchGate (prior_deliverGate (s := closeGate s.gateResult s) (h.same (by rfl)))))
  | silenceTimerExpiry => cases hexec; exact shape_ite shape_self (Shape.react (prior_ssqSilence (s := setSilence s) (h.same (by rfl))))
  | batterySample milliVolts => cases hexec; exact shape_ite shape_self (shape_sampleEvent h)
  | sagEvent => cases hexec; exact shape_ite (shape_sampleEvent (h.same (by rfl))) shape_self
  | sagRecovery => cases hexec; exact shape_ite (shape_sampleEvent (h.same (by rfl))) shape_self
  | crankFailHoldExpiry => cases hexec; exact shape_ite shape_self (.plain (h.same (by rfl)))
  | configTimerExpiry => cases hexec; exact shape_ite (shape_commit h) shape_self
  | portPointerSet addr v => cases hexec; exact shape_addressed fun u hu => .plain (hu.same (by rfl))
  | overrideWrite addr v => cases hexec; exact shape_addressed fun u hu => shape_writeOctet hu
  | commitWrite addr => cases hexec; exact shape_addressed fun u hu => shape_writeOctet hu
  | writeRefused addr v => cases hexec; exact shape_addressed fun u hu => shape_writeOctet hu
  | coherentEntryRead addr => cases hexec; exact shape_addressed fun u hu => shape_readOctet hu
  | counterLatchRead addr => cases hexec; exact shape_addressed fun u hu => shape_readOctet hu
  | portOctetRead addr => cases hexec; exact shape_addressed fun u hu => shape_readOctet hu
  | windowTimerExpiry | listeningEnd | deferredSend | deferralTimeout | checkRecordSent | lineCheckEnd | recordTaken
  | phantomHoldExpiry => exact absurd rfl hlink
  | _ => exact absurd rfl hphase

end Sys2Proof.Machine
end

section
/-! The permit's six conditions (R59), and the tests that find them. -/

namespace Sys2Proof.Machine

/-! ## The conditions as the model tests them -/

theorem firstInTheList_iff (s : State) : s.ownFirst = true ↔ FirstInTheList s := by
  unfold State.ownFirst State.ownClaim FirstInTheList
  cases hown : s.ownPosition with
  | none => simp
  | some own =>
    cases hclaim : s.cpa.claim with
    | none => simp
    | some a =>
      have hnot (m : ClaimMember) : (!m.earlier ⟨a, own⟩) = true ↔ ¬ ClaimBefore m ⟨a, own⟩ := by
        rw [Bool.not_eq_true', ← Bool.not_eq_true, earlier_iff]
      simp only [List.all_eq_true, hnot]
      constructor
      · intro hall
        refine ⟨own, a, rfl, rfl, fun p b hp hstate hb => ?_⟩
        have hbefore := hall ⟨b, p⟩ (mem_peerClaims.mpr ⟨by rw [hown]; exact hp, hb, hstate⟩)
        have hne : own ≠ p := fun h => hp (congrArg some h)
        rcases claimBefore_of_not (a := ⟨b, p⟩) (b := ⟨a, own⟩) (Ne.symm hne) hbefore with h | ⟨h, hlt⟩
        · exact Or.inl h
        · exact Or.inr ⟨h.symm, hlt⟩
      · rintro ⟨own', a', hown', ha', hall⟩ m hm hbefore
        cases hown'; cases ha'
        obtain ⟨hp, hb, hstate⟩ := mem_peerClaims.mp hm
        rw [hown] at hp
        rcases hall m.position m.age hp hstate hb, hbefore with ⟨h | ⟨h, hlt⟩, h' | ⟨h', hlt'⟩⟩
        · exact absurd h (Nat.lt_asymm h')
        · exact absurd h' (Nat.ne_of_lt h)
        · exact absurd h (Nat.ne_of_gt h')
        · exact absurd hlt (Fin.lt_asymm hlt')

theorem permitDue_iff (s : State) : s.permitConditions = true ↔ PermitDue s := by
  have hbattery : s.batteryAtLeast startMinimum = true ↔ ∃ v, s.lmn.sample = some v ∧ 232 ≤ v := batteryAtLeast_iff
  unfold State.permitConditions PermitDue
  rw [← firstInTheList_iff, ← hbattery]
  cases s.cpa.claim with
  | none => simp
  | some a => simp [and_assoc]

/-! ## The grant -/

theorem grantTest_of_due {s : State} (he : s.ssq.engine = .claiming) (h : PermitDue s) : grantTest s = addSeq .run (enter .prelube s) := by
  unfold grantTest
  rw [if_pos (by rw [(permitDue_iff s).mpr h, he]; rfl)]
  rfl

theorem grantTest_of_not_due {s : State} (h : s.ssq.engine ≠ .claiming ∨ ¬ PermitDue s) : grantTest s = s := by
  unfold grantTest
  refine if_neg fun hgrant => ?_
  rw [Bool.and_eq_true, decide_eq_true_eq] at hgrant
  rcases h with h | h
  · exact h hgrant.1
  · exact h ((permitDue_iff s).mp hgrant.2)

/-! ## What the conditions read -/

/-- The link is JOINED or ALONE (R59). -/
def State.Linked (s : State) : Prop := s.clc.linkState = .joined ∨ s.clc.linkState = .alone

/-- What the conditions of a grant read, the same or still met. -/
structure SameGrant (s t : State) : Prop where
  claim : t.cpa.claim = s.cpa.claim
  mpt : t.mpt = s.mpt
  entries : ∀ p, s.ownPosition ≠ some p → t.entry p = s.entry p
  holds : t.cpa.holds = s.cpa.holds
  link : t.Linked ↔ s.Linked
  lines : t.lmn.lines = s.lmn.lines
  sample : t.lmn.sample = s.lmn.sample

theorem SameGrant.permitInUse {s t : State} (h : SameGrant s t) : t.permitInUse = s.permitInUse := by
  have hothers : t.others = s.others := by unfold State.others State.ownPosition; rw [h.mpt]
  have hpeers : t.others.any (fun p => (t.entry p).liveOrStale && (t.entry p).engine.holdsPermit)
      = s.others.any (fun p => (s.entry p).liveOrStale && (s.entry p).engine.holdsPermit) := by
    rw [hothers, Bool.eq_iff_iff, List.any_eq_true, List.any_eq_true]
    refine exists_congr fun p => and_congr_right fun hp => ?_
    rw [h.entries p (mem_others.mp hp)]
  have hrunning : t.holdRunning = s.holdRunning := by unfold State.holdRunning; rw [h.holds]
  unfold State.permitInUse; rw [hpeers, hrunning]

theorem SameGrant.due {s t : State} (h : SameGrant s t) (hdue : PermitDue s) : PermitDue t := by
  obtain ⟨hsettled, ⟨own, a, hown, ha, hfirst⟩, huse, hlink, hestop, hsample⟩ := hdue
  have hposition : t.ownPosition = s.ownPosition := by unfold State.ownPosition; rw [h.mpt]
  refine ⟨by rw [h.claim]; exact hsettled, ⟨own, a, hposition.trans hown, h.claim.trans ha, fun p b hp => ?_⟩,
    h.permitInUse.trans huse, h.link.mpr hlink, ?_, by rw [h.sample]; exact hsample⟩
  · rw [hposition] at hp
    rw [h.entries p hp]; exact hfirst p b hp
  · unfold State.estop at hestop ⊢; rw [h.lines]; exact hestop

/-- An outer part, a claim and a link state that stand. -/
theorem sameGrant_of_outer {s t : State} (houter : t.outer = s.outer) (hclaim : t.cpa.claim = s.cpa.claim)
    (hlink : t.Linked ↔ s.Linked) : SameGrant s t where
  claim := hclaim
  mpt := mpt_of_outer houter
  entries p _ := by unfold State.entry; rw [table_of_outer houter]
  holds := congrArg Outer.holds houter
  link := hlink
  lines := congrArg Lmn.lines (lmn_of_outer houter)
  sample := congrArg Lmn.sample (lmn_of_outer houter)

/-- No move of the deciding blocks leaves or enters JOINED and ALONE together. -/
theorem Move.linked {s t : State} (h : Move s t) : t.Linked ↔ s.Linked := by
  have hsame {u : State} (hclc : u.clc = s.clc) : u.Linked ↔ s.Linked := by unfold State.Linked; rw [hclc]
  cases h with
  | link s hold =>
    refine iff_of_true ?_ hold
    show s.joinedOrAlone = .joined ∨ s.joinedOrAlone = .alone
    unfold State.joinedOrAlone; split
    · exact Or.inr rfl
    · exact Or.inl rfl
  | raise k s hk => exact hsame (raiseFault_clc k s)
  | crankFail c s => exact hsame (raiseCrankFail_clc c s)
  | clear k s hk => exact hsame (clearFault_clc k s)
  | withdraw c s => exact hsame (withdraw_clc c s)
  | post c r s hempty => exact hsame (post_clc c r s)
  | _ => exact Iff.rfl

theorem Moves.linked {s t : State} (h : Moves s t) : t.Linked ↔ s.Linked :=
  h.keeps (P := fun u => u.Linked ↔ s.Linked) (fun _ _ hmove hu => hmove.linked.trans hu) Iff.rfl

theorem SameGrant.symm {s t : State} (h : SameGrant s t) : SameGrant t s where
  claim := h.claim.symm
  mpt := h.mpt.symm
  entries p hp := (h.entries p (by unfold State.ownPosition at hp ⊢; rw [← h.mpt]; exact hp)).symm
  holds := h.holds.symm
  link := h.link.symm
  lines := h.lines.symm
  sample := h.sample.symm

theorem SameGrant.due_iff {s t : State} (h : SameGrant s t) : PermitDue t ↔ PermitDue s := ⟨h.symm.due, h.due⟩

/-! ## What the moves keep of it -/

/-- In PRELUBE the six conditions of the grant hold. -/
def Granted (s : State) : Prop := s.ssq.engine = .prelube → PermitDue s

/-- A move leaves the engine state and the claim, or enters a state with the claim that R55 gives it. -/
theorem Move.kept_or_entered {s t : State} (h : Move s t) : (t.ssq.engine = s.ssq.engine ∧ t.cpa.claim = s.cpa.claim)
    ∨ (MayEnter t.ssq.engine s ∧ t.cpa.claim = claimOnEnter s.ssq.engine t.ssq.engine s.cpa.claim) := by
  cases h with
  | ssq q s hengine hfuel => exact Or.inl ⟨hengine, rfl⟩
  | enter n q s hengine hfuel hmay => subst hengine; exact Or.inr ⟨hmay, rfl⟩
  | raise k s hk => exact Or.inl ⟨by rw [raiseFault_ssq], by rw [raiseFault_cpa]⟩
  | crankFail c s =>
    exact Or.inl ⟨congrArg Ssq.engine (raiseFault_ssq .crankFail s), congrArg Cpa.claim (raiseFault_cpa .crankFail s)⟩
  | clear k s hk => exact Or.inl ⟨by rw [clearFault_ssq], by rw [clearFault_cpa]⟩
  | withdraw c s => exact Or.inl ⟨by rw [withdraw_ssq], by rw [withdraw_cpa]⟩
  | post c r s hempty => exact Or.inl ⟨by rw [post_ssq], by rw [post_cpa]⟩
  | _ => exact Or.inl ⟨rfl, rfl⟩

theorem Move.keeps_granted {s t : State} (h : Move s t) (hs : Granted s) : Granted t := by
  intro he
  rcases h.kept_or_entered with ⟨hengine, hclaim⟩ | ⟨hmay, hclaim⟩
  · exact (sameGrant_of_outer h.outer_eq hclaim h.linked).due (hs (hengine.symm.trans he))
  · rw [he] at hclaim
    exact (sameGrant_of_outer h.outer_eq hclaim h.linked).due ((permitDue_iff s).mp (hmay.prelube he).2)

theorem granted_of_moves {s t : State} (h : Moves s t) (hs : s.ssq.engine ≠ .prelube) : Granted t :=
  h.keeps (P := Granted) (fun _ _ => Move.keeps_granted) fun he => absurd he hs

theorem Trails.granted {v t : State} (h : Trails v t) (hv : Granted v) : Granted t := by
  intro he
  refine SameGrant.due ⟨congrArg Cpa.claim h.cpa, h.mpt, h.entries, congrArg Cpa.holds h.cpa, by unfold State.Linked; rw [h.linkState],
    congrArg Lmn.lines h.lmn, congrArg Lmn.sample h.lmn⟩ (hv (by rw [← he, h.ssq]))

theorem Shape.granted {s t : State} (h : Shape s t) (hs : s.ssq.engine ≠ .prelube) : Granted t := by
  cases h with
  | plain h => exact fun he => absurd he (h.unpermitted hs)
  | reacted h ht => exact ht.granted (granted_of_moves (moves_react (.refl _)) (h.unpermitted hs))
  | sampled h =>
    exact granted_of_moves (moves_react (moves_autostopTest (moves_triggerTest (moves_grantTest (.refl _))))) (h.unpermitted hs)
  | stepped h => exact granted_of_moves (moves_stepTest (.refl _)) (h.unpermitted hs)

end Sys2Proof.Machine
end

section
/-! PRELUBE is entered with a settled claim, and never by a command that finds the engine outside CLAIMING (R59). -/

namespace Sys2Proof.Machine

/-! ## The settled claim -/

/-- The engine state and the claim. -/
def State.claimView (s : State) : EngineState × Option Nat := (s.ssq.engine, s.cpa.claim)

theorem claimView_eq {s t : State} (hengine : t.ssq.engine = s.ssq.engine) (hclaim : t.cpa.claim = s.cpa.claim) :
    t.claimView = s.claimView := Prod.ext hengine hclaim

theorem claimView_raiseFault (k : FaultKind) (s : State) : (raiseFault k s).claimView = s.claimView :=
  claimView_eq (by rw [raiseFault_ssq]) (by rw [raiseFault_cpa])

/-- In PRELUBE the claim is settled. -/
def Settled (s : State) : Prop := s.ssq.engine = .prelube → ∃ a, s.cpa.claim = some a ∧ 3 ≤ a

theorem Settled.same {s t : State} (h : Settled s) (hview : t.claimView = s.claimView) : Settled t := by
  intro he
  rw [show t.cpa.claim = s.cpa.claim from congrArg Prod.snd hview]
  exact h ((congrArg Prod.fst hview).symm.trans he)

theorem Move.keeps_settled {s t : State} (h : Move s t) (hs : Settled s) : Settled t := by
  rcases h.kept_or_entered with ⟨hengine, hclaim⟩ | ⟨hmay, hclaim⟩
  · exact hs.same (claimView_eq hengine hclaim)
  · intro he
    rw [hclaim, he]
    exact ((permitDue_iff s).mp (hmay.prelube he).2).1

theorem LinkAct.keeps_settled {s t : State} (h : LinkAct s t) (hs : Settled s) : Settled t := by
  cases h with
  | move hmove => exact hmove.keeps_settled hs
  | claim f s hsettled =>
    intro he
    obtain ⟨a, ha, hage⟩ := hs he
    exact ⟨f a, congrArg (Option.map f) ha, hsettled a hage⟩
  | duplicate s => exact hs.same (claimView_raiseFault _ s)
  | _ => exact hs

theorem Act.keeps_settled {allowed : Special → Prop} {s t : State} (h : Act allowed s t) (hs : Settled s) : Settled t := by
  cases h with
  | move hmove => exact hmove.keeps_settled hs
  | link hlink => exact hlink.keeps_settled hs
  | raise k s => exact hs.same (claimView_raiseFault k s)
  | clear k s => exact hs.same (claimView_eq (by rw [clearFault_ssq]) (by rw [clearFault_cpa]))
  | idle s => exact hs.same (claimView_eq (by rw [enterIdle_ssq]) (by rw [enterIdle_cpa]))
  | _ => exact hs

theorem exec_settled {c : Instr} {s t : State} (hexec : exec c s = .next t) (hs : s.ssq.engine ≠ .prelube) : Settled t :=
  exec_keeps (P := Settled) (fun _ _ => Act.keeps_settled) (fun _ h => nomatch h) c s t hexec fun h => absurd h hs

/-! ## The claim that is too young -/

/-- The engine outside PRELUBE, a claim in CLAIMING of age `k` at most. -/
structure Young (k : Nat) (s : State) : Prop where
  unpermitted : s.ssq.engine ≠ .prelube
  young : s.ssq.engine = .claiming → ∃ a, s.cpa.claim = some a ∧ a ≤ k

section
variable {k i : Nat} {p : Fin 8} {s t old : State} (h : Young k s)
include h

theorem Young.same (hview : t.claimView = s.claimView) : Young k t where
  unpermitted := by rw [show t.ssq.engine = s.ssq.engine from congrArg Prod.fst hview]; exact h.unpermitted
  young he := by
    rw [show t.cpa.claim = s.cpa.claim from congrArg Prod.snd hview]
    exact h.young ((congrArg Prod.fst hview).symm.trans he)

theorem young_ite {c : Prop} [Decidable c] (ht : Young k t) : Young k (if c then t else s) := by
  split
  · exact ht
  · exact h

theorem Young.mono {n : Nat} (hn : k ≤ n) : Young n s where
  unpermitted := h.unpermitted
  young he := by
    obtain ⟨a, ha, hage⟩ := h.young he
    exact ⟨a, ha, Nat.le_trans hage hn⟩

theorem young_boundaryWork : Young (k + 1) (boundaryWork s) where
  unpermitted := by rw [boundaryWork_eq]; exact h.unpermitted
  young he := by
    rw [boundaryWork_eq] at he ⊢
    obtain ⟨a, ha, hage⟩ := h.young he
    exact ⟨satAdd 255 a 1, congrArg (Option.map fun a => satAdd 255 a 1) ha, Nat.le_trans (Nat.min_le_right _ _) (Nat.succ_le_succ hage)⟩

theorem young_sendRecord (b : Bool) : Young k (sendRecord b s) := by
  have hsent := sendRecord_eq b s
  generalize sendRecord b s = v at hsent
  rw [hsent]; exact h.same rfl

theorem young_beginOwnWindow : Young k (beginOwnWindow s) := young_ite h (young_ite (young_sendRecord h false) (h.same (by rfl)))

theorem young_leaveChecking : Young k (leaveChecking s) := by
  unfold leaveChecking; split
  · exact h.same rfl
  · exact h

theorem young_duplicatePosition : Young k (duplicatePosition s) := by
  have hraised : Young k (raiseFault .duplicatePosition
      (mapCounters (fun c => { c with dupPositionSeen := sat16 c.dupPositionSeen }) s)) :=
    h.same (claimView_raiseFault _ _)
  unfold duplicatePosition; simp only []
  generalize raiseFault .duplicatePosition
    (mapCounters (fun c => { c with dupPositionSeen := sat16 c.dupPositionSeen }) s) = v at hraised
  have htx : Young k (if v.clc.tx = .deferring then setTx .idle v else v) := young_ite hraised (hraised.same (by rfl))
  exact htx.same rfl

section
variable (hk : k ≤ 2)
include hk

omit h in
/-- A claim under the age of 3 is not granted. -/
theorem Move.keeps_young {u v : State} (hmove : Move u v) (hu : Young k u) : Young k v := by
  rcases hmove.kept_or_entered with ⟨hengine, hclaim⟩ | ⟨hmay, hclaim⟩
  · exact hu.same (claimView_eq hengine hclaim)
  · refine ⟨fun he => ?_, fun he => ?_⟩
    · obtain ⟨hclaiming, hgrant⟩ := hmay.prelube he
      obtain ⟨a, ha, hage⟩ := hu.young hclaiming
      obtain ⟨a', ha', hage'⟩ := ((permitDue_iff u).mp hgrant).1
      have hsame : a' = a := Option.some.inj (ha'.symm.trans ha)
      omega
    · rw [hclaim, he]
      exact ⟨0, if_neg hu.unpermitted, Nat.zero_le k⟩

theorem young_moves (hmoves : Moves s t) : Young k t := hmoves.keeps (P := Young k) (fun _ _ hm hu => hm.keeps_young hk hu) h

theorem young_react : Young k (react old s) := young_moves h hk (moves_react (.refl s))

/-! ## The link's operations that pass no boundary -/

theorem young_checkSent (b : Bool) : Young k (checkSent b s) := by
  have hcounted : Young k (countCheckSent b (stopSending s)) := h.same rfl
  exact young_ite hcounted (young_react (young_leaveChecking hcounted) hk)

theorem young_finishSending : Young k (finishSending s) := by
  unfold finishSending; repeat' split
  · exact young_checkSent h hk _
  · exact h.same rfl
  · exact h

theorem young_pairQuiet : Young k (pairQuiet s) := (young_finishSending h hk).same rfl

theorem young_closeWindow : Young k (closeWindow s) := young_ite (young_finishSending h hk) (h.same (by rfl))

theorem young_refreshEntry (e : Entry) : Young k (refreshEntry p e s) := by
  have hset : Young k (endHold p (setEntry p e s)) := h.same rfl
  exact young_react (young_moves hset hk (moves_clashTest (.refl _))) hk

theorem young_relayedRefreshes (v : Fin 8) (ms : List Summary) : Young k (relayedRefreshes v ms s) := by
  induction ms generalizing s with
  | nil => exact h
  | cons m ms ih =>
    refine ih ?_
    rcases relayedRefresh_cases v m s with hm | hm <;> rw [hm]
    · exact h
    · exact young_refreshEntry h hk _

theorem young_handOn (r : Record) : Young k (handOn r s) := by
  unfold handOn
  rw [directRefresh_eq, tagCounted_clc]
  exact young_relayedRefreshes (young_refreshEntry (h.same (by rfl)) hk _) hk _ _

end

/-! ## The boundaries -/

theorem young_passZero (hk : k + 1 ≤ 2) : Young (k + 1) (passZero s) :=
  young_ite (young_react (young_boundaryWork h) hk) ((h.mono (Nat.le_succ k)).same (by rfl))

theorem young_crossZero (hk : k + 1 ≤ 2) (q : Fin 8) (j : Fin 8) : Young (k + 1) (crossZero q j s) :=
  have hstood : Young (k + 1) s := h.mono (Nat.le_succ k)
  young_ite (young_ite hstood (hstood.same (by rfl))) (young_passZero h hk)

theorem young_advanceWindow (hk : k + 1 ≤ 2) : Young (k + 1) (advanceWindow s) := by
  have hset : Young k (setWindow (s.clc.windowIndex + 1) 0 s) := h.same rfl
  have hpassed := young_ite (c := s.clc.windowIndex = 7) (hset.mono (Nat.le_succ k)) (young_passZero hset hk)
  exact young_ite hpassed (young_beginOwnWindow hpassed)

theorem young_expireWindow (hk : k + 1 ≤ 2) : Young (k + 1) (expireWindow i s) :=
  young_advanceWindow ((young_closeWindow h (Nat.le_of_succ_le hk)).same (by rfl)) hk

/-- A realignment passes two boundaries at most. -/
theorem young_realign (hk : k + 2 ≤ 2) : Young (k + 2) (realign p i s) := by
  have hmissed : Young k
      (if s.clc.tx = .deferring ∧ p ≠ s.clc.windowIndex then countMissed (setTx .idle s)
       else if s.missesWindow s.clc.windowIndex p && s.clc.linkState.sends then countMissed s else s) :=
    young_ite (young_ite h (h.same (by rfl))) (h.same (by rfl))
  unfold realign; simp only []
  generalize (if s.clc.tx = .deferring ∧ p ≠ s.clc.windowIndex then countMissed (setTx .idle s)
       else if s.missesWindow s.clc.windowIndex p && s.clc.linkState.sends then countMissed s else s) = u at hmissed
  have hcrossed := young_crossZero (s := setWindow p i u) (hmissed.same (by rfl)) (Nat.le_of_succ_le hk) s.clc.windowIndex p
  exact young_ite (hcrossed.mono (Nat.le_succ _)) (young_advanceWindow hcrossed hk)

end

/-! ## The commands -/

theorem young_actOnRecord {s : State} (h : Young 0 s) (r : Record) (i : Nat) : Young 2 (actOnRecord r i s) := by
  have hcompared (v : State) (hv : Young 2 v) : Young 2 (compareCheck r v) := hv.same rfl
  have hcounted : Young 0 (mapCounters (fun c => { c with recordsGood := sat16 c.recordsGood }) s) := h.same rfl
  unfold actOnRecord; simp only []
  generalize mapCounters (fun c => { c with recordsGood := sat16 c.recordsGood }) s = v at hcounted
  have haged : Young 2 v := hcounted.mono (by decide)
  have haligned := young_ite (c := r.deferred = true) (young_realign (p := r.origin) (i := i) hcounted (by decide)) haged
  split
  · exact young_ite haligned (hcompared _ haligned)
  · exact young_ite (young_ite (young_handOn haligned (by decide) r) (hcompared _ haligned))
      (young_ite (young_react (young_duplicatePosition haged) (by decide)) haged)

theorem young_linkCommand {c : Instr} {s t : State} (hc : isLinkCommand c = true) (h : Young 0 s) (hexec : exec c s = .next t) :
    Young 2 t := by
  have hmono {v : State} (hv : Young 0 v) : Young 2 v := hv.mono (by decide)
  have hquiet : Young 0 (pairQuiet s) := young_pairQuiet h (by decide)
  have hfinished : Young 0 (finishSending s) := young_finishSending h (by decide)
  cases c with
  | windowTimerExpiry b => cases hexec; exact young_ite ((young_expireWindow h (by decide)).mono (by decide)) (hmono h)
  | listeningEnd =>
    cases hexec
    exact young_ite (hmono h) ((young_expireWindow (s := useFree s) (h.same (by rfl)) (by decide)).mono (by decide))
  | deferredSend => cases hexec; exact young_ite (hmono h) (hmono (young_sendRecord hquiet true))
  | deferralTimeout => cases hexec; exact young_ite (hmono h) (hmono (h.same (by rfl)))
  | checkRecordSent => cases hexec; exact young_ite (hmono h) (hmono hfinished)
  | lineCheckEnd => cases hexec; exact young_ite (hmono h) (hmono hfinished)
  | recordTaken octets =>
    cases hexec
    refine young_ite (young_ite ?_ (hmono hquiet)) (hmono h)
    cases haccept : acceptRecord octets with
    | some r => exact young_actOnRecord hquiet r _
    | none =>
      obtain ⟨v, hrejected, -⟩ := rejectRecord_eq (ws := octets) (s := pairQuiet s)
      exact hmono (by simp only []; rw [hrejected]; exact (hquiet.same (by rfl)))
  | phantomHoldExpiry p => cases hexec; exact young_ite (hmono h) (young_react (hmono (h.same (by rfl))) (by decide))
  | _ => cases hc

theorem Prior.young {s u : State} (h : Prior s u) (hc : s.ssq.engine ≠ .claiming) (hp : s.ssq.engine ≠ .prelube) : Young 0 u :=
  ⟨h.unpermitted hp, fun he => ⟨0, h.claimed hc hp he, Nat.le_refl 0⟩⟩

theorem Shape.young {s t : State} (h : Shape s t) (hc : s.ssq.engine ≠ .claiming) (hp : s.ssq.engine ≠ .prelube) : Young 0 t := by
  cases h with
  | plain h => exact h.young hc hp
  | reacted h ht =>
    exact (young_react (h.young hc hp) (by decide)).same (claimView_eq (congrArg Ssq.engine ht.ssq) (congrArg Cpa.claim ht.cpa))
  | sampled h =>
    exact young_moves (h.young hc hp) (by decide)
      (moves_react (moves_autostopTest (moves_triggerTest (moves_grantTest (.refl _)))))
  | stepped h => exact young_moves (h.young hc hp) (by decide) (moves_stepTest (.refl _))

/-- PRELUBE is entered from CLAIMING alone. -/
theorem exec_prelube_of_claiming {c : Instr} {s t : State} (hexec : exec c s = .next t) (hp : s.ssq.engine ≠ .prelube)
    (ht : t.ssq.engine = .prelube) : s.ssq.engine = .claiming := by
  by_contra hc
  have hstart : Young 0 s := (Prior.refl s).young hc hp
  by_cases hlink : isLinkCommand c = true
  · exact (young_linkCommand hlink hstart hexec).unpermitted ht
  · exact ((exec_shape (fun h => absurd h hlink) hexec).young hc hp).unpermitted ht

end Sys2Proof.Machine
end

section
/-! The permit is granted on its six conditions (R59): BATTERY_SAMPLE in CLAIMING, and every other test. -/

namespace Sys2Proof.Machine

/-! ## The sample taken by the detector -/

/-- Outside CRANKING the sag detector leaves what the conditions of a grant read. -/
theorem sameGrant_detectSag (n : Nat) {s : State} (he : s.ssq.engine ≠ .cranking) : SameGrant s (detectSag n s) := by
  have hsag (u : State) (hu : u.ssq.engine ≠ .cranking) : ssqSag u = u := if_neg hu
  have hcount (m : Lmn) (hlines : m.lines = s.lmn.lines) (hsample : m.sample = s.lmn.sample) : SameGrant s { s with lmn := m } :=
    ⟨rfl, rfl, fun _ _ => rfl, rfl, Iff.rfl, hlines, hsample⟩
  unfold detectSag takeSag takeRecovery; repeat' split
  · unfold clearFault; split
    · exact ⟨rfl, rfl, fun _ _ => rfl, rfl, Iff.rfl, rfl, rfl⟩
    · exact hcount _ rfl rfl
  · exact hcount _ rfl rfl
  · exact hcount _ rfl rfl
  · rw [hsag _ (by rw [raiseFault_ssq]; exact he), raiseFault_eq]
    exact ⟨rfl, rfl, fun _ _ => rfl, rfl, Iff.rfl, rfl, rfl⟩
  · exact hcount _ rfl rfl
  · exact hcount _ rfl rfl

/-! ## The reaction in CLAIMING without the conditions, and after the grant -/

theorem react_of_ungranted (old : State) {s : State} (he : s.ssq.engine = .claiming) (h : ¬ PermitDue s) : Undecided s (react old s) := by
  have hsame : SameGrant s (upkept s) := sameGrant_of_outer (outer_upkept s) (by rw [upkept_cpa]) (moves_upkept s).linked
  have hkept : grantTest (upkept s) = upkept s := grantTest_of_not_due (Or.inr (mt hsame.due_iff.mp h))
  unfold react; rw [decideBlocks_of_claiming old he, ite_test hkept]
  exact (undecided_upkept s).trans (posted_postOrders old (Or.inr (by rw [upkept_ssq, he]; decide))).undecided

/-- With the permit free there is no clash, and PRELUBE stays. -/
theorem react_of_free (old : State) {s : State} (he : s.ssq.engine = .prelube) (h : s.permitInUse = false) : Undecided s (react old s) := by
  have hkeep : s.mustYield = false := by
    rw [← Bool.not_eq_true]
    intro hyield
    obtain ⟨p, hp⟩ := exists_clash_of_mustYield hyield
    exact absurd (permitInUse_of_clash hp) (by rw [h]; decide)
  have hupkept : (upkept s).mustYield = false := (mustYield_of_same (outer_upkept s) (by rw [upkept_cpa])).trans hkeep
  exact react_of_unyielding (Or.inl he) (Or.inr (clashTest_of_keep hupkept))

/-- PRELUBE as the grant enters it. -/
structure PermitTaken (s w : State) : Prop where
  engine : w.ssq.engine = .prelube
  claim : w.cpa.claim = s.cpa.claim
  run : s.estop = false → w.estop = false ∧ Waits .run w
  prelube : w.ssq.prelube = some 60000
  tick : w.ssq.prelubeTick = some 500

theorem permitTaken_grantTest {s : State} (he : s.ssq.engine = .claiming) (h : PermitDue s) :
    PermitTaken s (grantTest s) ∧ (grantTest s).permitInUse = false := by
  obtain ⟨l, r, hadd⟩ := addSeq_eq .run (enter .prelube s)
  have hssq := enter_ssq_of_ne (n := .prelube) (by decide) s
  have houter : (addSeq .run (enter .prelube s)).outer = s.outer := (outer_addSeq _ _).trans (outer_enter _ _)
  have hclaim : (addSeq .run (enter .prelube s)).cpa.claim = s.cpa.claim := by rw [addSeq_cpa, enter_claim]; rfl
  have hlink : (addSeq .run (enter .prelube s)).Linked ↔ s.Linked := by
    unfold State.Linked; rw [hadd]
    show (enter .prelube s).clc.linkState = _ ∨ (enter .prelube s).clc.linkState = _ ↔ _
    rw [enter_clc]
  have hfree := (sameGrant_of_outer houter hclaim hlink).permitInUse.trans h.2.2.1
  have hrun (hestop : s.estop = false) :
      (addSeq .run (enter .prelube s)).estop = false ∧ Waits .run (addSeq .run (enter .prelube s)) :=
    ⟨(estop_of_outer houter).trans hestop, waits_addSeq ((estop_of_outer (outer_enter _ _)).trans hestop)⟩
  rw [grantTest_of_due he h]
  refine ⟨⟨?_, hclaim, hrun, ?_, ?_⟩, hfree⟩ <;> rw [hadd]
  · exact engine_enter .prelube s
  · show (enter .prelube s).ssq.prelube = _
    rw [hssq]; rfl
  · show (enter .prelube s).ssq.prelubeTick = _
    rw [hssq]; rfl

/-- A reaction that decides nothing leaves PRELUBE as it was entered. -/
theorem PermitTaken.undecided {s w t : State} (hw : PermitTaken s w) (h : Undecided w t) : PermitTaken s t where
  engine := h.engine.trans hw.engine
  claim := (congrArg Cpa.claim h.cpa).trans hw.claim
  run hestop :=
    have hrun := hw.run hestop
    ⟨h.estop.trans hrun.1, h.waits hrun.1 _ hrun.2⟩
  prelube := by rw [h.ssq]; exact hw.prelube
  tick := by rw [h.ssq]; exact hw.tick

/-! ## The sample event in CLAIMING -/

section
variable {n : Nat} {s : State} (he : s.ssq.engine = .claiming)
include he

theorem sampleEvent_grants (h : PermitDue (latch n s)) : PermitTaken (latch n s) (sampleEvent n s) := by
  have hsame := sameGrant_detectSag n (s := latch n s) (by rw [show (latch n s).ssq = s.ssq from rfl, he]; decide)
  have hengine : (detectSag n (latch n s)).ssq.engine = .claiming := by
    rw [(sampled_detectSag (by rw [he]; decide) n).ssq]; exact he
  have hunfold : sampleEvent n s = react s (autostopTest (triggerTest (grantTest (detectSag n (latch n s))))) := rfl
  obtain ⟨htaken, hfree⟩ := permitTaken_grantTest hengine (hsame.due h)
  have hestop : (detectSag n (latch n s)).estop = (latch n s).estop := by unfold State.estop; rw [hsame.lines]
  have hfrom : PermitTaken (latch n s) (grantTest (detectSag n (latch n s))) :=
    ⟨htaken.engine, htaken.claim.trans hsame.claim, fun hs => htaken.run (hestop.trans hs), htaken.prelube, htaken.tick⟩
  have hprelube := htaken.engine
  rw [hunfold]
  generalize grantTest (detectSag n (latch n s)) = w at hprelube hfree hfrom
  rw [triggerTest_of_ne (by rw [hprelube]; decide) (by rw [hprelube]; decide), autostopTest_of_ne (by rw [hprelube]; decide)]
  exact hfrom.undecided (react_of_free s hprelube hfree)

theorem sampleEvent_ungranted (h : ¬ PermitDue (latch n s)) :
    (sampleEvent n s).ssq.engine = .claiming ∧ (sampleEvent n s).cpa.claim = s.cpa.claim := by
  have hsame := sameGrant_detectSag n (s := latch n s) (by rw [show (latch n s).ssq = s.ssq from rfl, he]; decide)
  have hengine : (detectSag n (latch n s)).ssq.engine = .claiming := by
    rw [(sampled_detectSag (by rw [he]; decide) n).ssq]; exact he
  have hunfold : sampleEvent n s = react s (autostopTest (triggerTest (grantTest (detectSag n (latch n s))))) := rfl
  have hnot := mt hsame.due_iff.mp h
  have hclaim := hsame.claim
  rw [hunfold]
  generalize detectSag n (latch n s) = v at hengine hnot hclaim
  rw [grantTest_of_not_due (Or.inr hnot), triggerTest_of_ne (by rw [hengine]; decide) (by rw [hengine]; decide),
    autostopTest_of_ne (by rw [hengine]; decide)]
  have hreact := react_of_ungranted s hengine hnot
  exact ⟨hreact.engine.trans hengine, (congrArg Cpa.claim hreact.cpa).trans hclaim⟩

end

/-- The latest sample alone counts among what the monitors latch of it. -/
theorem permitDue_latch {n : Nat} {s : State} : PermitDue (latch n s) ↔ PermitDue { s with lmn := { s.lmn with sample := some n } } :=
  SameGrant.due_iff ⟨rfl, rfl, fun _ _ => rfl, rfl, Iff.rfl, rfl, rfl⟩

/-- Settles O21: the tests are the six conditions; every grant is a move that finds them, and what trails it changes none of them; a
claim made by a command is too young to be granted in it. -/
theorem permitIsGrantedOnItsSixConditions : Obligations.PermitIsGrantedOnItsSixConditions := by
  unfold Obligations.PermitIsGrantedOnItsSixConditions
  refine ⟨?_, firstInTheList_iff, fun s he h => ?_, fun s => grantTest_of_not_due, ?_, ?_⟩
  · intro mv a s htimer he hclaim hage hfirst huse hlink hestop hmv
    have hdue : PermitDue (latch (sampleOf mv) s) :=
      ⟨⟨a, hclaim, hage⟩, (firstInTheList_iff (latch (sampleOf mv) s)).mp hfirst, huse, hlink, hestop, sampleOf mv, rfl,
        by unfold sampleOf; omega⟩
    have hexec := exec_batterySample (mv := mv) htimer
    have htaken := sampleEvent_grants he hdue
    generalize sampleEvent (sampleOf mv) s = t at hexec htaken
    exact ⟨t, hexec, htaken.engine, htaken.claim.trans hclaim, waits_iff.mp (htaken.run hestop).2, htaken.prelube, htaken.tick⟩
  · obtain ⟨⟨hengine, hclaim, -⟩, -⟩ := permitTaken_grantTest he h
    exact ⟨hengine, hclaim⟩
  · intro mv s htimer he hnot
    have hexec := exec_batterySample (mv := mv) htimer
    have hlatched : ¬ PermitDue (latch (sampleOf mv) s) := by
      rw [permitDue_latch]; unfold sampleOf; exact hnot
    have hkept := sampleEvent_ungranted he hlatched
    generalize sampleEvent (sampleOf mv) s = t at hexec hkept
    exact ⟨t, hexec, hkept⟩
  · intro cmd s t hexec hs ht
    exact ⟨exec_prelube_of_claiming hexec hs ht, exec_settled hexec hs ht,
      fun hone => (exec_shape (fun _ => hone) hexec).granted hs ht⟩

end Sys2Proof.Machine
end

section
/-! The conditions of an up-step (R112, R113), and the tests that find them. -/

namespace Sys2Proof.Machine

/-! ## The conditions as the model tests them -/

theorem freeToStep_iff (s : State) : s.freeToStep = true ↔ FreeToStep s := by
  have hbusy : s.unloadBusy = false ↔ ∀ r, s.erc.slots.protect.request = some r → r.producer ≠ .nsp := by
    unfold State.unloadBusy
    cases s.erc.slots.protect.request <;> simp
  unfold State.freeToStep FreeToStep
  rw [← hbusy]
  simp only [Bool.and_eq_true, Option.isNone_iff_eq_none, Slot.isEmpty_iff, List.isEmpty_iff, Bool.not_eq_true', and_assoc]

theorem targetNotch_le (s : State) : s.targetNotch ≤ 8 :=
  calc s.targetNotch ≤ s.cap := Nat.min_le_right _ _
    _ ≤ s.derateCap := (cap_le s).1
    _ ≤ 8 := (foldl_min_le _ 8).1

theorem upDwells_eq : ∀ n, n < 8 → upDwells[n]? = some (upDwell n) := by decide

theorem lowestClimbing_iff {s : State} : (∀ n, s.lowestClimbing = some n → s.nsp.completed ≤ n)
    ↔ ∀ p, s.ownPosition ≠ some p → (s.entry p).state = .live → climbing (s.entry p) → s.nsp.completed ≤ (s.entry p).completed := by
  obtain ⟨hmem, hnone, hsome, -⟩ := tableViews s
  constructor
  · intro hlow p hp hlive hclimb
    have hclimber := (hmem p).mpr ⟨hp, hlive, hclimb⟩
    cases hlowest : s.lowestClimbing with
    | none => rw [hnone.mp hlowest] at hclimber; cases hclimber
    | some n => exact Nat.le_trans (hlow n hlowest) (((hsome n).mp hlowest).2 p hclimber)
  · intro hall n hlowest
    obtain ⟨⟨p, hp, rfl⟩, -⟩ := (hsome n).mp hlowest
    obtain ⟨hown, hlive, hclimb⟩ := (hmem p).mp hp
    exact hall p hown hlive hclimb

theorem staleClimber_iff {s : State} :
    s.staleClimber = false ↔ ∀ p, s.ownPosition ≠ some p → (s.entry p).state = .stale → ¬ climbing (s.entry p) := by
  obtain ⟨-, -, -, hstale, -⟩ := tableViews s
  rw [← Bool.not_eq_true, hstale]
  exact ⟨fun h p hp hs hc => h ⟨p, hp, hs, hc⟩, fun h ⟨p, hp, hs, hc⟩ => h p hp hs hc⟩

theorem upDwellReached_iff {s : State} (h : s.nsp.completed < s.targetNotch) : s.dwellReached (upDwell s.nsp.completed) = true
    ↔ ∃ d w, s.nsp.dwell = some d ∧ upDwells[s.nsp.completed]? = some w ∧ w ≤ d := by
  rw [dwellReached_iff, upDwells_eq _ (Nat.lt_of_lt_of_le h (targetNotch_le s))]
  simp

/-- An up-step is due where NSP is free to step and the climb is allowed. -/
theorem upStepDue_iff (s : State) : s.upStepDue = true ↔ FreeToStep s ∧ ClimbAllowed s := by
  have hdue : s.upStepDue = true ↔ s.nsp.completed < s.targetNotch ∧ s.freeToStep = true
      ∧ s.dwellReached (upDwell s.nsp.completed) = true ∧ (∀ n, s.lowestClimbing = some n → s.nsp.completed ≤ n)
      ∧ s.staleClimber = false ∧ s.nsp.abandonHold = none ∧ s.faultActive .speedDeviation = false := by
    unfold State.upStepDue
    cases s.lowestClimbing with
    | none => simp [and_assoc]
    | some n => simp [and_assoc]
  rw [hdue, freeToStep_iff, lowestClimbing_iff, staleClimber_iff]
  unfold ClimbAllowed
  constructor
  · rintro ⟨htarget, hfree, hdwell, hrest⟩
    exact ⟨hfree, htarget, (upDwellReached_iff htarget).mp hdwell, hrest⟩
  · rintro ⟨hfree, htarget, hdwell, hrest⟩
    exact ⟨htarget, hfree, (upDwellReached_iff htarget).mpr hdwell, hrest⟩

/-! ## The test that starts an up-step -/

theorem stepTest_of_upStepDue {s : State} (hdue : s.upStepDue = true) : stepTest s = startUp s := if_pos hdue

/-- The up-step as a test starts it. -/
def upStep (s : State) : Step := ⟨.up, s.nsp.completed, s.nsp.completed + 1, .first, false⟩

/-- A test that puts an up-step in flight has found one due, and no ESTOP: the other two kinds go in another direction. -/
theorem upStep_of_stepTest {s : State} {x : Step} (hidle : s.nsp.step = none) (hstarted : (stepTest s).nsp.step = some x)
    (hup : x.direction = .up) : s.upStepDue = true ∧ s.estop = false ∧ x = upStep s := by
  rcases stepTest_cases s with ⟨hdue, h⟩ | ⟨-, h⟩ | ⟨-, h⟩ | ⟨-, -, -, h⟩
  · rw [h, startUp_step, Option.ite_none_left_eq_some, Option.some.injEq] at hstarted
    obtain ⟨hestop, hstep⟩ := hstarted
    exact ⟨hdue, Bool.eq_false_iff.mpr hestop, hstep.symm⟩
  · rw [h, startDown_step, Option.ite_none_left_eq_some, Option.some.injEq] at hstarted
    obtain ⟨-, rfl⟩ := hstarted
    cases hup
  · rw [h, startRetry_step, Option.ite_none_left_eq_some, Option.some.injEq] at hstarted
    obtain ⟨-, rfl⟩ := hstarted
    cases hup
  · rw [h, hidle] at hstarted
    cases hstarted

/-- What the start of an up-step does: the step, and its order posted. -/
structure SteppedUp (s t : State) : Prop where
  nsp : t.nsp = { s.nsp with step := some (upStep s) }
  request : t.erc.slots.notch.request = some ⟨.setSpeed, BitVec.ofNat 16 (s.notchSpeed (s.nsp.completed + 1)), .nsp⟩
  ssq : t.ssq = s.ssq
  fcl : t.fcl = s.fcl
  outer : t.outer = s.outer
  devices : t.devices = s.devices

theorem steppedUp_startUp {s : State} (hestop : s.estop = false) : SteppedUp s (startUp s) := by
  have hset : setStep (some (upStep s)) s = { s with nsp := { s.nsp with step := some (upStep s) } } := rfl
  have hspeed : (setStep (some (upStep s)) s).notchSpeed (s.nsp.completed + 1) = s.notchSpeed (s.nsp.completed + 1) := rfl
  have houter : (setStep (some (upStep s)) s).outer = s.outer := rfl
  have hdevices : (setStep (some (upStep s)) s).devices = s.devices := rfl
  rw [startUp_of_free hestop]
  change SteppedUp s (postSpeed (s.nsp.completed + 1) (setStep (some (upStep s)) s))
  unfold postSpeed
  rw [hspeed]
  refine ⟨by rw [post_nsp, hset], post_request .notch _ _, by rw [post_ssq, hset], by rw [post_fcl', hset], ?_, ?_⟩
  · exact (congrArg State.outer (post_eq .notch _ _)).trans houter
  · exact (devices_post _ _ _).trans hdevices

/-! ## What the climb's conditions read -/

/-- What the conditions of a climb read, the same. -/
structure SameClimb (s t : State) : Prop where
  completed : t.nsp.completed = s.nsp.completed
  dwell : t.nsp.dwell = s.nsp.dwell
  abandonHold : t.nsp.abandonHold = s.nsp.abandonHold
  reading : t.nsp.reading = s.nsp.reading
  derates : t.nsp.derates = s.nsp.derates
  mpt : t.mpt = s.mpt
  entries : ∀ p, s.ownPosition ≠ some p → t.entry p = s.entry p
  lmn : t.lmn = s.lmn
  ssq : t.ssq = s.ssq
  health : t.erc.health = s.erc.health
  active : t.fcl.active = s.fcl.active

section
variable {s t : State} (h : SameClimb s t)
include h

theorem SameClimb.ownPosition : t.ownPosition = s.ownPosition := by unfold State.ownPosition; rw [h.mpt]

theorem SameClimb.peerDemands : t.peerDemands = s.peerDemands := by
  have hothers : t.others = s.others := by unfold State.others; rw [h.ownPosition]
  unfold State.peerDemands; rw [hothers]
  refine List.filterMap_congr fun p hp => ?_
  rw [h.entries p (mem_others.mp hp)]

theorem SameClimb.targetNotch : t.targetNotch = s.targetNotch := by
  have hdemand : t.effectiveDemand = s.effectiveDemand := by unfold State.effectiveDemand; rw [h.reading, h.peerDemands]
  have hcap : t.cap = s.cap := by
    unfold State.cap State.isolated State.deviceFailed State.derateCap
    rw [h.lmn, h.ssq, h.health, h.derates]
  unfold State.targetNotch; rw [hdemand, hcap]

theorem SameClimb.allowed (hs : ClimbAllowed s) : ClimbAllowed t := by
  unfold ClimbAllowed State.faultActive at hs ⊢
  rw [h.targetNotch, h.completed, h.dwell, h.abandonHold, h.active, h.ownPosition]
  obtain ⟨htarget, hdwell, hlive, hstale, hhold, hfault⟩ := hs
  refine ⟨htarget, hdwell, fun p hp => ?_, fun p hp => ?_, hhold, hfault⟩ <;> rw [h.entries p hp]
  · exact hlive p hp
  · exact hstale p hp

end

/-- The step in flight is none of it. -/
theorem SteppedUp.same {s t : State} (h : SteppedUp s t) : SameClimb s t where
  completed := by rw [h.nsp]
  dwell := by rw [h.nsp]
  abandonHold := by rw [h.nsp]
  reading := by rw [h.nsp]
  derates := by rw [h.nsp]
  mpt := mpt_of_outer h.outer
  entries p _ := by unfold State.entry; rw [table_of_outer h.outer]
  lmn := lmn_of_outer h.outer
  ssq := h.ssq
  health := congrArg (fun x => x.2.1) h.devices
  active := congrArg Fcl.active h.fcl

theorem Trails.same {v t : State} (h : Trails v t) : SameClimb v t where
  completed := congrArg Nsp.completed h.nsp
  dwell := congrArg Nsp.dwell h.nsp
  abandonHold := congrArg Nsp.abandonHold h.nsp
  reading := congrArg Nsp.reading h.nsp
  derates := congrArg Nsp.derates h.nsp
  mpt := h.mpt
  entries := h.entries
  lmn := h.lmn
  ssq := h.ssq
  health := h.health
  active := h.active

end Sys2Proof.Machine
end

section
/-! No command starts an up-step but a test that finds its conditions (R113, R116). -/

namespace Sys2Proof.Machine

/-! ## No other operation starts a step -/

/-- No step is in flight. -/
def Stepless (s : State) : Prop := s.nsp.step = none

theorem Stepless.of_nsp {s t : State} (h : Stepless s) (hnsp : t.nsp = s.nsp) : Stepless t := (congrArg Nsp.step hnsp).trans h

theorem stepless_grantTest {s : State} (h : Stepless s) : Stepless (grantTest s) := by
  unfold grantTest; split
  · have hentered : Stepless (enter .prelube s) := enter_step h
    exact hentered.of_nsp (addSeq_nsp _ _)
  · exact h

theorem stepless_contention {s : State} (h : Stepless s) : Stepless (contention s) := by
  unfold contention; split
  · split
    · have hentered : Stepless (enter .running s) := enter_step h
      exact hentered.of_nsp rfl
    · exact h
  · exact h

theorem stepless_upkept {s : State} (h : Stepless s) : Stepless (upkept s) := by
  obtain ⟨x, hx⟩ := upkept_nsp s
  unfold Stepless; rw [hx]; exact h

theorem stepless_decideBlocks (old : State) {s : State} (h : Stepless s) : Stepless (decideBlocks old s) :=
  decideBlocks_keep (P := Stepless) (fun _ => stepless_upkept) (fun _ hs => hs.of_nsp (idleUpkeep_nsp _))
    (fun s => (prior_stopToCooldown (.refl s)).step) (fun s => (prior_triggerTest (.refl s)).step)
    (fun s => (prior_clashTest (.refl s)).step) (fun _ => stepless_grantTest) (fun _ => stepless_contention)
    (fun s => (prior_autostopTest (.refl s)).step) old h

theorem stepless_pumpProtect {s : State} (h : Stepless s) : Stepless (pumpProtect s) := by
  obtain ⟨l, hl⟩ := pumpProtect_nsp s
  unfold Stepless; rw [hl]; exact h

theorem stepless_pumpSequence {s : State} (h : Stepless s) : Stepless (pumpSequence s) := by
  unfold pumpSequence; split
  · split
    next o rest hlist =>
      have hposted : Stepless (notePosted o { s with ssq := { s.ssq with seqList := rest } }) := h.of_nsp (notePosted_nsp _ _)
      simp only []; split
      · exact (prior_seqEnding (.refl _)).step hposted
      · exact hposted.of_nsp (post_nsp _ _ _)
    · exact h
  · exact h

/-! ## What starts is due -/

/-- An up-step in flight stands on the conditions of its start. -/
def ClimbsAsAllowed (s : State) : Prop := ∀ x, s.nsp.step = some x → x.direction = .up → ClimbAllowed s ∧ x = upStep s

theorem Stepless.climbs {s : State} (h : Stepless s) : ClimbsAsAllowed s := fun _ hx _ => nomatch h.symm.trans hx

theorem SameClimb.climbs {s t : State} (h : SameClimb s t) (hstep : t.nsp.step = s.nsp.step) (hs : ClimbsAsAllowed s) :
    ClimbsAsAllowed t := by
  intro x hx hup
  obtain ⟨hallowed, hform⟩ := hs x (hstep.symm.trans hx) hup
  exact ⟨h.allowed hallowed, by rw [hform]; unfold upStep; rw [h.completed]⟩

theorem climbs_stepTest {s : State} (h : Stepless s) : ClimbsAsAllowed (stepTest s) := by
  intro x hx hup
  obtain ⟨hdue, hestop, hform⟩ := upStep_of_stepTest h hx hup
  rw [stepTest_of_upStepDue hdue]
  have hsame := (steppedUp_startUp hestop).same
  exact ⟨hsame.allowed ((upStepDue_iff s).mp hdue).2, by rw [hform]; unfold upStep; rw [hsame.completed]⟩

theorem climbs_react (old : State) {s : State} (h : Stepless s) : ClimbsAsAllowed (react old s) := by
  have hpumped := stepless_pumpSequence (stepless_pumpProtect (stepless_decideBlocks old h))
  unfold react postOrders; simp only []
  generalize pumpSequence (pumpProtect (decideBlocks old s)) = v at hpumped
  split
  · exact climbs_stepTest hpumped
  · exact hpumped.climbs

theorem Shape.climbs {s t : State} (h : Shape s t) (hs : Stepless s) : ClimbsAsAllowed t := by
  cases h with
  | plain h => exact Stepless.climbs (h.step hs)
  | reacted h ht => exact ht.same.climbs (congrArg Nsp.step ht.nsp) (climbs_react _ (h.step hs))
  | sampled h =>
    exact climbs_react _ ((prior_autostopTest (.refl _)).step ((prior_triggerTest (.refl _)).step (stepless_grantTest (h.step hs))))
  | stepped h => exact climbs_stepTest (h.step hs)

/-! ## DWELL_CLOCK_REACHED at the up dwell -/

/-- The dwell clock at its mark, where a climb is wanted and nothing else is against it. -/
theorem steppedUp_at_dwell {d : Nat} {s : State} (hdwell : s.nsp.dwell = some d) (hestop : s.estop = false) (hfree : s.freeToStep = true)
    (htarget : s.nsp.completed < s.targetNotch) (hlive : ∀ n, s.lowestClimbing = some n → s.nsp.completed ≤ n)
    (hstale : s.staleClimber = false) (hhold : s.nsp.abandonHold = none) (hfault : s.faultActive .speedDeviation = false) :
    exec (.dwellClockReached .up) s = .next (startUp (reachDwell (upDwell s.nsp.completed) s))
      ∧ SteppedUp (reachDwell (upDwell s.nsp.completed) s) (startUp (reachDwell (upDwell s.nsp.completed) s)) := by
  have hnotch : s.nsp.completed < 8 := Nat.lt_of_lt_of_le htarget (targetNotch_le s)
  have hmark : s.dwellMark .up = some (upDwell s.nsp.completed) := if_pos hnotch
  have hreached := reachDwell_of_dwell (ms := upDwell s.nsp.completed) hdwell
  have hallowed : ClimbAllowed (reachDwell (upDwell s.nsp.completed) s) := by
    rw [hreached]
    exact ⟨htarget, ⟨_, _, rfl, upDwells_eq _ hnotch, Nat.le_max_left _ _⟩, lowestClimbing_iff.mp hlive, staleClimber_iff.mp hstale,
      hhold, hfault⟩
  have hdue : (reachDwell (upDwell s.nsp.completed) s).upStepDue = true :=
    (upStepDue_iff _).mpr ⟨(freeToStep_iff s).mp hfree, hallowed⟩
  exact ⟨by rw [exec_dwellClockReached hmark (by rw [hdwell]; rfl), stepTest_of_upStepDue hdue], steppedUp_startUp hestop⟩

/-- Settles O36: the test of an up-step is the seven conditions; no other operation of a command starts a step, and what trails a test
changes none of what the conditions read. -/
theorem upStepStartsWithTheGovernor : Obligations.UpStepStartsWithTheGovernor := by
  unfold Obligations.UpStepStartsWithTheGovernor
  refine ⟨?_, freeToStep_iff, fun s hfree hallowed hestop => ?_, fun x s hidle hstarted hup => ?_, ?_⟩
  · intro d s hdwell hestop hfree htarget hlive hstale hhold hfault
    obtain ⟨hexec, hstep⟩ := steppedUp_at_dwell hdwell hestop hfree htarget hlive hstale hhold hfault
    generalize startUp (reachDwell (upDwell s.nsp.completed) s) = t at hexec hstep
    obtain ⟨hnsp, hrequest, hssq, hfcl, houter, hdevices⟩ := hstep
    exact ⟨t, hexec, by rw [hnsp]; rfl, hrequest, by rw [hnsp]; rfl, hssq, hfcl, keepsOutside_of_outer houter,
      keepsDevices_iff.mpr hdevices⟩
  · rw [stepTest_of_upStepDue ((upStepDue_iff s).mpr ⟨hfree, hallowed⟩), (steppedUp_startUp hestop).nsp]; rfl
  · obtain ⟨hdue, -, hform⟩ := upStep_of_stepTest hidle hstarted hup
    obtain ⟨hfree, hallowed⟩ := (upStepDue_iff s).mp hdue
    exact ⟨hfree, hallowed, hform⟩
  · intro cmd x s t hexec hidle hstarted hup hone
    exact (exec_shape (fun _ => hone) hexec).climbs hidle x hstarted hup

end Sys2Proof.Machine
end
